-- ==== Sys2Proof/Word.lean ====
section
/-! DEFINITION. The octet of the cellar bus. Everything else the KB-20 holds is an integer in the units of R1
(spec/00_scope.md); only what the bus carries as bits is a bit vector. -/

namespace Sys2Proof

/-- One octet of a frame (R196): bit 7 is the most significant. -/
abbrev Byte := BitVec 8

end Sys2Proof
end

