-- ==== Sys2Proof/Syntax.lean ====
section
/-! DEFINITION. The commands of the block: one constructor of `Instr` per row of spec/opcode_table.json, and the
types of their operands. An operand is what reaches the part from outside at that step (a pin's level, a converter's
raw count, the octets of a frame), or, where the spec says that either of two effects of ONE step may be taken
first, which of the two is. -/

namespace Sys2Proof

/-- The electrical level of a digital pin. -/
inductive Level where
  | low
  | high
  deriving DecidableEq, Repr

/-- The strap pins as they stand at power-on (R56). -/
structure Straps where
  stn2 : Level
  stn1 : Level
  stn0 : Level
  htr : Level
  deriving DecidableEq, Repr

/-- The five switch pins as they stand at a 10 ms event (R13). -/
structure SwitchPins where
  handle : Level
  kegPresent : Level
  lidClosed : Level
  dripFull : Level
  extStop : Level
  deriving DecidableEq, Repr

/-- The auxiliary lines whose debounced change is row AUX_LINE_CHANGE; EXT_STOP has rows of its own. -/
inductive AuxLine where
  | kegPresent
  | lidClosed
  | dripFull
  deriving DecidableEq, Repr

/-- The three parts of a peer view entry (R42). -/
inductive PeerPart where
  | bay
  | draw
  | chiller
  deriving DecidableEq, Repr

/-- Where a frame is sent (R23). -/
inductive Dest where
  | station (n : Nat)
  | group (g : Nat)
  | all
  deriving DecidableEq, Repr

/-- What a received frame's header says of its sender and its destination (R197); the class is the row itself. -/
structure Header where
  src : Nat
  dest : Dest
  deriving DecidableEq, Repr

/-- What the receiver took in when a reception ended in a discard (R32, R33, R198). -/
inductive Reception where
  /-- a stop bit read dominant -/
  | stopBitDominant
  /-- the bus went idle before the declared length and the CRC had arrived -/
  | cutOff
  /-- the octets from the first of the header on: to the last of the CRC, or the three of a header whose length
  field reads above 16 -/
  | octets (os : List Byte)
  deriving DecidableEq, Repr

/-- The commands of the block, in the order of spec/opcode_table.json. -/
inductive Instr where
  /-- POWER_ON (R68): the straps are read. -/
  | powerOn (straps : Straps)
  /-- EVENT_10MS (R13). -/
  | event10ms (pins : SwitchPins)
  /-- EVENT_100MS (R10): the transducer's raw count, 0 to 4607. `coordinatorFirst`: the draw coordinator takes the
  event and the hand-over before the gas regulator evaluates (either may be first: R154, R161). -/
  | event100ms (raw : Nat) (coordinatorFirst : Bool)
  /-- EVENT_1S (R6): the raw counts of the two probes, 0 to 4095. -/
  | event1s (rawBeer rawJacket : Nat)
  /-- EVENT_1MIN (R97). `sequencerFirst`: the sequencer's count, and the step end and step starts that follow from
  it, are taken before the gas setpoint and the control window are formed (either may be first: R97, R112, R129). -/
  | event1min (sequencerFirst : Bool)
  /-- EVENT_1H (R141). -/
  | event1h
  /-- HANDLE_PRESS (R14). -/
  | handlePress
  /-- HANDLE_RELEASE (R14). -/
  | handleRelease
  /-- AUX_LINE_CHANGE (R15). -/
  | auxLineChange (line : AuxLine)
  /-- EXT_STOP_ACTIVE (R182). -/
  | extStopActive
  /-- EXT_STOP_INACTIVE (R182). -/
  | extStopInactive
  /-- FLOW_PULSE (R17). -/
  | flowPulse
  /-- DURATION_ELAPSED (R76). -/
  | durationElapsed
  /-- HEATER_ON_TIME_END (R102). -/
  | heaterOnTimeEnd
  /-- GLYCOL_OPEN_TIME_END (R120). -/
  | glycolOpenTimeEnd
  /-- REPORT_TIMER (R38). -/
  | reportTimer
  /-- IDLE_TIMER_EXPIRY (R184). -/
  | idleTimerExpiry
  /-- PULSE_TIMER_END (R134). -/
  | pulseTimerEnd
  /-- SETTLE_END (R134). -/
  | settleEnd
  /-- SETTLE_WINDOW_END (R150). -/
  | settleWindowEnd
  /-- KEEP_TIMER_PERIOD (R153). -/
  | keepTimerPeriod
  /-- BACKOFF_END (R151). -/
  | backoffEnd
  /-- RECOVER_END (R155). -/
  | recoverEnd
  /-- STALL_TIMER_START (R170). -/
  | stallTimerStart
  /-- STALL_TIMER_END (R170). -/
  | stallTimerEnd
  /-- LOW_PRESSURE_TIMER_END (R171). -/
  | lowPressureTimerEnd
  /-- TAIL_TIMER_END (R173). -/
  | tailTimerEnd
  /-- PORTION_EXPIRY (R175). -/
  | portionExpiry
  /-- PEER_PART_EXPIRY (R46): the entry's station number and the part. -/
  | peerPartExpiry (station : Nat) (part : PeerPart)
  /-- BUS_IDLE (R24). -/
  | busIdle
  /-- TX_ATTEMPT_START (R28). -/
  | txAttemptStart
  /-- ARBITRATION_LOST (R25): the place of the read-back bit on the wire, 0 the frame's first start bit. -/
  | arbitrationLost (bit : Nat)
  /-- BIT_ERROR (R26): the place of the read-back bit on the wire, 0 the frame's first start bit. -/
  | bitError (bit : Nat)
  /-- FRAME_SENT (R27). -/
  | frameSent
  /-- FRAME_DISCARDED (R32). -/
  | frameDiscarded (rx : Reception)
  /-- RECEIVE_BAY_STATE (R43). -/
  | receiveBayState (h : Header) (payload : List Byte)
  /-- RECEIVE_DRAW (R45). -/
  | receiveDraw (h : Header) (payload : List Byte)
  /-- RECEIVE_COOL_CAP (R47). -/
  | receiveCoolCap (h : Header) (payload : List Byte)
  /-- RECEIVE_POUR (R49). -/
  | receivePour (h : Header) (payload : List Byte)
  /-- RECEIVE_GROUP_SYNC (R86). -/
  | receiveGroupSync (h : Header) (payload : List Byte)
  /-- SETUP_ITEM (R59). Of this and every command below: the frame's header, its tag and its argument octets. -/
  | setupItem (h : Header) (tag : Byte) (args : List Byte)
  /-- START (R63). -/
  | start (h : Header) (tag : Byte) (args : List Byte)
  /-- RESTART (R66). -/
  | restart (h : Header) (tag : Byte) (args : List Byte)
  /-- FORCE_OUTPUT (R21). -/
  | forceOutput (h : Header) (tag : Byte) (args : List Byte)
  /-- WRITE_STEP (R71). -/
  | writeStep (h : Header) (tag : Byte) (args : List Byte)
  /-- READ_STEP (R72). -/
  | readStep (h : Header) (tag : Byte) (args : List Byte)
  /-- SWITCH_BANK (R80). -/
  | switchBank (h : Header) (tag : Byte) (args : List Byte)
  /-- ADVANCE (R87). -/
  | advance (h : Header) (tag : Byte) (args : List Byte)
  /-- PAUSE_PROFILE (R88). -/
  | pauseProfile (h : Header) (tag : Byte) (args : List Byte)
  /-- RESUME_PROFILE (R89). -/
  | resumeProfile (h : Header) (tag : Byte) (args : List Byte)
  /-- STOP_PROFILE (R90). -/
  | stopProfile (h : Header) (tag : Byte) (args : List Byte)
  /-- CLEAR_SUPPLY (R159). -/
  | clearSupply (h : Header) (tag : Byte) (args : List Byte)
  /-- SET_LEVEL (R176). -/
  | setLevel (h : Header) (tag : Byte) (args : List Byte)
  /-- ARM_PORTION (R175). -/
  | armPortion (h : Header) (tag : Byte) (args : List Byte)
  /-- READ_POUR (R178). -/
  | readPour (h : Header) (tag : Byte) (args : List Byte)
  /-- DROP_POURS (R179). -/
  | dropPours (h : Header) (tag : Byte) (args : List Byte)
  /-- READ_VIEW (R54). -/
  | readView (h : Header) (tag : Byte) (args : List Byte)
  /-- QUIET (R186). -/
  | quiet (h : Header) (tag : Byte) (args : List Byte)
  /-- WAKE (R186). -/
  | wake (h : Header) (tag : Byte) (args : List Byte)
  /-- CLEAR_ALARMS (R190). -/
  | clearAlarms (h : Header) (tag : Byte) (args : List Byte)
  /-- LEAVE_SAFE (R193). -/
  | leaveSafe (h : Header) (tag : Byte) (args : List Byte)
  /-- UNKNOWN_COMMAND (R35): the code that names no command. -/
  | unknownCommand (h : Header) (code : Byte) (tag : Byte) (args : List Byte)
  /-- RSTN_HELD_LOW (R3). -/
  | rstnHeldLow
  /-- FIRST_START_BIT (R32). -/
  | firstStartBit
  deriving DecidableEq, Repr

end Sys2Proof
end

