-- ==== Sys2Proof/Config.lean ====
section
/-! DEFINITION. What the spec leaves to the board or to the moment before the first reading, and the model fixes at
`State.reset` (notes/assumptions/1.md and 2.md). The spec leaves no value of an instruction's result open, so there is no
free value here. -/

namespace Sys2Proof.Config

/-- The strap pins that `State.reset` stands for: all four low, so station 1 without a heater. DESIGN CHOICE, unsafe
(notes/assumptions/1.md): R56 reads them from the board. A run with other straps begins with POWER_ON. -/
def resetStraps : Straps := ⟨.low, .low, .low, .low⟩

/-- The level every debounced input holds before the first 10 ms event takes it (true: active). DESIGN CHOICE, unsafe
(notes/assumptions/2.md): R13 gives no level for those 10 ms. -/
def levelBeforeFirstReading : Bool := false

end Sys2Proof.Config
end

