-- ==== Sys2Proof/Machine/State.lean ====
section
/-! DEFINITION. Everything the KB-20 holds, one record per block of the block diagram (spec/00_scope.md), as plain data.
The default value of a field is its power-on value; INVENTORY.md cites the rule of each. A timer that R5 counts in 10 ms
events is the number of events still to run, or none when stopped. -/

namespace Sys2Proof.Machine

/-- The block stops with no fault: every command has an effect in every state, and the spec describes no condition that
stops the part. -/
inductive Fault where
  deriving DecidableEq, Repr

/-- Why a command has no meaning. -/
inductive Refusal where
  /-- Raised only by an arm of `exec` whose row has no meaning yet; safe, since nothing can be proved of a next state.
  Every arm has its meaning, so nothing raises it. -/
  | notModelled (mnemonic : String)
  deriving DecidableEq, Repr

/-- 10 ms events still to run (R5); none: stopped. -/
abbrev Timer := Option Nat

/-! ### Sampling unit (spec/01) -/

/-- A probe's or the transducer's state (R7, R11). -/
inductive SensorState where
  | unseen
  | good
  | fault
  deriving DecidableEq, Repr

/-- A temperature probe (R7, R9); temperatures in sixteenths of a degree. -/
structure Probe where
  state : SensorState := .unseen
  rejectRun : Nat := 0
  validRun : Nat := 0
  filtered : Option Int := none
  deriving DecidableEq, Repr

/-- The pressure transducer (R11, R12); the history holds hPa, newest first. -/
structure Transducer where
  state : SensorState := .unseen
  rejectRun : Nat := 0
  validRun : Nat := 0
  history : List Int := []
  deriving DecidableEq, Repr

/-- A switch input (R13): its debounced level (true: active) and its change count. `undelivered`: the level has changed at
the present 10 ms event, and the row that delivers the change has not been taken (notes/assumptions/9.md). -/
structure Switch where
  active : Bool := Config.levelBeforeFirstReading
  change : Nat := 0
  undelivered : Bool := false
  deriving DecidableEq, Repr

/-- The watch (R16). -/
inductive WatchState where
  | armed
  | tripped
  deriving DecidableEq, Repr

/-- The sampling unit. `levelsTaken`: the first 10 ms event has taken the debounced levels (R13). -/
structure Sampling where
  beer : Probe := {}
  jacket : Probe := {}
  transducer : Transducer := {}
  handle : Switch := {}
  keg : Switch := {}
  lid : Switch := {}
  drip : Switch := {}
  ext : Switch := {}
  levelsTaken : Bool := false
  watch : WatchState := .armed
  deriving DecidableEq, Repr

/-! ### Output drivers (spec/01) -/

/-- An output's drive state (R18). -/
inductive Drive where
  | function
  | forcedOn
  | forcedOff
  deriving DecidableEq, Repr

/-- The five outputs (R18). -/
inductive Output where
  | inlet
  | vent
  | tap
  | glycol
  | heater
  deriving DecidableEq, Repr

/-- The drive states of the five outputs (R18). -/
structure Drivers where
  inlet : Drive := .function
  vent : Drive := .function
  tap : Drive := .function
  glycol : Drive := .function
  heater : Drive := .function
  deriving DecidableEq, Repr

/-! ### Time base (spec/01) -/

/-- The divider chain (R3): finer events counted since the last coarser one, and which coarser events fall on the present
10 ms event and have not been taken; and the uptime in minutes (R4). -/
structure TimeBase where
  tens : Nat := 0
  hundreds : Nat := 0
  seconds : Nat := 0
  minutes : Nat := 0
  due100ms : Bool := false
  due1s : Bool := false
  due1min : Bool := false
  due1h : Bool := false
  uptime : Nat := 0
  deriving DecidableEq, Repr

/-! ### Supervisor (spec/11) -/

/-- The station state (R182). -/
inductive StationState where
  | setup
  | run
  | safe
  deriving DecidableEq, Repr

/-- The eleven alarms (R187). -/
inductive Alarm where
  | beerProbe
  | jacketProbe
  | pressureSensor
  | overpressure
  | leak
  | jacketHot
  | supplyWeak
  | extStop
  | watch
  | duplicate
  | linkFault
  deriving DecidableEq, Repr

/-- The six activity events (R183). -/
inductive Activity where
  | handle
  | peerPour
  | command
  | groupSync
  | lid
  | alarm
  deriving DecidableEq, Repr

/-- A set of alarms: bit k stands for the alarm of code k (R199). -/
abbrev AlarmSet := BitVec 11

/-- The supervisor; `idleCount` is the idle timer's count, whether it runs is R184's condition on the rest.
`leaveSafeRefused`: a LEAVE_SAFE has found EXT_STOP active on the very event that made it so (R193,
notes/assumptions/8.md). -/
structure Supervisor where
  station : StationState := .setup
  quiet : Bool := false
  idleCount : Nat := 0
  active : AlarmSet := 0#11
  latched : AlarmSet := 0#11
  leaveSafeRefused : Bool := false
  deriving DecidableEq, Repr

/-! ### Setup items (spec/04, R58) -/

/-- The stored setup items with their defaults (R58). -/
structure SetupItems where
  groupSet : BitVec 4 := 0#4
  beerOffset : Int := 0
  jacketOffset : Int := 0
  filterShift : Nat := 3
  kp : Int := 40
  ki : Int := 8
  heatBand : Int := 8
  jacketMax : Int := 560
  valveCapacity : Nat := 100
  fallbackCapacity : Nat := 100
  drawLimit : Nat := 2
  atmosphere : Int := 1013
  reliefCeiling : Int := 2500
  band : Int := 40
  serveFloor : Int := 300
  serveMax : Int := 128
  fullScale : Int := 4000
  flowFactor : Nat := 500
  maxPour : Nat := 600
  reserve : Nat := 150
  leakLimit : Int := 60
  idlePeriod : Nat := 60
  activitySet : BitVec 6 := 0b111111#6
  wakeSet : BitVec 6 := 0b100101#6
  watchReference : BitVec 4 := 0b0011#4
  watchSet : BitVec 4 := 0b1111#4
  deriving DecidableEq, Repr

/-- What the straps gave at power-on (R56). -/
structure Identity where
  number : Nat
  heaterFitted : Bool
  deriving DecidableEq, Repr

/-! ### Profile sequencer (spec/05) -/

/-- A gas mode (R70); `openKeg` is the spec's OPEN. -/
inductive GasMode where
  | openKeg
  | spund
  | carbonate
  | serve
  deriving DecidableEq, Repr

/-- A step's gas mode with its carbonation target in centivolumes, which every mode but OPEN has (R70). -/
inductive GasTreatment where
  | openKeg
  | spund (target : Nat)
  | carbonate (target : Nat)
  | serve (target : Nat)
  deriving DecidableEq, Repr

/-- A step's kind; a RAMP has its rate in sixteenths per day (R70). -/
inductive StepKind where
  | soak
  | ramp (rate : Nat)
  deriving DecidableEq, Repr

/-- A step's end with its parameters (R70). -/
inductive EndKind where
  | time
  | activityLow (hours threshold : Nat)
  | groupSync (group : Nat)
  | panel
  | stay
  deriving DecidableEq, Repr

/-- A step record (R70). -/
structure StepRecord where
  kind : StepKind
  target : Int
  duration : Nat
  endKind : EndKind
  gas : GasTreatment
  weight : Nat
  syncOut : Option Nat
  deriving DecidableEq, Repr

/-- The two profile banks (R69). -/
inductive Bank where
  | a
  | b
  deriving DecidableEq, Repr

/-- The profile state (R73). -/
inductive ProfileState where
  | idle
  | running
  | paused
  | ended
  deriving DecidableEq, Repr

/-- The step phase (R75). -/
inductive Phase where
  | ramping
  | soaking
  | waiting
  deriving DecidableEq, Repr

/-- What a pending switch waits on (R82). -/
inductive SwitchSource where
  | stepEnd
  | groupSync (group : Nat)
  deriving DecidableEq, Repr

/-- The pending switch (R80). -/
structure PendingSwitch where
  source : SwitchSource
  startStep : Nat
  deriving DecidableEq, Repr

/-- The profile sequencer (R92); each bank holds 12 slots. -/
structure Sequencer where
  bankA : List (Option StepRecord) := List.replicate 12 none
  bankB : List (Option StepRecord) := List.replicate 12 none
  active : Bank := .a
  pendingSwitch : Option PendingSwitch := none
  profile : ProfileState := .idle
  index : Nat := 0
  phase : Option Phase := none
  count : Nat := 0
  deriving DecidableEq, Repr

/-! ### Temperature regulator (spec/06) and cooling share unit (spec/07) -/

/-- The side on which a demand was clamped (R100). -/
inductive ClampSide where
  | unclamped
  | high
  | low
  deriving DecidableEq, Repr

/-- The temperature regulator (R111). `windowFormed`: a control window has been formed since the last reset; the first one
is an off window in any case (R111, R124). -/
structure Temperature where
  accumulator : Int := 0
  integral : Int := 0
  lastDemand : Int := 0
  clampSide : ClampSide := .unclamped
  heaterDuty : Int := 0
  onTimer : Timer := none
  limitInForce : Bool := false
  windowFormed : Bool := false
  deriving DecidableEq, Repr

/-- The cooling share unit (R125); `openTime` in seconds. -/
structure Cooling where
  capacity : Nat := 100
  demandUnits : Nat := 0
  weight : Nat := 1
  throttle : Nat := 0
  lastGrant : Nat := 0
  openTime : Nat := 0
  openTimer : Timer := none
  deriving DecidableEq, Repr

/-! ### Gas regulator (spec/08) -/

/-- The regulation state. -/
inductive GasState where
  | rest
  | topping
  | pulse
  | settle
  | relief
  | ventOpen
  | sensorVent
  deriving DecidableEq, Repr

/-- The leak check; in a window, its start pressure and start temperature (R142). -/
inductive LeakCheck where
  | off
  | armed
  | inWindow (p0 t0 : Int)
  deriving DecidableEq, Repr

/-- The gas regulator (R145). `buckets`: the complete buckets, newest first; their number is the complete-bucket count.
`bucketBegunNow`: the open bucket was begun since the last 10 ms event, so that a 1 h event on that same event does not
complete it (R141). `ceiling`: the relief ceiling in force at evaluations, the setup item's value at the last 100 ms event
(R61, R136). -/
structure Gas where
  setpoint : Int := 50
  ceiling : Int := 2500
  limitedLow : Bool := false
  limitedHigh : Bool := false
  state : GasState := .rest
  pulseTimer : Timer := none
  settleTimer : Timer := none
  openBucket : Nat := 0
  buckets : List Nat := []
  bucketBegunNow : Bool := false
  leak : LeakCheck := .off
  deriving DecidableEq, Repr

/-! ### Draw coordinator (spec/09) -/

/-- The draw state. -/
inductive DrawState where
  | idle
  | waiting
  | claiming
  | drawing
  | recover
  | backoff
  | locked
  deriving DecidableEq, Repr

/-- The urgency of a draw (R147). -/
inductive Urgency where
  | routine
  | priority
  deriving DecidableEq, Repr

/-- The lockout causes (R160). -/
structure Causes where
  leak : Bool := false
  sensor : Bool := false
  keg : Bool := false
  silent : Bool := false
  gasMode : Bool := false
  deriving DecidableEq, Repr

/-- The draw coordinator (R163). `backoffTimer` also times RECOVER; `backoffElapsed` counts the 10 ms events since the
entry to BACKOFF (R151). `rise`: the rise record, newest first, the entry's held pressure last while it is among the
last 21 (R157). `limit`: the draw limit in force, the setup item's value at the last examination (R61, R148). -/
structure Draw where
  state : DrawState := .idle
  limit : Nat := 2
  need : Bool := false
  urgency : Urgency := .routine
  claimUrgency : Urgency := .routine
  settleWindow : Timer := none
  keepTimer : Timer := none
  keepCount : Nat := 0
  backoffTimer : Timer := none
  backoffElapsed : Nat := 0
  rise : List Int := []
  supplyWeak : Bool := false
  causes : Causes := {}
  deriving DecidableEq, Repr

/-! ### Dispense unit (spec/10) -/

/-- The pour state (R164). -/
inductive PourState where
  | idle
  | flowing
  | tailing
  deriving DecidableEq, Repr

/-- The ending reasons (R177). -/
inductive EndReason where
  | handle
  | portion
  | limit
  | stall
  | empty
  | lowPressure
  | mode
  | stopped
  | fault
  | noKeg
  deriving DecidableEq, Repr

/-- The denial reasons (R177). -/
inductive DenyReason where
  | safe
  | notServing
  | noKeg
  | lidOpen
  | dripFull
  | fault
  | emptyKeg
  | warm
  | lowPressure
  deriving DecidableEq, Repr

/-- A pour record's outcome (R177). -/
inductive PourOutcome where
  | poured (reason : EndReason)
  | denied (reason : DenyReason)
  deriving DecidableEq, Repr

/-- A pour record (R177). -/
structure PourRecord where
  number : Nat
  startMinute : Nat
  duration : Nat
  volume : Nat
  outcome : PourOutcome
  temperature : Option Int
  pressure : Option Int
  portion : Option Nat
  deriving DecidableEq, Repr

/-- The pour in progress; `elapsed` counts the 10 ms events since the entry to FLOWING (R173). -/
structure Pour where
  number : Nat
  startMinute : Nat
  temperature : Option Int
  pressure : Option Int
  portion : Option Nat
  reason : Option EndReason
  elapsed : Nat
  deriving DecidableEq, Repr

/-- The dispense unit (R181). `stallDelay` runs the 3 s before the stall timer begins (R170); the log is oldest first. -/
structure Dispense where
  state : PourState := .idle
  pulses : Nat := 0
  pour : Option Pour := none
  stallDelay : Timer := none
  stallTimer : Timer := none
  lowTimer : Timer := none
  tailTimer : Timer := none
  deferred : Bool := false
  portion : Option Nat := none
  portionTimer : Timer := none
  level : Nat := 0
  log : List PourRecord := []
  wrapped : Bool := false
  nextNumber : Nat := 1
  deriving DecidableEq, Repr

/-! ### Peer view (spec/03) -/

/-- The bay part of an entry; `left` is its remaining lifetime in 10 ms events (R42, R44). -/
structure BayPart where
  profile : ProfileState
  mode : GasMode
  demand : Nat
  weight : Nat
  interval : Nat
  supplyWeak : Bool
  gasLocked : Bool
  pouring : Bool
  left : Nat
  deriving DecidableEq, Repr

/-- A peer's draw state with the urgency it holds (R45); `notDrawing` is the spec's NONE. -/
inductive PeerDraw where
  | notDrawing
  | claiming (urgency : Urgency)
  | drawing (urgency : Urgency)
  deriving DecidableEq, Repr

/-- The draw part of an entry (R45). -/
structure DrawPart where
  draw : PeerDraw
  supplyWeak : Bool
  left : Nat
  deriving DecidableEq, Repr

/-- The chiller part of an entry (R47). -/
structure ChillerPart where
  capacity : Nat
  saturated : Bool
  left : Nat
  deriving DecidableEq, Repr

/-- An entry of the peer view (R42). `drawLater`: of its bay and draw parts the draw part was refreshed later (R51). -/
structure PeerEntry where
  bay : Option BayPart := none
  draw : Option DrawPart := none
  chiller : Option ChillerPart := none
  drawLater : Bool := false
  deriving DecidableEq, Repr

/-- The peer view: the entries of stations 1 to 15 in that order, and the stations whose chiller part is present, the
most recently refreshed first (R51). -/
structure PeerView where
  entries : List PeerEntry := List.replicate 15 {}
  chillers : List Nat := []
  deriving DecidableEq, Repr

/-! ### Link controller (spec/02) -/

/-- The kinds of a DRAW frame (R45). -/
inductive DrawKind where
  | claim
  | keep
  | release
  deriving DecidableEq, Repr

/-- The outcomes of a command (R37). -/
inductive ResultCode where
  | done
  | doneClamped
  | doneReplaced
  | refusedState
  | badArgument
  | busy
  | unknownCommand
  deriving DecidableEq, Repr

/-- A frame as its block queues it. A BAY_STATE is formed at its attempt (R38), so it waits without content. -/
inductive Frame where
  | alarm (a : Alarm) (raised : Bool) (lines : BitVec 4)
  | draw (kind : DrawKind) (urgency : Urgency) (supplyWeak : Bool)
  | groupSync (group : Nat)
  | pourStart (number : Nat)
  | pourEnd (number volume : Nat) (outcome : PourOutcome)
  | result (dest : Nat) (code tag : Byte) (outcome : ResultCode) (data : List Byte)
  | bayState
  deriving DecidableEq, Repr

/-- A queued frame (R28). `liveClaim`: it is the CLAIM the coordinator is in CLAIMING for (R162). -/
structure QFrame where
  frame : Frame
  attempts : Nat := 0
  inFlight : Bool := false
  liveClaim : Bool := false
  deriving DecidableEq, Repr

/-- The own attempt under way: the octets it puts on the wire; whether they carry TX_DROPPED, and whether a frame was
dropped for a full queue since it began (R30). -/
structure Attempt where
  octets : List Byte
  carriesTxDropped : Bool
  droppedSince : Bool
  deriving DecidableEq, Repr

/-- What the link controller takes the bus for (R24, R32). `busy`: not idle and nothing taken in; `ignoring`: ignored
until the next idle, after a discard for length or for a stop bit. -/
inductive Bus where
  | busy
  | idle
  | receiving
  | sending
  | ignoring
  deriving DecidableEq, Repr

/-- The receive frame buffer: empty, or taking in the frame on the bus (R32). Row by row the octets come whole at the
judgement, so a buffer that fills holds no content here. -/
inductive RxBuffer where
  | empty
  | filling
  deriving DecidableEq, Repr

/-- The link controller (R31). `reportBegunNow`: the report count has returned to 0 since the last 10 ms event, so that a
1 s event on that same event does not count (R38). -/
structure Link where
  queue : List QFrame := []
  dropCount : Nat := 0
  txDropped : Bool := false
  silent : Bool := false
  reportCount : Nat := 4
  reportBegunNow : Bool := false
  bus : Bus := .busy
  rx : RxBuffer := .empty
  attempt : Option Attempt := none
  deriving DecidableEq, Repr

/-! ### The whole part -/

/-- The KB-20. `pending`: the commands that wait, first in, first out; `held`: RSTN is low (R3). -/
structure State where
  pending : List Instr
  held : Bool
  ident : Identity
  time : TimeBase
  setup : SetupItems
  sup : Supervisor
  sampling : Sampling
  drivers : Drivers
  link : Link
  view : PeerView
  seq : Sequencer
  temp : Temperature
  cool : Cooling
  gas : Gas
  draw : Draw
  disp : Dispense
  deriving DecidableEq, Repr

/-! ### One update per block -/

namespace State

def mapSup (f : Supervisor → Supervisor) (s : State) : State := { s with sup := f s.sup }
def mapSampling (f : Sampling → Sampling) (s : State) : State := { s with sampling := f s.sampling }
def mapDrivers (f : Drivers → Drivers) (s : State) : State := { s with drivers := f s.drivers }
def mapLink (f : Link → Link) (s : State) : State := { s with link := f s.link }
def mapView (f : PeerView → PeerView) (s : State) : State := { s with view := f s.view }
def mapSeq (f : Sequencer → Sequencer) (s : State) : State := { s with seq := f s.seq }
def mapTemp (f : Temperature → Temperature) (s : State) : State := { s with temp := f s.temp }
def mapCool (f : Cooling → Cooling) (s : State) : State := { s with cool := f s.cool }
def mapGas (f : Gas → Gas) (s : State) : State := { s with gas := f s.gas }
def mapDraw (f : Draw → Draw) (s : State) : State := { s with draw := f s.draw }
def mapDisp (f : Dispense → Dispense) (s : State) : State := { s with disp := f s.disp }
def mapTime (f : TimeBase → TimeBase) (s : State) : State := { s with time := f s.time }
def mapSetup (f : SetupItems → SetupItems) (s : State) : State := { s with setup := f s.setup }

end State

/-- The identity that the straps give: the station number is the three-bit value plus one, STN2 the most significant
(R56). -/
def identityOf (p : Straps) : Identity :=
  let bit (l : Level) : Nat := if l = .high then 1 else 0
  { number := 4 * bit p.stn2 + 2 * bit p.stn1 + bit p.stn0 + 1, heaterFitted := p.htr = .high }

/-- Every block at its power-on value (R68 and the last table of each chapter), before any block has acted. -/
def powerOnValues (p : Straps) : State where
  pending := []
  held := false
  ident := identityOf p
  time := {}
  setup := {}
  sup := {}
  sampling := {}
  drivers := {}
  link := {}
  view := {}
  seq := {}
  temp := {}
  cool := {}
  gas := {}
  draw := {}
  disp := {}

/-- The part right after power-on with the straps of `Config.resetStraps`: the power-on values, with the two blocks that
act at once on the UNSEEN transducer: the gas regulator stands in SENSOR_VENT (R145) and the draw coordinator is LOCKED
by SENSOR (R163). -/
def State.reset : State :=
  let s := powerOnValues Config.resetStraps
  { s with gas := { s.gas with state := .sensorVent },
           draw := { s.draw with state := .locked, causes := { sensor := true } } }

end Sys2Proof.Machine
end

