-- ==== Sys2Proof/Machine/Readings.lean ====
section
/-! DEFINITION. Timers, and what one block reads of another: the held pressure, the handed step record, the readings of
the peer view. Nothing here changes the state. -/

namespace Sys2Proof.Machine

/-! ### Durations (R5) -/

/-- One 10 ms event of a running duration. -/
def tick (t : Timer) : Timer := t.map (· - 1)

/-- The duration's last event has come, and its end has not been taken. -/
def due (t : Timer) : Bool := t == some 0

/-- A running duration is begun again, to run `n` events; one that has ended or is stopped is not (R5). -/
def begunAgain (n : Nat) (t : Timer) : Timer := t.map fun k => if k = 0 then 0 else n

/-- The number of 10 ms events in `d` ms (R5). -/
def ms (d : Nat) : Nat := d / 10

/-- A value clamped to `lo` to `hi` (R2). -/
def clamp (lo hi x : Int) : Int := if x < lo then lo else if hi < x then hi else x

/-! ### Sampling unit -/

/-- The held pressure: the mean of the history, truncated toward zero; none while the history is empty (R12). -/
def heldPressure (t : Transducer) : Option Int :=
  match t.history with
  | [] => none
  | p :: ps => some ((p :: ps).sum.tdiv (ps.length + 1))

/-- The held pressure, for a reader that treats a transducer that is not GOOD as one without a pressure (R11). -/
def goodPressure (t : Transducer) : Option Int :=
  if t.state = .good then heldPressure t else none

/-! ### Profile sequencer (R74) -/

/-- The slots of a bank. -/
def Sequencer.bank (q : Sequencer) : Bank → List (Option StepRecord)
  | .a => q.bankA
  | .b => q.bankB

/-- The bank that is not active (R69). -/
def Sequencer.staged (q : Sequencer) : Bank :=
  match q.active with
  | .a => .b
  | .b => .a

/-- The record in a slot, none for an EMPTY slot and for an index past the last slot. -/
def Sequencer.slot (q : Sequencer) (bank : Bank) (i : Nat) : Option StepRecord := ((q.bank bank)[i]?).join

/-- The current step record; none is handed in IDLE (R74). -/
def Sequencer.current (q : Sequencer) : Option StepRecord :=
  if q.profile = .idle then none else q.slot q.active q.index

def GasTreatment.mode : GasTreatment → GasMode
  | .openKeg => .openKeg
  | .spund _ => .spund
  | .carbonate _ => .carbonate
  | .serve _ => .serve

def GasTreatment.target : GasTreatment → Option Nat
  | .openKeg => none
  | .spund v => some v
  | .carbonate v => some v
  | .serve v => some v

/-- The gas mode handed to the other blocks (R74). -/
def handedMode (s : State) : Option GasMode := s.seq.current.map (·.gas.mode)

/-- The carbonation target handed (R128). -/
def handedTarget (s : State) : Option Nat := s.seq.current.bind (·.gas.target)

/-! ### Temperature regulator -/

/-- The reported setpoint: the accumulator in sixteenths, rounded toward minus infinity (R93). -/
def reportedSetpoint (t : Temperature) : Int := t.accumulator / 65536

/-! ### Peer view (R51) -/

/-- The entry of a station number. -/
def PeerView.entry (v : PeerView) (n : Nat) : PeerEntry := (v.entries[n - 1]?).getD {}

/-- An entry is present while one of its parts is (R48). -/
def PeerEntry.present (e : PeerEntry) : Bool := e.bay.isSome || e.draw.isSome || e.chiller.isSome

/-- The station numbers with their entries. -/
def PeerView.numbered (v : PeerView) : List (Nat × PeerEntry) :=
  (List.range' 1 v.entries.length).zip v.entries

/-- The bay demands reading: station number, demand units and weight of each bay part that asks for something (R51,
R115). -/
def PeerView.demands (v : PeerView) : List (Nat × Nat × Nat) :=
  v.numbered.filterMap fun (n, e) =>
    match e.bay with
    | some b => if 0 < b.demand then some (n, b.demand, b.weight) else none
    | none => none

/-- The chiller reading: the chiller part refreshed most recently; none: no chiller heard (R51). -/
def PeerView.chillerReading (v : PeerView) : Option ChillerPart :=
  match v.chillers with
  | n :: _ => (v.entry n).chiller
  | [] => none

/-- The drawers reading: station number and urgency (R51). -/
def PeerView.drawers (v : PeerView) : List (Nat × Urgency) :=
  v.numbered.filterMap fun (n, e) =>
    match e.draw with
    | some ⟨.drawing u, _, _⟩ => some (n, u)
    | _ => none

/-- The claimants reading: station number and urgency (R51). -/
def PeerView.claimants (v : PeerView) : List (Nat × Urgency) :=
  v.numbered.filterMap fun (n, e) =>
    match e.draw with
    | some ⟨.claiming u, _, _⟩ => some (n, u)
    | _ => none

/-- An entry's supply-weak indication: the flag of whichever of its bay and draw parts was refreshed later, of those that
are present (R51). -/
def PeerEntry.weakIndication (e : PeerEntry) : Bool :=
  match e.bay, e.draw with
  | some b, some d => if e.drawLater then d.supplyWeak else b.supplyWeak
  | some b, none => b.supplyWeak
  | none, some d => d.supplyWeak
  | none, none => false

/-- The supply-weak peers reading: the station numbers of the present entries whose indication is set (R51). -/
def PeerView.weakPeers (v : PeerView) : List Nat :=
  (v.numbered.filter fun (_, e) => e.present && e.weakIndication).map (·.1)

/-! ### Supervisor -/

/-- The idle timer is not stopped: RUN, not QUIET, an idle period other than 0 (R184). -/
def idleStarted (s : State) : Bool := s.sup.station = .run && !s.sup.quiet && s.setup.idlePeriod ≠ 0

/-- The idle timer runs: it is not stopped, and no pour holds it (R184). -/
def idleRunning (s : State) : Bool := idleStarted s && s.disp.state = .idle

/-- The report interval in seconds: 30 while QUIET, else 5 (R38). -/
def reportInterval (s : State) : Nat := if s.sup.quiet then 30 else 5

/-- The effective band: doubled while QUIET (R131). -/
def effectiveBand (s : State) : Int := if s.sup.quiet then 2 * s.setup.band else s.setup.band

end Sys2Proof.Machine
end

