-- ==== Sys2Proof/Machine/Flags.lean ====
section
/-! DEFINITION. Every flag and every output level the spec forms from the state: alarm sets and line sets by the bit
orders of R199, the output pins (R18 to R20), the lockout causes (R160), the leak check's conditions (R142). -/

namespace Sys2Proof.Machine

/-! ### Sets (R199) -/

/-- An alarm's code, its bit in an alarm set. -/
def Alarm.code : Alarm → Nat
  | .beerProbe => 0
  | .jacketProbe => 1
  | .pressureSensor => 2
  | .overpressure => 3
  | .leak => 4
  | .jacketHot => 5
  | .supplyWeak => 6
  | .extStop => 7
  | .watch => 8
  | .duplicate => 9
  | .linkFault => 10

/-- The eleven alarms in the order of their codes. -/
def alarms : List Alarm :=
  [.beerProbe, .jacketProbe, .pressureSensor, .overpressure, .leak, .jacketHot, .supplyWeak, .extStop, .watch,
    .duplicate, .linkFault]

def hasAlarm (x : AlarmSet) (a : Alarm) : Bool := x.getLsbD a.code
def withAlarm (x : AlarmSet) (a : Alarm) : AlarmSet := x ||| BitVec.twoPow 11 a.code
def withoutAlarm (x : AlarmSet) (a : Alarm) : AlarmSet := x &&& ~~~BitVec.twoPow 11 a.code

/-- An activity event's bit in the activity set and the wake set. -/
def Activity.code : Activity → Nat
  | .handle => 0
  | .peerPour => 1
  | .command => 2
  | .groupSync => 3
  | .lid => 4
  | .alarm => 5

/-- The four debounced line levels as a set of lines: bit 0 KEG_PRESENT, 1 LID_CLOSED, 2 DRIP_FULL, 3 EXT_STOP. -/
def lineLevels (u : Sampling) : BitVec 4 :=
  BitVec.ofBoolListLE [u.keg.active, u.lid.active, u.drip.active, u.ext.active]

/-- Group g is in the own group set: bit 0 stands for G1 (R199). -/
def inGroupSet (s : State) (g : Nat) : Bool := 1 ≤ g && g ≤ 4 && s.setup.groupSet.getLsbD (g - 1)

/-- Some watched line's level differs from its reference (R16). -/
def watchMismatch (s : State) : Bool :=
  ((lineLevels s.sampling ^^^ s.setup.watchReference) &&& s.setup.watchSet) ≠ 0#4

/-! ### Output pins (R18 to R20) -/

/-- What an output drives: as its block requests in FUNCTION, as forced otherwise (R18). -/
def Drive.apply (d : Drive) (request : Bool) : Bool :=
  match d with
  | .function => request
  | .forcedOn => true
  | .forcedOff => false

/-- The gas regulator is in RELIEF or SENSOR_VENT, which open VENT over its drive state (R20). -/
def safetyVent (s : State) : Bool := s.gas.state = .relief || s.gas.state = .sensorVent

/-- The VENT pin. -/
def ventPin (s : State) : Bool :=
  !s.held &&
    (safetyVent s || s.drivers.vent.apply (s.gas.state = .pulse || s.gas.state = .ventOpen))

/-- The INLET pin: a forced INLET too is on only while the draw state is DRAWING (R22). -/
def inletPin (s : State) : Bool :=
  !s.held && !(ventPin s) && s.sup.station ≠ .safe && s.draw.state = .drawing &&
    s.drivers.inlet.apply (s.gas.state = .topping)

/-- The TAP pin. -/
def tapPin (s : State) : Bool :=
  !s.held && s.sup.station ≠ .safe && s.drivers.tap.apply (s.disp.state = .flowing)

/-- The GLYCOL pin: on for the window's open time (R120). -/
def glycolPin (s : State) : Bool :=
  !s.held && s.sup.station ≠ .safe && s.drivers.glycol.apply s.cool.openTimer.isSome

/-- The HEATER pin: on for the window's on time, unless one of the conditions of R20 or GLYCOL (R19) holds it off. -/
def heaterPin (s : State) : Bool :=
  !s.held && s.sup.station ≠ .safe && !(glycolPin s) && s.ident.heaterFitted && s.sampling.jacket.state = .good &&
    !s.temp.limitInForce && s.drivers.heater.apply s.temp.onTimer.isSome

/-! ### Conditions of the draw coordinator -/

/-- The lockout causes as their conditions stand (R160). KEG is formed once the debounced levels have been taken
(R163). -/
def formCauses (s : State) : Causes where
  leak := hasAlarm s.sup.latched .leak
  sensor := s.sampling.transducer.state ≠ .good
  keg := s.sampling.levelsTaken && !s.sampling.keg.active
  silent := s.link.silent
  gasMode := s.sup.station = .run && (handedMode s == some .openKeg || handedMode s == some .spund)

/-- At least one cause is present. -/
def Causes.any (c : Causes) : Bool := c.leak || c.sensor || c.keg || c.silent || c.gasMode

/-- The urgency as its conditions stand (R147). -/
def presentUrgency (s : State) : Urgency :=
  if s.sup.station = .run && handedMode s == some .serve &&
      (s.disp.state = .flowing ||
        (match heldPressure s.sampling.transducer with
          | some p => p < s.setup.serveFloor
          | none => false)) then
    .priority
  else .routine

/-- Supply suspension: the own flag or some peer's indication is set (R158). -/
def supplySuspended (s : State) : Bool := s.draw.supplyWeak || !s.view.weakPeers.isEmpty

/-- The permission to claim (R148). -/
def mayClaim (s : State) : Bool :=
  match s.draw.urgency with
  | .routine => !supplySuspended s && s.view.drawers.length < s.setup.drawLimit
  | .priority => (s.view.drawers.filter (·.2 = .priority)).length < s.setup.drawLimit

/-- A claimant ranks above this station's claim: stricter urgency, or the same and a lower station number (R150). -/
def ranksAbove (s : State) (c : Nat × Urgency) : Bool :=
  (c.2 = .priority && s.draw.claimUrgency = .routine) ||
    (c.2 = s.draw.claimUrgency && c.1 < s.ident.number)

/-- What the end of the settle window counts: drawers, and claimants that rank above (R150). -/
def countedAgainst (s : State) : Nat :=
  s.view.drawers.length + (s.view.claimants.filter (ranksAbove s)).length

/-- A ROUTINE drawer's yield test, read after the PRIORITY CLAIM has been entered in the view (R156). Its draw limit is that
of the last examination: DEDUCED, notes/assumptions/34.md. -/
def mustYield (s : State) : Bool :=
  s.draw.state = .drawing && s.draw.urgency = .routine &&
    s.draw.limit ≤ s.view.drawers.length + 1 &&
    s.view.drawers.all fun d => !(d.2 = .routine && s.ident.number < d.1)

/-! ### Conditions of the gas regulator -/

/-- The gas mode for which the regulation is enabled; none when it is not (R132). -/
def enabledMode (s : State) : Option GasMode :=
  if s.sup.station = .run && s.seq.profile ≠ .idle then
    match handedMode s with
    | some .spund => some .spund
    | some .carbonate => some .carbonate
    | some .serve => some .serve
    | _ => none
  else none

/-- The leak check's conditions (R142). -/
def leakConditions (s : State) : Bool :=
  s.sup.station = .run && s.seq.profile ≠ .idle &&
    (handedMode s == some .carbonate || handedMode s == some .serve) &&
    s.gas.state = .rest && (s.draw.state = .idle || s.draw.state = .locked) && s.disp.state = .idle &&
    s.sampling.keg.active && s.sampling.beer.state = .good

/-! ### Conditions of the profile sequencer -/

/-- The step is advancing (R74). -/
def stepAdvancing (s : State) : Bool :=
  (s.seq.profile = .running || s.seq.profile = .ended) && s.sup.station = .run && s.seq.phase = some .ramping

/-- The duration count counts (R75). -/
def durationCounts (s : State) : Bool :=
  s.seq.phase = some .soaking && (s.seq.profile = .running || s.seq.profile = .ended) && s.sup.station = .run

/-- The duration has elapsed (R75). -/
def durationElapsed (s : State) : Bool :=
  match s.seq.current with
  | some r => s.seq.phase = some .soaking && s.seq.count = r.duration * 60
  | none => false

/-! ### Ended durations: the last event has come (R5, R38, R75, R184), and the row that takes the end has not -/

def heaterTimeUp (s : State) : Bool := due s.temp.onTimer
def glycolTimeUp (s : State) : Bool := due s.cool.openTimer
def pulseTimeUp (s : State) : Bool := s.gas.state = .pulse && due s.gas.pulseTimer
def settleTimeUp (s : State) : Bool := s.gas.state = .settle && due s.gas.settleTimer
def claimWindowUp (s : State) : Bool := s.draw.state = .claiming && due s.draw.settleWindow
def keepPeriodUp (s : State) : Bool := s.draw.state = .drawing && due s.draw.keepTimer
def backoffUp (s : State) : Bool := s.draw.state = .backoff && due s.draw.backoffTimer
def recoverUp (s : State) : Bool := s.draw.state = .recover && due s.draw.backoffTimer
def stallDelayUp (s : State) : Bool := s.disp.state = .flowing && due s.disp.stallDelay
def stallTimeUp (s : State) : Bool := s.disp.state = .flowing && due s.disp.stallTimer
def lowPressureTimeUp (s : State) : Bool := s.disp.state = .flowing && due s.disp.lowTimer
def tailTimeUp (s : State) : Bool := s.disp.state = .tailing && due s.disp.tailTimer
def portionTimeUp (s : State) : Bool := due s.disp.portionTimer

/-- The report count stands at the interval (R38); it does not count in SILENT (R39). -/
def reportUp (s : State) : Bool := !s.link.silent && reportInterval s ≤ s.link.reportCount

/-- The idle count stands at the period (R184). A pour granted since the 1 min event that counted it does not hold the
expiry off (notes/assumptions/15.md). -/
def idleTimeUp (s : State) : Bool := idleStarted s && s.setup.idlePeriod ≤ s.sup.idleCount

/-- The duration has elapsed; in PAUSED a phase changes only by a step start (R76), so the end waits. -/
def durationUp (s : State) : Bool := durationElapsed s && s.seq.profile ≠ .paused

/-- A part of the entry has run out of its lifetime (R46 to R48). -/
def PeerEntry.lifetimeUp (e : PeerEntry) : Bool :=
  e.bay.any (·.left = 0) || e.draw.any (·.left = 0) || e.chiller.any (·.left = 0)

/-- The end of some duration is to be taken. -/
def endToTake (s : State) : Bool :=
  heaterTimeUp s || glycolTimeUp s || pulseTimeUp s || settleTimeUp s || claimWindowUp s || keepPeriodUp s ||
    backoffUp s || recoverUp s || stallDelayUp s || stallTimeUp s || lowPressureTimeUp s || tailTimeUp s ||
    portionTimeUp s || reportUp s || idleTimeUp s || durationUp s || s.view.entries.any (·.lifetimeUp)

/-- The activity ring satisfies an ACTIVITY_LOW end: at least `hours` complete buckets, the newest `hours` of them each
below `threshold` (R85). -/
def activityLow (g : Gas) (hours threshold : Nat) : Bool :=
  hours ≤ g.buckets.length && (g.buckets.take hours).all (· < threshold)

/-- A RUNNING step in WAITING whose end is met at a test of R84 or R85: TIME at once, ACTIVITY_LOW in RUN by the ring. -/
def waitingEndMet (s : State) : Bool :=
  s.seq.profile = .running && s.seq.phase = some .waiting &&
    match s.seq.current with
    | some r =>
      match r.endKind with
      | .time => true
      | .activityLow n h => s.sup.station = .run && activityLow s.gas n h
      | .groupSync _ | .panel | .stay => false
    | none => false

end Sys2Proof.Machine
end

