-- ==== Sys2Proof/Machine/Wire.lean ====
section
/-! DEFINITION. The octets of frames and records (spec/12, spec/02 R23): byte order, CRC, header, the payload of every
class the KB-20 sends, the step record and the pour record. -/

namespace Sys2Proof.Machine

/-! ### Octets (R196) -/

def byte (n : Nat) : Byte := BitVec.ofNat 8 n
def be16 (n : Nat) : List Byte := [byte (n / 256), byte n]
def be32 (n : Nat) : List Byte := be16 (n / 65536) ++ be16 n

/-- The two's complement of a signed value in `w` bits. -/
def twos (w : Nat) (x : Int) : Nat := (x % (2 ^ w : Nat)).toNat

/-- Two octets as an unsigned value. -/
def word16 (hi lo : Byte) : Nat := hi.toNat * 256 + lo.toNat

/-- Two octets as a signed value. -/
def signed16 (hi lo : Byte) : Int := (hi ++ lo).toInt

def bit (b : Bool) : Nat := if b then 1 else 0

/-- Bits `hi` down to `lo` of an octet. -/
def bitsOf (o : Byte) (hi lo : Nat) : Nat := o.toNat / 2 ^ lo % 2 ^ (hi - lo + 1)

/-! ### CRC-16 (R23) -/

/-- The eight bits of an octet, the most significant first. -/
def octetBits (o : Byte) : List Bool := (List.range 8).map o.getMsbD

/-- One bit through the CRC register, polynomial 0x1021. -/
def crcBit (c : BitVec 16) (b : Bool) : BitVec 16 :=
  if c.msb ^^ b then (c <<< 1) ^^^ 0x1021#16 else c <<< 1

/-- The CRC over octets, initial value 0xFFFF, no reflection, no final inversion. -/
def crc16 (os : List Byte) : BitVec 16 := (os.flatMap octetBits).foldl crcBit 0xFFFF#16

/-! ### Header (R23, R197) -/

/-- The eight frame classes (R23, R197). -/
inductive FrameClass where
  | alarm
  | draw
  | coolCap
  | groupSync
  | pour
  | command
  | result
  | bayState
  deriving DecidableEq, Repr

/-- A class's number in the class table. -/
def FrameClass.number : FrameClass → Nat
  | .alarm => 1
  | .draw => 2
  | .coolCap => 3
  | .groupSync => 4
  | .pour => 5
  | .command => 6
  | .result => 7
  | .bayState => 8

/-- A class's priority in the class table. -/
def FrameClass.priority : FrameClass → Nat
  | .alarm => 1
  | .draw => 2
  | .coolCap => 2
  | .groupSync => 3
  | .pour => 4
  | .command => 4
  | .result => 5
  | .bayState => 6

/-- The classes in the order of their numbers. -/
def frameClasses : List FrameClass :=
  [.alarm, .draw, .coolCap, .groupSync, .pour, .command, .result, .bayState]

/-- The class of a number; none for one absent from the class table (R198). -/
def classOf (n : Nat) : Option FrameClass := frameClasses.find? (·.number = n)

/-- The class of a frame the KB-20 sends. -/
def Frame.frameClass : Frame → FrameClass
  | .alarm .. => .alarm
  | .draw .. => .draw
  | .groupSync _ => .groupSync
  | .pourStart _ | .pourEnd .. => .pour
  | .result .. => .result
  | .bayState => .bayState

/-- The class number of a frame the KB-20 sends. -/
def Frame.cls (f : Frame) : Nat := f.frameClass.number

/-- The priority of a frame the KB-20 sends. -/
def Frame.priority (f : Frame) : Nat := f.frameClass.priority

/-- The destination of a frame the KB-20 sends. -/
def Frame.dest : Frame → Dest
  | .groupSync g => .group g
  | .result n .. => .station n
  | .alarm .. | .draw .. | .pourStart _ | .pourEnd .. | .bayState => .all

/-- The numeric value of the arbitration field; the lower value wins the bus (R23). -/
def arbitrationField (priority cls source : Nat) : Nat := priority * 512 + cls * 16 + source

def Dest.kind : Dest → Nat
  | .station _ => 0
  | .group _ => 1
  | .all => 2

def Dest.number : Dest → Nat
  | .station n => n
  | .group g => g
  | .all => 0

/-- The three header octets (R197). -/
def headerOctets (priority cls source : Nat) (dest : Dest) (length : Nat) : List Byte :=
  [byte (priority * 32 + cls), byte (source * 16 + Dest.number dest), byte (Dest.kind dest * 64 + length)]

/-! ### Received octets (R32, R197, R198) -/

/-- The fields of a received header. The unused header bit is ignored. -/
structure WireHeader where
  priority : Nat
  cls : Nat
  src : Nat
  destNumber : Nat
  destKind : Nat
  length : Nat
  deriving DecidableEq, Repr

/-- The three header octets split into their fields (R197). -/
def splitHeader (o0 o1 o2 : Byte) : WireHeader where
  priority := bitsOf o0 7 5
  cls := bitsOf o0 4 0
  src := bitsOf o1 7 4
  destNumber := bitsOf o1 3 0
  destKind := bitsOf o2 7 6
  length := bitsOf o2 4 0

/-- The destination of a kind and a number; none for the kind 3, and for ALL the number is ignored (R198). -/
def destOf (kind number : Nat) : Option Dest :=
  match kind with
  | 0 => some (.station number)
  | 1 => some (.group number)
  | 2 => some .all
  | _ => none

/-- What the octets of a reception are before any address is tested (R32). `broken`: octets are missing or too many, or the
CRC differs. -/
inductive WireFrame where
  | tooLong
  | broken
  | good (h : WireHeader) (payload : List Byte)
  deriving DecidableEq, Repr

/-- The octets of a reception read by length field and CRC (R23, R32). -/
def readFrame (os : List Byte) : WireFrame :=
  match os with
  | o0 :: o1 :: o2 :: rest =>
    let h := splitHeader o0 o1 o2
    if 16 < h.length then .tooLong
    else if os.length ≠ h.length + 5 then .broken
    else if be16 (crc16 (os.take (h.length + 3))).toNat = os.drop (h.length + 3) then .good h (rest.take h.length)
    else .broken
  | _ => .broken

/-! ### Codes (R199, R201) -/

def ProfileState.code : ProfileState → Nat
  | .idle => 0
  | .running => 1
  | .paused => 2
  | .ended => 3

def GasMode.code : GasMode → Nat
  | .openKeg => 0
  | .spund => 1
  | .carbonate => 2
  | .serve => 3

def StationState.code : StationState → Nat
  | .setup => 0
  | .run => 1
  | .safe => 2

def Bank.code : Bank → Nat
  | .a => 0
  | .b => 1

def DrawState.code : DrawState → Nat
  | .idle => 0
  | .waiting => 1
  | .claiming => 2
  | .drawing => 3
  | .recover => 4
  | .backoff => 5
  | .locked => 6

def Urgency.code : Urgency → Nat
  | .routine => 0
  | .priority => 1

def DrawKind.code : DrawKind → Nat
  | .claim => 0
  | .keep => 1
  | .release => 2

def ResultCode.code : ResultCode → Nat
  | .done => 0
  | .doneClamped => 1
  | .doneReplaced => 2
  | .refusedState => 3
  | .badArgument => 4
  | .busy => 5
  | .unknownCommand => 6

def EndReason.code : EndReason → Nat
  | .handle => 0
  | .portion => 1
  | .limit => 2
  | .stall => 3
  | .empty => 4
  | .lowPressure => 5
  | .mode => 6
  | .stopped => 7
  | .fault => 8
  | .noKeg => 9

def DenyReason.code : DenyReason → Nat
  | .safe => 0
  | .notServing => 1
  | .noKeg => 2
  | .lidOpen => 3
  | .dripFull => 4
  | .fault => 5
  | .emptyKeg => 6
  | .warm => 7
  | .lowPressure => 8

/-- The pour record outcome octet: bit 7 DENIED, bits 4 to 0 the reason. -/
def PourOutcome.code : PourOutcome → Nat
  | .poured r => r.code
  | .denied r => 128 + r.code

/-! ### Payloads (R199) -/

/-- The 16 octets of a BAY_STATE with the values held now (R38, R199). -/
def bayStatePayload (s : State) : List Byte :=
  let mode := ((handedMode s).map GasMode.code).getD 0
  let temps := twos 12 (s.sampling.beer.filtered.getD (-2048)) * 4096 + twos 12 (reportedSetpoint s.temp)
  let tail := s.disp.level / 10 * 2097152 + s.sup.latched.toNat * 1024 + (s.gas.buckets.head?).getD 0
  [ byte (s.seq.profile.code * 64 + mode * 16 + s.sup.station.code * 4 + s.seq.active.code * 2 + bit s.sup.quiet),
    byte (s.seq.index * 16 + (s.cool.weight - 1) * 4 + bit s.gas.limitedLow * 2 + bit s.gas.limitedHigh),
    byte (reportInterval s),
    byte (temps / 65536), byte (temps / 256), byte temps ] ++
  be16 (twos 16 ((heldPressure s.sampling.transducer).getD (-32768))) ++
  be16 (twos 16 s.gas.setpoint) ++
  [ byte s.cool.demandUnits,
    byte (s.draw.state.code * 32 + s.draw.urgency.code * 16 + bit s.draw.supplyWeak * 8 +
      bit (s.draw.state = .locked) * 4 + bit (s.disp.state ≠ .idle) * 2 + bit s.link.txDropped) ] ++
  be32 tail

/-- A frame's payload at the start of its attempt. -/
def Frame.payload (s : State) : Frame → List Byte
  | .alarm a raised lines => [byte a.code, byte (bit raised * 128 + lines.toNat)]
  | .draw kind urgency weak => [byte (kind.code * 64 + urgency.code * 32 + bit weak * 16)]
  | .groupSync _ => []
  | .pourStart n => [byte 0] ++ be32 n ++ be16 0 ++ [byte 0]
  | .pourEnd n volume outcome => [byte 1] ++ be32 n ++ be16 volume ++ [byte outcome.code]
  | .result _ code tag outcome data => [code, tag, byte outcome.code] ++ data
  | .bayState => bayStatePayload s

/-- The octets of a frame from its header to its CRC, high octet first (R23). -/
def frameOctets (s : State) (f : Frame) : List Byte :=
  let p := f.payload s
  let body := headerOctets f.priority f.cls s.ident.number f.dest p.length ++ p
  body ++ be16 (crc16 body).toNat

/-! ### Bits on the wire (R24) -/

/-- The bits of a frame on the wire, true recessive: each octet between a dominant start bit and a recessive stop
bit. -/
def wireBits (os : List Byte) : List Bool := os.flatMap fun o => false :: octetBits o ++ [true]

/-- A bit's place lies in the arbitration field: the first octet and the high half of the second (R197). The stop bit
between them (place 9) is no bit of the field; read dominant, it is taken for lost arbitration and not for a bit error:
DESIGN CHOICE, notes/assumptions/23.md. -/
def inArbitrationField (place : Nat) : Bool := place < 15

/-- What a sender that reads the other level back at a place makes of it: arbitration lost when it left the bus
recessive within the arbitration field (R25). -/
def losesArbitration (os : List Byte) (place : Nat) : Bool :=
  inArbitrationField place && (wireBits os)[place]? == some true

/-- A bit error: any other bit of the frame read back at the other level (R26). -/
def isBitError (os : List Byte) (place : Nat) : Bool :=
  place < (wireBits os).length && !losesArbitration os place

/-! ### Records -/

/-- The 12 octets of a slot (R201): absent fields 0, EMPTY all 0. -/
def stepOctets : Option StepRecord → List Byte
  | none => List.replicate 12 0#8
  | some r =>
    let kind := match r.kind with
      | .soak => 1
      | .ramp _ => 2
    let rate := match r.kind with
      | .soak => 0
      | .ramp x => x
    let (ending, p7, p8) := match r.endKind with
      | .time => (0, 0, 0)
      | .activityLow n h => (1, n, h)
      | .groupSync g => (2, g, 0)
      | .panel => (3, 0, 0)
      | .stay => (4, 0, 0)
    [byte (kind * 64 + ending * 8 + r.gas.mode.code * 2)] ++ be16 (twos 16 r.target) ++ be16 rate ++
      be16 r.duration ++ [byte p7, byte p8] ++ be16 (r.gas.target.getD 0) ++
      [byte (r.weight * 32 + r.syncOut.getD 0)]

/-- Part 0 of READ_POUR's result data (R203). -/
def pourPart0 (d : Dispense) (r : PourRecord) : List Byte :=
  [byte (bit d.wrapped * 128 + d.log.length)] ++ be32 r.number ++ be32 r.startMinute ++ be32 d.nextNumber

/-- Part 1 of READ_POUR's result data (R203). -/
def pourPart1 (r : PourRecord) : List Byte :=
  be16 r.number ++ [byte r.outcome.code] ++ be16 r.duration ++ be16 r.volume ++
    be16 (twos 16 (r.temperature.getD (-32768))) ++ be16 (twos 16 (r.pressure.getD (-32768))) ++
    be16 (r.portion.getD 0)

/-- A lifetime's 10 ms events still to run. A lifetime whose last event has come, and whose expiry has not yet been
taken, reads as the one event it ran a moment ago: a present part never shows 0 (R54). -/
def lifeLeft (left : Nat) : Nat := max 1 left

/-- READ_VIEW's result data (R54, R201). A draw part in NONE holds no urgency (R45), and its urgency bit is sent 0: DESIGN
CHOICE, notes/assumptions/33.md. -/
def viewOctets (station : Nat) (e : PeerEntry) : List Byte :=
  let flags := bit e.chiller.isSome * 128 + bit e.draw.isSome * 64 + bit e.bay.isSome * 32 + bit e.present * 16
  let bay1 := match e.bay with
    | some p => p.profile.code * 64 + p.mode.code * 16 + (p.weight - 1) * 4 + bit p.supplyWeak * 2 + bit p.gasLocked
    | none => 0
  let drawBits := match e.draw with
    | some ⟨.notDrawing, w, _⟩ => bit w * 8
    | some ⟨.claiming u, w, _⟩ => 32 + u.code * 16 + bit w * 8
    | some ⟨.drawing u, w, _⟩ => 64 + u.code * 16 + bit w * 8
    | none => 0
  let pouring := match e.bay with
    | some p => bit p.pouring * 128
    | none => 0
  let saturated := match e.chiller with
    | some c => bit c.saturated * 4
    | none => 0
  [ byte (flags + station), byte bay1, byte (pouring + drawBits + saturated),
    byte ((e.bay.map (·.demand)).getD 0), byte ((e.bay.map (·.interval)).getD 0),
    byte ((e.bay.map fun p => (lifeLeft p.left + 99) / 100).getD 0),
    byte ((e.draw.map fun p => (lifeLeft p.left + 9) / 10).getD 0) ] ++
  be16 ((e.chiller.map (·.capacity)).getD 0) ++
  [ byte ((e.chiller.map fun p => (lifeLeft p.left + 9) / 10).getD 0) ]

end Sys2Proof.Machine
end

