-- ==== Sys2Proof/Machine/Operands.lean ====
section
/-! DEFINITION. What the octets of a received frame mean: the command table and its argument lengths (R201), setup items
and their ranges (R58 to R60), the step record with its checks and clamps (R71, R202), the payloads of peers (R200). -/

namespace Sys2Proof.Machine

/-! ### Commands (R201) -/

/-- The 21 commands. -/
inductive CommandName where
  | setupItem
  | start
  | restart
  | forceOutput
  | writeStep
  | readStep
  | switchBank
  | advance
  | pauseProfile
  | resumeProfile
  | stopProfile
  | clearSupply
  | setLevel
  | armPortion
  | readPour
  | dropPours
  | readView
  | quiet
  | wake
  | clearAlarms
  | leaveSafe
  deriving DecidableEq, Repr

/-- A command's code. -/
def CommandName.code : CommandName → Byte
  | .setupItem => 0x01#8
  | .start => 0x02#8
  | .restart => 0x03#8
  | .forceOutput => 0x04#8
  | .writeStep => 0x10#8
  | .readStep => 0x11#8
  | .switchBank => 0x12#8
  | .advance => 0x13#8
  | .pauseProfile => 0x14#8
  | .resumeProfile => 0x15#8
  | .stopProfile => 0x16#8
  | .clearSupply => 0x20#8
  | .setLevel => 0x30#8
  | .armPortion => 0x31#8
  | .readPour => 0x32#8
  | .dropPours => 0x33#8
  | .readView => 0x40#8
  | .quiet => 0x50#8
  | .wake => 0x51#8
  | .clearAlarms => 0x52#8
  | .leaveSafe => 0x53#8

/-- A command's argument length in octets. -/
def CommandName.argLength : CommandName → Nat
  | .setupItem => 3
  | .forceOutput => 2
  | .writeStep => 13
  | .readStep => 2
  | .switchBank => 3
  | .setLevel => 2
  | .armPortion => 2
  | .readPour => 1
  | .dropPours => 1
  | .readView => 1
  | .clearAlarms => 2
  | .start | .restart | .advance | .pauseProfile | .resumeProfile | .stopProfile | .clearSupply | .quiet | .wake
  | .leaveSafe => 0

/-- The commands taken from a GROUP or ALL destination (R36). -/
def CommandName.takenByGroup : CommandName → Bool
  | .pauseProfile | .resumeProfile | .quiet | .wake | .clearSupply | .leaveSafe => true
  | .setupItem | .start | .restart | .forceOutput | .writeStep | .readStep | .switchBank | .advance | .stopProfile
  | .setLevel | .armPortion | .readPour | .dropPours | .readView | .clearAlarms => false

/-- The commands in the order of their codes. -/
def commandNames : List CommandName :=
  [.setupItem, .start, .restart, .forceOutput, .writeStep, .readStep, .switchBank, .advance, .pauseProfile,
    .resumeProfile, .stopProfile, .clearSupply, .setLevel, .armPortion, .readPour, .dropPours, .readView, .quiet,
    .wake, .clearAlarms, .leaveSafe]

/-- The code names a command (R35). -/
def namesCommand (code : Byte) : Bool := commandNames.any (·.code = code)

/-- The row of a command. -/
def CommandName.row (h : Header) (tag : Byte) (args : List Byte) : CommandName → Instr
  | .setupItem => .setupItem h tag args
  | .start => .start h tag args
  | .restart => .restart h tag args
  | .forceOutput => .forceOutput h tag args
  | .writeStep => .writeStep h tag args
  | .readStep => .readStep h tag args
  | .switchBank => .switchBank h tag args
  | .advance => .advance h tag args
  | .pauseProfile => .pauseProfile h tag args
  | .resumeProfile => .resumeProfile h tag args
  | .stopProfile => .stopProfile h tag args
  | .clearSupply => .clearSupply h tag args
  | .setLevel => .setLevel h tag args
  | .armPortion => .armPortion h tag args
  | .readPour => .readPour h tag args
  | .dropPours => .dropPours h tag args
  | .readView => .readView h tag args
  | .quiet => .quiet h tag args
  | .wake => .wake h tag args
  | .clearAlarms => .clearAlarms h tag args
  | .leaveSafe => .leaveSafe h tag args

/-- The row of a command code: the command it names, or UNKNOWN_COMMAND (R35). -/
def commandRow (h : Header) (code tag : Byte) (args : List Byte) : Instr :=
  match commandNames.find? (·.code = code) with
  | some n => n.row h tag args
  | none => .unknownCommand h code tag args

/-! ### Setup items (R58, R60) -/

/-- The 26 setup items in the order of their codes. -/
inductive ItemName where
  | groupSet
  | beerOffset
  | jacketOffset
  | filterShift
  | kp
  | ki
  | heatBand
  | jacketMax
  | valveCapacity
  | fallbackCapacity
  | drawLimit
  | atmosphere
  | reliefCeiling
  | band
  | serveFloor
  | serveMax
  | fullScale
  | flowFactor
  | maxPour
  | reserve
  | leakLimit
  | idlePeriod
  | activitySet
  | wakeSet
  | watchReference
  | watchSet
  deriving DecidableEq, Repr

/-- The items by code, 0 to 25 (R201). -/
def itemNames : List ItemName :=
  [.groupSet, .beerOffset, .jacketOffset, .filterShift, .kp, .ki, .heatBand, .jacketMax, .valveCapacity,
    .fallbackCapacity, .drawLimit, .atmosphere, .reliefCeiling, .band, .serveFloor, .serveMax, .fullScale, .flowFactor,
    .maxPour, .reserve, .leakLimit, .idlePeriod, .activitySet, .wakeSet, .watchReference, .watchSet]

/-- The values an item may take (R58). -/
inductive ItemValues where
  | range (lo hi : Int)
  | idle
  | members (n : Nat)
  deriving DecidableEq, Repr

def ItemName.values : ItemName → ItemValues
  | .groupSet => .members 4
  | .beerOffset => .range (-32) 32
  | .jacketOffset => .range (-32) 32
  | .filterShift => .range 0 5
  | .kp => .range 0 100
  | .ki => .range 0 255
  | .heatBand => .range 2 64
  | .jacketMax => .range 320 720
  | .valveCapacity => .range 1 250
  | .fallbackCapacity => .range 0 2000
  | .drawLimit => .range 1 4
  | .atmosphere => .range 800 1100
  | .reliefCeiling => .range 1000 3500
  | .band => .range 10 200
  | .serveFloor => .range 100 1500
  | .serveMax => .range 0 256
  | .fullScale => .range 2000 6000
  | .flowFactor => .range 500 20000
  | .maxPour => .range 100 1500
  | .reserve => .range 0 1000
  | .leakLimit => .range 20 500
  | .idlePeriod => .idle
  | .activitySet => .members 6
  | .wakeSet => .members 6
  | .watchReference => .members 4
  | .watchSet => .members 4

/-- The value to store: the value brought into range (R60), none for a set that names a member outside the item's
(R59). -/
def ItemValues.fit : ItemValues → Int → Option Int
  | .range lo hi, v => some (clamp lo hi v)
  | .idle, v => some (if v ≤ 0 then 0 else clamp 10 240 v)
  | .members n, v => if 0 ≤ v ∧ v < (2 ^ n : Nat) then some v else none

/-- The value an item holds. -/
def SetupItems.get (x : SetupItems) : ItemName → Int
  | .groupSet => x.groupSet.toNat
  | .beerOffset => x.beerOffset
  | .jacketOffset => x.jacketOffset
  | .filterShift => x.filterShift
  | .kp => x.kp
  | .ki => x.ki
  | .heatBand => x.heatBand
  | .jacketMax => x.jacketMax
  | .valveCapacity => x.valveCapacity
  | .fallbackCapacity => x.fallbackCapacity
  | .drawLimit => x.drawLimit
  | .atmosphere => x.atmosphere
  | .reliefCeiling => x.reliefCeiling
  | .band => x.band
  | .serveFloor => x.serveFloor
  | .serveMax => x.serveMax
  | .fullScale => x.fullScale
  | .flowFactor => x.flowFactor
  | .maxPour => x.maxPour
  | .reserve => x.reserve
  | .leakLimit => x.leakLimit
  | .idlePeriod => x.idlePeriod
  | .activitySet => x.activitySet.toNat
  | .wakeSet => x.wakeSet.toNat
  | .watchReference => x.watchReference.toNat
  | .watchSet => x.watchSet.toNat

/-- The items with one of them replaced. -/
def SetupItems.put (x : SetupItems) (v : Int) : ItemName → SetupItems
  | .groupSet => { x with groupSet := BitVec.ofInt 4 v }
  | .beerOffset => { x with beerOffset := v }
  | .jacketOffset => { x with jacketOffset := v }
  | .filterShift => { x with filterShift := v.toNat }
  | .kp => { x with kp := v }
  | .ki => { x with ki := v }
  | .heatBand => { x with heatBand := v }
  | .jacketMax => { x with jacketMax := v }
  | .valveCapacity => { x with valveCapacity := v.toNat }
  | .fallbackCapacity => { x with fallbackCapacity := v.toNat }
  | .drawLimit => { x with drawLimit := v.toNat }
  | .atmosphere => { x with atmosphere := v }
  | .reliefCeiling => { x with reliefCeiling := v }
  | .band => { x with band := v }
  | .serveFloor => { x with serveFloor := v }
  | .serveMax => { x with serveMax := v }
  | .fullScale => { x with fullScale := v }
  | .flowFactor => { x with flowFactor := v.toNat }
  | .maxPour => { x with maxPour := v.toNat }
  | .reserve => { x with reserve := v.toNat }
  | .leakLimit => { x with leakLimit := v }
  | .idlePeriod => { x with idlePeriod := v.toNat }
  | .activitySet => { x with activitySet := BitVec.ofInt 6 v }
  | .wakeSet => { x with wakeSet := BitVec.ofInt 6 v }
  | .watchReference => { x with watchReference := BitVec.ofInt 4 v }
  | .watchSet => { x with watchSet := BitVec.ofInt 4 v }

/-! ### Step records (R71, R201, R202) -/

/-- What a WRITE_STEP's record comes to after checks 3 to 7 of R71. -/
inductive StepArgument where
  | undefined
  | empty
  | record (r : StepRecord) (clamped : Bool)
  deriving DecidableEq, Repr

/-- A natural number clamped to `lo` to `hi`. -/
def clampNat (lo hi n : Nat) : Nat := if n < lo then lo else if hi < n then hi else n

/-- The fields of a step record's 12 octets, before any check. -/
structure RawStep where
  kind : Nat
  ending : Nat
  mode : Nat
  target : Int
  rate : Nat
  duration : Nat
  p7 : Nat
  p8 : Nat
  carbonation : Nat
  weight : Nat
  sync : Nat
  deriving DecidableEq, Repr

/-- The fields of a step record's octets (R201). -/
def rawStep : List Byte → Option RawStep
  | [o0, o1, o2, o3, o4, o5, o6, o7, o8, o9, o10, o11] =>
    some
      { kind := bitsOf o0 7 6, ending := bitsOf o0 5 3, mode := bitsOf o0 2 1, target := signed16 o1 o2,
        rate := word16 o3 o4, duration := word16 o5 o6, p7 := o7.toNat, p8 := o8.toNat,
        carbonation := word16 o9 o10, weight := bitsOf o11 7 5, sync := bitsOf o11 2 0 }
  | _ => none

/-- A field outside its defined values: check 4 of R71 (R202). The gas mode's two bits name a mode each. -/
def RawStep.undefinedField (x : RawStep) : Bool :=
  x.kind = 3 || 5 ≤ x.ending || (x.ending = 2 && (x.p7 < 1 || 4 < x.p7)) || 5 ≤ x.sync

/-- The gas mode of a two-bit code. -/
def gasModeOf (n : Nat) : GasMode :=
  if n = 0 then .openKeg else if n = 1 then .spund else if n = 2 then .carbonate else .serve

/-- The gas treatment stored: no target with OPEN. -/
def treatmentOf (m : GasMode) (target : Nat) : GasTreatment :=
  match m with
  | .openKeg => .openKeg
  | .spund => .spund target
  | .carbonate => .carbonate target
  | .serve => .serve target

/-- The end stored, its hours clamped. -/
def RawStep.endKind (x : RawStep) : EndKind :=
  if x.ending = 0 then .time
  else if x.ending = 1 then .activityLow (clampNat 1 8 x.p7) x.p8
  else if x.ending = 2 then .groupSync x.p7
  else if x.ending = 3 then .panel
  else .stay

/-- The record stored: each field clamped into its range, fields that the kind, end or gas mode does not carry absent
(R71). -/
def RawStep.stored (x : RawStep) : StepRecord where
  kind := if x.kind = 1 then .soak else .ramp (clampNat 1 1024 x.rate)
  target := clamp (-64) 512 x.target
  duration := clampNat 0 999 x.duration
  endKind := x.endKind
  gas := treatmentOf (gasModeOf x.mode) (clampNat 100 400 x.carbonation)
  weight := clampNat 1 4 x.weight
  syncOut := if x.sync = 0 then none else some x.sync

/-- A field that is stored was clamped (R71). -/
def RawStep.clamped (x : RawStep) : Bool :=
  clamp (-64) 512 x.target ≠ x.target || (x.kind = 2 && clampNat 1 1024 x.rate ≠ x.rate) ||
    clampNat 0 999 x.duration ≠ x.duration || (x.ending = 1 && clampNat 1 8 x.p7 ≠ x.p7) ||
    (x.mode ≠ 0 && clampNat 100 400 x.carbonation ≠ x.carbonation) || clampNat 1 4 x.weight ≠ x.weight

/-- Checks 3 to 7 of R71 in their order. -/
def RawStep.argument (x : RawStep) : StepArgument :=
  if x.kind = 0 then .empty
  else if x.undefinedField then .undefined
  else if x.kind = 2 ∧ x.rate = 0 then .undefined
  else if x.ending = 1 ∧ x.mode ≠ 1 then .undefined
  else .record x.stored x.clamped

/-! ### Payloads of peers (R199, R200) -/

/-- The profile state of a two-bit code. -/
def profileOf (n : Nat) : ProfileState :=
  if n = 0 then .idle else if n = 1 then .running else if n = 2 then .paused else .ended

/-- The bay part's lifetime in 10 ms events: three intervals and 2 s, the interval bounded (R44). -/
def bayLifetime (interval : Nat) : Nat :=
  let i := if interval = 0 then 5 else if 60 < interval then 60 else interval
  ms ((3 * i + 2) * 1000)

/-- The bay part that a BAY_STATE payload fills (R43, R200). -/
def bayPartOf : List Byte → Option BayPart
  | [o0, o1, o2, _, _, _, _, _, _, _, o10, o11, _, _, _, _] =>
    some
      { profile := profileOf (bitsOf o0 7 6), mode := gasModeOf (bitsOf o0 5 4), demand := o10.toNat,
        weight := bitsOf o1 3 2 + 1, interval := o2.toNat, supplyWeak := o11.getLsbD 3, gasLocked := o11.getLsbD 2,
        pouring := o11.getLsbD 1, left := bayLifetime o2.toNat }
  | _ => none

/-- A DRAW payload: kind, urgency, supply-weak; none for a wrong length or a kind of 3 (R200). -/
def drawOf : List Byte → Option (DrawKind × Urgency × Bool)
  | [o] =>
    let urgency := if o.getLsbD 5 then Urgency.priority else .routine
    match bitsOf o 7 6 with
    | 0 => some (.claim, urgency, o.getLsbD 4)
    | 1 => some (.keep, urgency, o.getLsbD 4)
    | 2 => some (.release, urgency, o.getLsbD 4)
    | _ => none
  | _ => none

/-- The draw part that a DRAW sets (R45). -/
def drawPartOf (kind : DrawKind) (urgency : Urgency) (weak : Bool) : DrawPart :=
  match kind with
  | .claim => { draw := .claiming urgency, supplyWeak := weak, left := ms 1000 }
  | .keep => { draw := .drawing urgency, supplyWeak := weak, left := ms 3000 }
  | .release => { draw := .notDrawing, supplyWeak := weak, left := ms 3000 }

/-- The chiller part that a COOL_CAP fills: a capacity above 2000 is taken as 2000 (R47, R200). -/
def chillerPartOf : List Byte → Option ChillerPart
  | [hi, lo] =>
    let n := word16 hi lo
    some { capacity := min 2000 (n % 2048), saturated := hi.getLsbD 7, left := ms 10000 }
  | _ => none

/-- A POUR payload's kind: START or END; none for a wrong length or another kind (R200). -/
def pourStartOf (p : List Byte) : Option Bool :=
  match p with
  | o :: _ => if p.length ≠ 8 then none else if o = 0#8 then some true else if o = 1#8 then some false else none
  | [] => none

/-- The row that takes an accepted frame, by its class, its destination kind and its payload (R34, R198, R200); none: the
frame is discarded. -/
def routedRow (cls src : Nat) (dest : Dest) (payload : List Byte) : Option Instr :=
  let h : Header := { src := src, dest := dest }
  match classOf cls, dest with
  | some .bayState, .all => (bayPartOf payload).map fun _ => .receiveBayState h payload
  | some .draw, .all => (drawOf payload).map fun _ => .receiveDraw h payload
  | some .coolCap, .all => (chillerPartOf payload).map fun _ => .receiveCoolCap h payload
  | some .pour, .all => (pourStartOf payload).map fun _ => .receivePour h payload
  | some .groupSync, .group _ => if payload = [] then some (.receiveGroupSync h payload) else none
  | some .command, _ =>
    match payload with
    | code :: tag :: args => some (commandRow h code tag args)
    | _ => none
  | _, _ => none

end Sys2Proof.Machine
end

