-- ==== Sys2Proof/Machine/Link.lean ====
section
/-! DEFINITION. The transmit queue (R28 to R31) and the report count (R38): how every block queues a frame. -/

namespace Sys2Proof.Machine

/-- A BAY_STATE. -/
def Frame.isBayState : Frame → Bool
  | .bayState => true
  | .alarm .. | .draw .. | .groupSync _ | .pourStart _ | .pourEnd .. | .result .. => false

/-- A DRAW. -/
def Frame.isDraw : Frame → Bool
  | .draw .. => true
  | .alarm .. | .bayState | .groupSync _ | .pourStart _ | .pourEnd .. | .result .. => false

/-- A new frame takes this queued frame's place: both BAY_STATE or both DRAW, and not in flight (R29). -/
def coalescesWith (new : Frame) (q : QFrame) : Bool :=
  !q.inFlight && ((new.isBayState && q.frame.isBayState) || (new.isDraw && q.frame.isDraw))

/-- A frame joins in queue order: ascending priority, and behind the frames of its own priority (R28). -/
def insertFrame (f : QFrame) : List QFrame → List QFrame
  | [] => [f]
  | q :: qs => if f.frame.priority < q.frame.priority then f :: q :: qs else q :: insertFrame f qs

/-- The queue with `f` in the place of the last frame that `p` picks, the one that joined later (R29). -/
def replaceLast (p : QFrame → Bool) (f : QFrame) : List QFrame → Option (List QFrame)
  | [] => none
  | q :: qs =>
    match replaceLast p f qs with
    | some qs' => some (q :: qs')
    | none => if p q then some (f :: qs) else none

/-- The queue without the last frame that `p` picks, the one that joined later (R30). -/
def removeLast (p : QFrame → Bool) : List QFrame → Option (List QFrame)
  | [] => none
  | q :: qs =>
    match removeLast p qs with
    | some qs' => some (q :: qs')
    | none => if p q then some qs else none

/-- The frames a transmit queue holds at most (R28). -/
def queueLimit : Nat := 6

/-- A block queues a frame: it coalesces (R29), joins, evicts a waiting BAY_STATE, or is dropped and sets TX_DROPPED
(R30); in SILENT it is discarded (R40). The Bool says whether the queue took it. -/
def Link.enqueue (f : QFrame) (l : Link) : Link × Bool :=
  if l.silent then (l, false)
  else
    match replaceLast (coalescesWith f.frame) f l.queue with
    | some q => ({ l with queue := q }, true)
    | none =>
      if l.queue.length < queueLimit then ({ l with queue := insertFrame f l.queue }, true)
      else
        match removeLast (fun q => q.frame.isBayState && !q.inFlight) l.queue with
        | some q => ({ l with queue := insertFrame f q }, true)
        | none =>
          ({ l with txDropped := true, attempt := l.attempt.map fun a => { a with droppedSince := true } }, false)

/-- A block queues a frame and is not told what became of it. -/
def queueFrame (f : Frame) (s : State) : State := s.mapLink fun l => (l.enqueue { frame := f }).1

/-- A BAY_STATE is queued, for cadence or for a change (R38, R39): the report count returns to 0 and begins anew on this
event, also when the queue refuses the frame. In SILENT none is queued. -/
def queueBayState (s : State) : State :=
  if s.link.silent then s
  else s.mapLink fun l => { (l.enqueue { frame := .bayState }).1 with reportCount := 0, reportBegunNow := true }

/-- The frame in flight and the queue without it (R28). -/
def takeInFlight : List QFrame → Option (QFrame × List QFrame)
  | [] => none
  | q :: qs =>
    if q.inFlight then some (q, qs)
    else (takeInFlight qs).map fun (f, rest) => (f, q :: rest)

/-- The queue with the frame in flight changed by `g`. -/
def mapInFlight (g : QFrame → QFrame) (qs : List QFrame) : List QFrame :=
  qs.map fun q => if q.inFlight then g q else q

end Sys2Proof.Machine
end

