-- ==== Sys2Proof/Machine/Alarms.lean ====
section
/-! DEFINITION. The supervisor's shared operations: activity events (R183), raisings and cause ends (R188, R189), QUIET
(R185). -/

namespace Sys2Proof.Machine

/-- QUIET is cleared and the idle timer started at 0; a BAY_STATE tells of it (R183, R185). -/
def leaveQuiet (s : State) : State :=
  queueBayState (s.mapSup fun p => { p with quiet := false, idleCount := 0 })

/-- QUIET is set; the idle timer stops (R185, R186). -/
def enterQuiet (s : State) : State := queueBayState (s.mapSup fun p => { p with quiet := true })

/-- An activity event reaches the supervisor (R183). -/
def activityEvent (e : Activity) (s : State) : State :=
  if s.sup.station ≠ .run then s
  else if s.sup.quiet then
    if s.setup.wakeSet.getLsbD e.code then leaveQuiet s else s
  else if s.setup.activitySet.getLsbD e.code then s.mapSup fun p => { p with idleCount := 0 }
  else s

/-- A block raises an alarm (R188); an alarm that is active is not raised again. `lines`: what a WATCH raising hands
with it. -/
def raiseAlarm (a : Alarm) (s : State) (lines : BitVec 4 := 0#4) : State :=
  if hasAlarm s.sup.active a then s
  else
    let news := !hasAlarm s.sup.latched a
    let s := s.mapSup fun p => { p with active := withAlarm p.active a, latched := withAlarm p.latched a }
    let s := queueFrame (.alarm a true lines) s
    let s := if news then queueBayState s else s
    activityEvent .alarm s

/-- A block hands the end of an alarm's cause (R189); an alarm that is not active stays as it is. -/
def endAlarm (a : Alarm) (s : State) : State :=
  if hasAlarm s.sup.active a then
    queueFrame (.alarm a false 0#4) (s.mapSup fun p => { p with active := withoutAlarm p.active a })
  else s

/-- The watch is evaluated (R16); before the debounced levels have been taken there is nothing to compare. -/
def evaluateWatch (s : State) : State :=
  if !s.sampling.levelsTaken then s
  else
    match s.sampling.watch with
    | .armed =>
      if watchMismatch s then
        raiseAlarm .watch (s.mapSampling fun u => { u with watch := .tripped }) (lineLevels s.sampling)
      else s
    | .tripped =>
      if watchMismatch s then s
      else endAlarm .watch (s.mapSampling fun u => { u with watch := .armed })

end Sys2Proof.Machine
end

