-- ==== Sys2Proof/Machine/Coordinator.lean ====
section
/-! DEFINITION. The draw coordinator's shared operations (spec/09): the need, its urgency, examination and claim, the
ways a draw ends, supply test and lockouts. -/

namespace Sys2Proof.Machine

/-- A DRAW frame is queued with the present urgency and the own flag (R162). -/
def queueDraw (kind : DrawKind) (s : State) : State :=
  queueFrame (.draw kind s.draw.urgency s.draw.supplyWeak) s

/-- The coordinator enters a state with every timer stopped, the keep count 0 and the rise record empty. -/
def Draw.enter (st : DrawState) (d : Draw) : Draw :=
  { d with state := st, settleWindow := none, keepTimer := none, keepCount := 0, backoffTimer := none,
           backoffElapsed := 0, rise := [] }

/-- A claim is made (R149): the claim urgency is fixed, CLAIM queued, CLAIMING entered. A CLAIM that a full queue refuses
is reported as dropped at once, and the coordinator is back in WAITING without an examination. -/
def makeClaim (s : State) : State :=
  let s := s.mapDraw fun d => { d.enter .claiming with claimUrgency := d.urgency }
  let s := s.mapLink fun l => { l with queue := l.queue.map fun q => { q with liveClaim := false } }
  let f : QFrame := { frame := .draw .claim s.draw.urgency s.draw.supplyWeak, liveClaim := true }
  let taken := (s.link.enqueue f).2
  let s := s.mapLink fun l => (l.enqueue f).1
  if taken then s else s.mapDraw (·.enter .waiting)

/-- An examination (R148): in WAITING the draw limit is read, in use from then on (R61), and with the permission a claim is
made. -/
def examine (s : State) : State :=
  if s.draw.state = .waiting then
    let s := s.mapDraw fun d => { d with limit := s.setup.drawLimit }
    if mayClaim s then makeClaim s else s
  else s

/-- Entry to WAITING, examined at once (R148). -/
def enterWaiting (s : State) : State := examine (s.mapDraw (·.enter .waiting))

/-- The need arrives (R146). -/
def needArrives (s : State) : State :=
  if s.draw.need then s
  else
    let s := s.mapDraw fun d => { d with need := true }
    if s.draw.state = .idle then enterWaiting s else s

/-- The need ends (R146): a claim or a draw is released, and every state but LOCKED leads to IDLE. -/
def needEnds (s : State) : State :=
  if !s.draw.need then s
  else
    let s := s.mapDraw fun d => { d with need := false }
    match s.draw.state with
    | .claiming | .drawing => queueDraw .release (s.mapDraw (·.enter .idle))
    | .waiting | .backoff | .recover => s.mapDraw (·.enter .idle)
    | .idle | .locked => s

/-- Entry to RECOVER for 1 s, the draw released (R154, R155). -/
def releaseToRecover (s : State) : State :=
  queueDraw .release (s.mapDraw fun d => { d.enter .recover with backoffTimer := some (ms 1000) })

/-- The backoff time of a claim urgency and a station number (R151). -/
def backoffTime (u : Urgency) (n : Nat) : Nat :=
  match u with
  | .routine => ms (500 + 100 * n)
  | .priority => ms (100 + 20 * n)

/-- A claim is given up: RELEASE and BACKOFF (R150, R151). -/
def giveUp (s : State) : State :=
  queueDraw .release
    (s.mapDraw fun d =>
      { d.enter .backoff with backoffTimer := some (backoffTime d.claimUrgency s.ident.number) })

/-- A claim is kept: DRAWING with its keep timer and its rise record, and a KEEP (R150, R153, R157). -/
def keepClaim (s : State) : State :=
  queueDraw .keep
    (s.mapDraw fun d =>
      { d.enter .drawing with keepTimer := some (ms 1000), rise := (heldPressure s.sampling.transducer).toList })

/-- BACKOFF or RECOVER has run out: WAITING with the need present (R151, R155). -/
def contendAgain (s : State) : State :=
  if s.draw.need then enterWaiting s else s.mapDraw (·.enter .idle)

/-- A change from ROUTINE to PRIORITY in a ROUTINE backoff: it ends at the PRIORITY backoff time counted from the entry,
or now when that has passed (R151). -/
def shortenBackoff (s : State) : State :=
  let total := backoffTime .priority s.ident.number
  if total ≤ s.draw.backoffElapsed then contendAgain s
  else s.mapDraw fun d => { d with backoffTimer := d.backoffTimer.map (min (total - d.backoffElapsed)) }

/-- The urgency is formed afresh, and a change acts by the draw state (R147). -/
def formUrgency (s : State) : State :=
  let u := presentUrgency s
  if u = s.draw.urgency then s
  else
    let s := s.mapDraw fun d => { d with urgency := u }
    match s.draw.state with
    | .waiting => examine s
    | .drawing => queueDraw .keep s
    | .backoff => if u = .priority && s.draw.claimUrgency = .routine then shortenBackoff s else s
    | .idle | .claiming | .recover | .locked => s

/-- Entry to LOCKED (R160): a claim or a draw is released, every timer stopped; the need is kept as it stands. -/
def enterLocked (s : State) : State :=
  match s.draw.state with
  | .claiming | .drawing => queueDraw .release (s.mapDraw (·.enter .locked))
  | .idle | .waiting | .recover | .backoff | .locked => s.mapDraw (·.enter .locked)

/-- The lockout causes follow their conditions: the first to arise locks (R160), the removal of the last unlocks, on to
WAITING with the need present (R161). -/
def updateLockouts (s : State) : State :=
  let s := s.mapDraw fun d => { d with causes := formCauses s }
  if s.draw.causes.any then
    if s.draw.state = .locked then s else enterLocked s
  else if s.draw.state = .locked then contendAgain s
  else s

/-- The supply test of a hand-over in DRAWING (R157). The record gains the held pressure and keeps the last 21; its
oldest entry is the reference. -/
def supplyTest (s : State) : State :=
  match s.draw.state, heldPressure s.sampling.transducer with
  | .drawing, some p =>
    let record := (p :: s.draw.rise).take 21
    let rise := p - (record.getLast?).getD p
    let s := s.mapDraw fun d => { d with rise := record }
    if record.length = 21 ∧ rise < 10 then
      releaseToRecover (raiseAlarm .supplyWeak (s.mapDraw fun d => { d with supplyWeak := true }))
    else if s.draw.urgency = .priority ∧ s.draw.supplyWeak ∧ 10 ≤ rise then
      endAlarm .supplyWeak (s.mapDraw fun d => { d with supplyWeak := false })
    else s
  | _, _ => s

/-- The end of the settle window (R150), against the draw limit of the claim's examination: DEDUCED,
notes/assumptions/34.md. -/
def decideClaim (s : State) : State :=
  if countedAgainst s < s.draw.limit then keepClaim s else giveUp s

/-- The end of a keep period (R153): a KEEP at counts 1 to 3, the maximum hold at 4. -/
def keepPeriod (s : State) : State :=
  if s.draw.keepCount + 1 < 4 then
    queueDraw .keep
      (s.mapDraw fun d => { d with keepCount := d.keepCount + 1, keepTimer := some (ms 1000) })
  else releaseToRecover s

/-- The report of the own CLAIM's send starts the settle window; it acts only for the CLAIM of this CLAIMING with no
window running (R149, R162). -/
def claimSent (s : State) : State :=
  if s.draw.state = .claiming && s.draw.settleWindow = none then
    s.mapDraw fun d => { d with settleWindow := some (ms 200) }
  else s

/-- The report of the own CLAIM's drop: back to WAITING, examined at once (R149, R162). -/
def claimDropped (s : State) : State :=
  if s.draw.state = .claiming && s.draw.settleWindow = none then enterWaiting s else s

end Sys2Proof.Machine
end

