-- ==== Sys2Proof/Machine/Pouring.lean ====
section
/-! DEFINITION. The dispense unit's shared operations (spec/10): request, denial, grant, metering, endings, the tail's end
and the pour log. -/

namespace Sys2Proof.Machine

/-- The metered volume in mL: pulses times µL per pulse, rounded half up (R168). -/
def meteredVolume (pulses factor : Nat) : Nat := (pulses * factor + 500) / 1000

/-- The volume metered so far. -/
def volumeNow (s : State) : Nat := meteredVolume s.disp.pulses s.setup.flowFactor

/-- The largest pour number and uptime (R177). -/
def maxPourNumber : Nat := 4294967295

/-- The pour number after `n` (R177). -/
def nextPourNumber (n : Nat) : Nat := if maxPourNumber ≤ n then 1 else n + 1

/-- The records a pour log holds at most (R177). -/
def logLimit : Nat := 32

/-- A record joins the log (R177): number 1 empties it first; a full log loses its oldest and is marked wrapped. -/
def Dispense.joinLog (r : PourRecord) (d : Dispense) : Dispense :=
  if r.number = 1 then { d with log := [r], wrapped := false }
  else if logLimit ≤ d.log.length then { d with log := d.log.tail ++ [r], wrapped := true }
  else { d with log := d.log ++ [r] }

/-- The change of pour state is handed on (R164): the coordinator forms its urgency afresh. -/
def pourStateChanged (s : State) : State := formUrgency s

/-- The first condition of R165 that applies; none: the request is granted. -/
def denialReason (s : State) : Option DenyReason :=
  let u := s.sampling
  if s.sup.station = .safe then some .safe
  else if s.sup.station = .setup then some .notServing
  else if handedMode s ≠ some .serve then some .notServing
  else if !u.keg.active then some .noKeg
  else if !u.lid.active then some .lidOpen
  else if u.drip.active then some .dripFull
  else if u.beer.state ≠ .good ∨ u.transducer.state ≠ .good then some .fault
  else if s.disp.level ≤ s.setup.reserve then some .emptyKeg
  else if s.setup.serveMax < u.beer.filtered.getD 0 then some .warm
  else if (heldPressure u.transducer).getD 0 < s.setup.serveFloor then some .lowPressure
  else none

/-- A denied request (R166): one record, no volume; an armed portion is recorded and stays armed. -/
def denyPour (reason : DenyReason) (s : State) : State :=
  let r : PourRecord :=
    { number := s.disp.nextNumber, startMinute := s.time.uptime, duration := 0, volume := 0,
      outcome := .denied reason, temperature := s.sampling.beer.filtered,
      pressure := heldPressure s.sampling.transducer, portion := s.disp.portion }
  s.mapDisp fun d => ({ d with nextNumber := nextPourNumber d.nextNumber } : Dispense).joinLog r

/-- A granted request (R167): FLOWING, with the pour's number, readings and portion; the stall timer begins 3 s later. -/
def grantPour (s : State) : State :=
  let n := s.disp.nextNumber
  let p : Pour :=
    { number := n, startMinute := s.time.uptime, temperature := s.sampling.beer.filtered,
      pressure := heldPressure s.sampling.transducer, portion := s.disp.portion, reason := none, elapsed := 0 }
  let s := s.mapDisp fun d =>
    { d with state := .flowing, pulses := 0, pour := some p, nextNumber := nextPourNumber n, portion := none,
             portionTimer := none, stallDelay := some (ms 3000), stallTimer := none, lowTimer := none,
             tailTimer := none }
  pourStateChanged (queueFrame (.pourStart n) s)

/-- A pour request (R165). -/
def requestPour (s : State) : State :=
  match denialReason s with
  | some r => denyPour r s
  | none => grantPour s

/-- FLOWING ends with a reason: TAP closes, TAILING begins with its 1 s tail (R164, R169 to R172). -/
def endFlowing (reason : EndReason) (s : State) : State :=
  if s.disp.state = .flowing then
    pourStateChanged
      (s.mapDisp fun d =>
        { d with state := .tailing, pour := d.pour.map fun p => { p with reason := some reason }, stallDelay := none,
                 stallTimer := none, lowTimer := none, tailTimer := some (ms 1000) })
  else s

/-- The record of a completed pour (R173): duration in 0.1 s and volume stop at 65535. -/
def pourRecord (p : Pour) (volume : Nat) (reason : EndReason) : PourRecord :=
  { number := p.number, startMinute := p.startMinute, duration := min 65535 (p.elapsed / 10),
    volume := min 65535 volume, outcome := .poured reason, temperature := p.temperature, pressure := p.pressure,
    portion := p.portion }

/-- The handle has been active ever since the press that was deferred (R174). A press that its 10 ms event has completed
and HANDLE_PRESS has not delivered (notes/assumptions/9.md) is a later one, and a release lies between the two. -/
def handleStillHeld (s : State) : Bool := s.sampling.handle.active && !s.sampling.handle.undelivered

/-- The deferred request is taken at the tail's end: tested with the handle still active, withdrawn otherwise (R174). -/
def takeDeferred (s : State) : State :=
  if s.disp.deferred then
    let s := s.mapDisp fun d => { d with deferred := false }
    if handleStillHeld s then requestPour s else s
  else s

/-- The end of TAILING (R173): the record, the level (learn-empty with EMPTY), POUR(END), IDLE, the deferred request. -/
def completePour (s : State) : State :=
  match s.disp.pour with
  | none => s
  | some p =>
    let volume := volumeNow s
    let reason := p.reason.getD .handle
    let level := if reason = .empty then 0 else s.disp.level - volume
    let s := s.mapDisp fun d =>
      { d.joinLog (pourRecord p volume reason) with level := level, state := .idle, pulses := 0, pour := none,
                                                    tailTimer := none }
    let s := queueFrame (.pourEnd p.number (min 65535 volume) (.poured reason)) s
    takeDeferred (pourStateChanged s)

/-- A flow pulse (R168 to R170): counted in FLOWING and TAILING; in FLOWING it starts a running stall timer afresh and
meets the portion or the maximum pour. -/
def flowPulse (s : State) : State :=
  match s.disp.state with
  | .idle => s
  | .tailing => s.mapDisp fun d => { d with pulses := min 65535 (d.pulses + 1) }
  | .flowing =>
    let s := s.mapDisp fun d =>
      { d with pulses := min 65535 (d.pulses + 1), stallTimer := begunAgain (ms 2000) d.stallTimer }
    let portionMet : Bool :=
      match s.disp.pour.bind (·.portion) with
      | some v => v ≤ volumeNow s
      | none => false
    if portionMet then endFlowing .portion s
    else if s.setup.maxPour ≤ volumeNow s then endFlowing .limit s
    else s

/-- The stall timer runs out in FLOWING (R170): EMPTY when the level less the metered volume is at or below
reserve + 200, else STALL. -/
def stallEnd (s : State) : State :=
  if (s.disp.level : Int) - volumeNow s ≤ s.setup.reserve + 200 then endFlowing .empty s else endFlowing .stall s

/-- A pressure hand-over in FLOWING starts or stops the low-pressure timer (R171). -/
def lowPressureTest (s : State) : State :=
  match s.disp.state, heldPressure s.sampling.transducer with
  | .flowing, some p =>
    if p < s.setup.serveFloor - 100 then
      s.mapDisp fun d => { d with lowTimer := some (d.lowTimer.getD (ms 3000)) }
    else s.mapDisp fun d => { d with lowTimer := none }
  | _, _ => s

end Sys2Proof.Machine
end

