-- ==== Sys2Proof/Machine/Pressure.lean ====
section
/-! DEFINITION. The gas regulator's shared operations (spec/08): the gas setpoint, the evaluation of the regulation state,
the leak check; and the drop of a forced INLET (R22), which the evaluation causes. -/

namespace Sys2Proof.Machine

/-! ### The gas setpoint (R126 to R128) -/

/-- The solubility table, thousandths of a volume per bar absolute, one entry each 4 °C from 0 to 32 °C. -/
def solubilityTable : List Nat := [1650, 1440, 1260, 1110, 985, 880, 790, 715, 650]

/-- The solubility at a temperature clamped to 0 to 512 sixteenths (R126). -/
def solubility (temperature : Int) : Nat :=
  let t := (clamp 0 512 temperature).toNat
  let here := solubilityTable.getD (t / 64) 650
  let next := solubilityTable.getD (t / 64 + 1) 650
  here - (here - next) * (t % 64) / 64

/-- The absolute pressure for a carbonation target, rounded half up (R127). -/
def absolutePressure (target solub : Nat) : Nat := (target * 10000 + solub / 2) / solub

/-- The gas setpoint is computed when a carbonation target and a filtered temperature are there (R127, R128). -/
def computeSetpoint (s : State) : State :=
  match handedTarget s, s.sampling.beer.filtered with
  | some v, some t =>
    let gauge := (absolutePressure v (solubility t) : Int) - s.setup.atmosphere
    let top := s.setup.reliefCeiling - 200
    s.mapGas fun g =>
      { g with setpoint := clamp 50 top gauge, limitedLow := gauge < 50, limitedHigh := top < gauge }
  | _, _ => s

/-- A SETUP_ITEM has written atmosphere or relief ceiling: the setpoint is computed, or, without its inputs, clamped
beneath the new ceiling (R128). -/
def refitSetpoint (s : State) : State :=
  match handedTarget s, s.sampling.beer.filtered with
  | some _, some _ => computeSetpoint s
  | _, _ =>
    let top := s.setup.reliefCeiling - 200
    s.mapGas fun g =>
      { g with setpoint := clamp 50 top g.setpoint, limitedHigh := g.limitedHigh || top < g.setpoint }

/-! ### The regulation state (R130 to R139) -/

/-- The mode tests from REST (R132). -/
def modeTest (mode : GasMode) (p setpoint band : Int) : GasState :=
  if setpoint + band < p then .pulse
  else if p < setpoint - band ∧ (mode = .carbonate ∨ mode = .serve) then .topping
  else .rest

/-- The state that an evaluation decides: the rows of R130. The relief ceiling is the one in force (R61, R136). -/
def decideGas (s : State) : GasState :=
  match goodPressure s.sampling.transducer with
  | none => .sensorVent
  | some p =>
    if s.gas.state = .relief ∧ s.gas.ceiling - 100 < p then .relief
    else if s.gas.ceiling < p then .relief
    else if (s.gas.state = .pulse ∨ s.gas.state = .settle) ∧ (enabledMode s).isSome then s.gas.state
    else if handedMode s = some .openKeg ∧ s.sup.station ≠ .safe then .ventOpen
    else
      match enabledMode s with
      | none => .rest
      | some m =>
        if s.gas.state = .topping ∧ m ≠ .spund ∧ p < s.gas.setpoint then .topping
        else modeTest m p s.gas.setpoint (effectiveBand s)

/-- A forced INLET drops to FUNCTION, and its need ends (R22). VENT's drive state stays. -/
def dropForcedInlet (s : State) : State :=
  if s.drivers.inlet = .forcedOn then needEnds (s.mapDrivers fun o => { o with inlet := .function }) else s

/-- What leaving a regulation state does: TOPPING's need ends (R133), RELIEF's alarm loses its cause (R136, R137). -/
def leaveGas (old : GasState) (s : State) : State :=
  match old with
  | .topping => needEnds s
  | .relief => endAlarm .overpressure s
  | .rest | .pulse | .settle | .ventOpen | .sensorVent => s

/-- What entering a regulation state does: TOPPING hands its need (R133), RELIEF drops a forced INLET and raises
OVERPRESSURE (R136), SENSOR_VENT drops a forced INLET (R137). That the coordinator's RELEASE for the dropped INLET joins the
queue before OVERPRESSURE's ALARM is a DESIGN CHOICE, notes/assumptions/12.md. -/
def enterGas (new : GasState) (s : State) : State :=
  match new with
  | .topping => needArrives s
  | .relief => raiseAlarm .overpressure (dropForcedInlet s)
  | .sensorVent => dropForcedInlet s
  | .rest | .pulse | .settle | .ventOpen => s

/-- The regulator's own record of a change of state: timers, and a PULSE's count in the open bucket (R134, R140). -/
def Gas.moveTo (new : GasState) (g : Gas) : Gas :=
  { g with state := new,
           pulseTimer := if new = .pulse then some (ms 250) else none,
           settleTimer := if new = .settle then some (ms 750) else none,
           openBucket := if new = .pulse then min 255 (g.openBucket + 1) else g.openBucket }

/-- The regulation state changes to `new`, with what the old state ends and then what the new one begins. That the frames
of the ending (a RELEASE, OVERPRESSURE's ALARM(cleared)) join the queue before those of the beginning (an ALARM, a CLAIM) is
a DESIGN CHOICE, notes/assumptions/12.md. -/
def moveGas (new : GasState) (s : State) : State :=
  if new = s.gas.state then s
  else enterGas new (leaveGas s.gas.state (s.mapGas (·.moveTo new)))

/-- The regulator evaluates its state (R130). -/
def evaluateGas (s : State) : State := moveGas (decideGas s) s

/-- The 250 ms pulse ends: VENT closes and the settle starts (R134). -/
def pulseEnd (s : State) : State := s.mapGas (·.moveTo .settle)

/-- The settle ends: REST, evaluated at once (R134). -/
def settleEnd (s : State) : State := evaluateGas (s.mapGas (·.moveTo .rest))

/-- A step start takes up the new gas mode (R139): a change of mode ends a pulse or a settle; then the evaluation. -/
def takeUpMode (oldMode : Option GasMode) (s : State) : State :=
  evaluateGas
    (if (s.gas.state = .pulse ∨ s.gas.state = .settle) ∧ handedMode s ≠ oldMode then s.mapGas (·.moveTo .rest)
     else s)

/-! ### The leak check (R142, R143) -/

/-- The leak check follows its conditions: ARMED when they come to hold, OFF when they cease (R142). -/
def updateLeak (s : State) : State :=
  s.mapGas fun g =>
    { g with leak :=
        if leakConditions s then
          match g.leak with
          | .off => .armed
          | .armed => .armed
          | .inWindow p0 t0 => .inWindow p0 t0
        else .off }

/-- A valid beer sample more than 4 sixteenths from the window's start temperature discards the window (R142). -/
def leakDrift (temperature : Int) (s : State) : State :=
  match s.gas.leak with
  | .inWindow _ t0 =>
    if 4 < (temperature - t0).natAbs then s.mapGas fun g => { g with leak := .armed } else s
  | .off | .armed => s

/-- A 1 h event at the leak check: a window's drop is tested, and a window begins (R142, R143). -/
def leakHour (s : State) : State :=
  match s.gas.leak, heldPressure s.sampling.transducer, s.sampling.beer.filtered with
  | .armed, some p, some t => s.mapGas fun g => { g with leak := .inWindow p t }
  | .inWindow p0 _, some p, some t =>
    let s := s.mapGas fun g => { g with leak := .inWindow p t }
    if s.setup.leakLimit < p0 - p ∧ !hasAlarm s.sup.latched .leak then updateLockouts (raiseAlarm .leak s) else s
  | _, _, _ => s

/-- The open bucket is completed (R141); one begun on this same event is not. -/
def completeBucket (s : State) : State :=
  s.mapGas fun g =>
    if g.bucketBegunNow then g
    else { g with buckets := (g.openBucket :: g.buckets).take 8, openBucket := 0 }

/-- The activity ring is cleared at a step start (R141). -/
def clearRing (s : State) : State :=
  s.mapGas fun g => { g with openBucket := 0, buckets := [], bucketBegunNow := true }

end Sys2Proof.Machine
end

