-- ==== Sys2Proof/Machine/Window.lean ====
section
/-! DEFINITION. The control window: the temperature regulator (spec/06) and the cooling share unit (spec/07). -/

namespace Sys2Proof.Machine

/-! ### Ramp (R95) -/

/-- The ramp's increment for one minute: the rate's share of a day, rounded half up (R95). -/
def rampIncrement (rate : Nat) : Int := ((rate * 65536 + 720) / 1440 : Nat)

/-- The accumulator after one movement toward a target, and whether it reached it (R95). -/
def moveToward (accumulator target inc : Int) : Int × Bool :=
  let goal := target * 65536
  if accumulator < goal then
    if goal ≤ accumulator + inc then (goal, true) else (accumulator + inc, false)
  else if goal < accumulator then
    if accumulator - inc ≤ goal then (goal, true) else (accumulator - inc, false)
  else (goal, true)

/-- The ramp movement of a 1 min event, and whether the target is reached (R95). -/
def rampMove (s : State) : State × Bool :=
  match s.seq.current with
  | some ⟨.ramp rate, target, _, _, _, _, _⟩ =>
    if stepAdvancing s then
      let (acc, reached) := moveToward s.temp.accumulator target (rampIncrement rate)
      (s.mapTemp fun t => { t with accumulator := acc }, reached)
    else (s, false)
  | _ => (s, false)

/-! ### Cooling share (R112 to R120) -/

/-- The capacity in use of a window (R114, R122). -/
def capacityInUse (s : State) : Nat :=
  if s.link.silent then s.setup.fallbackCapacity
  else
    match s.view.chillerReading with
    | some c => c.capacity
    | none => s.setup.fallbackCapacity

/-- The throttle level after a window's update (R117). -/
def nextThrottle (level : Nat) (saturated : Bool) : Nat := if saturated then min 3 (level + 1) else level - 1

/-- The weighted share (R116): own demand `u0` and weight `w0`, the peers' demands and weights, the capacity. -/
def weightedShare (u0 w0 : Nat) (peers : List (Nat × Nat)) (capacity : Nat) : Nat :=
  let total := u0 + (peers.map (·.1)).sum
  if total ≤ capacity then u0
  else min u0 (capacity * u0 * w0 / (u0 * w0 + (peers.map fun p => p.1 * p.2).sum))

/-- The final grant (R118): capped at half the fallback capacity in SILENT, then throttled. -/
def finalGrant (share throttle fallback : Nat) (silent : Bool) : Nat :=
  (if silent then min share (fallback / 2) else share) * (4 - throttle) / 4

/-- The GLYCOL open time in seconds (R119). -/
def glycolSeconds (grant valve : Nat) : Nat := grant * 100 / valve * 60 / 100

/-- A request of `seconds` from the window's start; 0 s makes none (R102, R120). -/
def windowTimer (seconds : Nat) : Timer := if seconds = 0 then none else some (ms (seconds * 1000))

/-- The cooling share unit forms a window's share from the demand handed, in percent (R112). -/
def formShare (demand : Nat) (s : State) : State :=
  let u0 := demand * s.setup.valveCapacity / 100
  let w0 := (s.seq.current.map (·.weight)).getD 1
  let capacity := capacityInUse s
  let saturated := (s.view.chillerReading.map (·.saturated)).getD false
  let throttle := nextThrottle s.cool.throttle saturated
  let share := weightedShare u0 w0 (s.view.demands.map (·.2)) capacity
  let grant := finalGrant share throttle s.setup.fallbackCapacity s.link.silent
  let seconds := glycolSeconds grant s.setup.valveCapacity
  s.mapCool fun _ =>
    { capacity := capacity, demandUnits := u0, weight := w0, throttle := throttle, lastGrant := grant,
      openTime := seconds, openTimer := windowTimer seconds }

/-! ### Demand (R97 to R101, R105) -/

/-- The filtered beer temperature of a window that regulates; none for an off window (R97). The first window after a reset
is an off window in any case (R111, R124), also where START and a running profile come before it, for which R97 would let
it regulate: DESIGN CHOICE, notes/assumptions/29.md. -/
def regulatingTemperature (s : State) : Option Int :=
  if s.temp.windowFormed ∧ s.sup.station = .run ∧ s.seq.profile ≠ .idle ∧ s.sampling.beer.state = .good then
    s.sampling.beer.filtered
  else none

/-- The integral accumulator after a window's update (R99). -/
def nextIntegral (side : ClampSide) (acc e ki : Int) : Int :=
  if (side = .high ∧ 0 < e) ∨ (side = .low ∧ e < 0) then acc else clamp 0 25600 (acc + e * ki)

/-- The proportional term, truncated toward zero (R98). -/
def proportional (e kp : Int) : Int := (e * kp).tdiv 16

/-- The clamp side of an unclamped sum (R100). -/
def sideOf (sum : Int) : ClampSide := if 100 < sum then .high else if sum < 0 then .low else .unclamped

/-- The window heats (R101). -/
def heatingWindow (s : State) (e : Int) : Bool :=
  s.ident.heaterFitted && s.sampling.jacket.state = .good && s.setup.heatBand < -e

/-- The heater duty of a heating window (R101). -/
def heaterDuty (e kp : Int) : Int := clamp 1 100 ((-e * kp).tdiv 16)

/-- A control window begins (R97): the regulator forms it and hands its demand to the cooling share unit. -/
def formWindow (s : State) : State :=
  match regulatingTemperature s with
  | none =>
    formShare 0
      (s.mapTemp fun t =>
        { t with lastDemand := 0, clampSide := .unclamped, heaterDuty := 0, onTimer := none, windowFormed := true })
  | some f =>
    let e := f - reportedSetpoint s.temp
    let acc := nextIntegral s.temp.clampSide s.temp.integral e s.setup.ki
    let sum := proportional e s.setup.kp + acc / 256
    let demand := clamp 0 100 sum
    let heats := heatingWindow s e
    let duty := if heats then heaterDuty e s.setup.kp else 0
    let s := s.mapTemp fun t =>
      { t with integral := acc, lastDemand := demand, clampSide := sideOf sum, heaterDuty := duty,
               onTimer := windowTimer (duty.toNat * 60 / 100), windowFormed := true }
    formShare (if heats then 0 else demand.toNat) s

/-- The window's outputs are withdrawn (R106, R113, R121). -/
def withdrawWindow (s : State) : State :=
  let s := s.mapTemp fun t =>
    { t with onTimer := none, lastDemand := 0, clampSide := .unclamped, heaterDuty := 0 }
  s.mapCool fun c => { c with demandUnits := 0, openTimer := none }

/-- The jacket limit is tested on a new filtered jacket temperature (R103). -/
def jacketLimitTest (f : Int) (s : State) : State :=
  if s.temp.limitInForce then
    if f ≤ s.setup.jacketMax - 16 then
      endAlarm .jacketHot (s.mapTemp fun t => { t with limitInForce := false })
    else s
  else if s.setup.jacketMax < f then
    raiseAlarm .jacketHot (s.mapTemp fun t => { t with limitInForce := true })
  else s

end Sys2Proof.Machine
end

