-- ==== Sys2Proof/Machine/Steps.lean ====
section
/-! DEFINITION. The profile sequencer's shared operations (spec/05): the start of a step, a switch, a step end and the
chain that may follow it. -/

namespace Sys2Proof.Machine

/-- The phase a step starts in; a RAMP whose target is the reported setpoint starts in SOAKING (R76, R94). -/
def startPhase (r : StepRecord) (reported : Int) : Phase :=
  match r.kind with
  | .soak => .soaking
  | .ramp _ => if r.target = reported then .soaking else .ramping

/-- SOAKING with a duration of 0 passes into WAITING at once (R76). -/
def enterSoaking (r : StepRecord) (q : Sequencer) : Sequencer :=
  { q with phase := some (if r.duration = 0 then .waiting else .soaking), count := 0 }

/-- A step starts in slot `index` of the active bank, with the effects of R77 in its order. `oldMode`: the gas mode handed
before, none for a start from IDLE (R78). The draw of a forced INLET in SETUP goes on, since its need does (R22, R146):
DESIGN CHOICE, notes/assumptions/30.md. -/
def beginStep (oldMode : Option GasMode) (index : Nat) (r : StepRecord) (s : State) : State :=
  let s := s.mapSeq fun q =>
    let q := { q with index := index, count := 0 }
    match startPhase r (reportedSetpoint s.temp) with
    | .ramping => { q with phase := some .ramping }
    | .soaking | .waiting => enterSoaking r q
  let s :=
    if s.seq.phase = some .ramping then s else s.mapTemp fun t => { t with accumulator := r.target * 65536 }
  let s := clearRing s
  let s := computeSetpoint s
  let s := if oldMode = some .serve ∧ handedMode s ≠ some .serve then endFlowing .mode s else s
  let s := formUrgency (updateLockouts s)
  let s := takeUpMode oldMode s
  let s := queueBayState s
  let s :=
    match r.syncOut with
    | some g => queueFrame (.groupSync g) s
    | none => s
  updateLeak s

/-- The profile state after a switch is taken (R81). -/
def afterSwitch : ProfileState → ProfileState
  | .paused => .paused
  | .idle | .running | .ended => .running

/-- A switch is taken (R81): the banks exchange roles, the pending switch is cleared, the start step starts. -/
def takeSwitch (startStep : Nat) (s : State) : State :=
  let oldMode := handedMode s
  match s.seq.slot s.seq.staged startStep with
  | none => s
  | some r =>
    beginStep oldMode startStep r
      (s.mapSeq fun q =>
        { q with active := q.staged, pendingSwitch := none, profile := afterSwitch q.profile })

/-- The profile state changes with no step start: the gas regulator's evaluation (R130), then a BAY_STATE (R39); this order
is a DESIGN CHOICE, notes/assumptions/7.md. At PAUSE_PROFILE and RESUME_PROFILE R138 calls the regulation state unchanged,
and R130 evaluates it: the evaluation decides, also where setpoint or QUIET changed since the last one: DESIGN CHOICE,
notes/assumptions/32.md. -/
def changeProfile (p : ProfileState) (s : State) : State :=
  queueBayState (evaluateGas (s.mapSeq fun q => { q with profile := p }))

/-- The record of the slot after the current one (R83). -/
def nextSlot (q : Sequencer) : Option StepRecord := if q.index < 11 then q.slot q.active (q.index + 1) else none

/-- A step end (R83): a pending STEP_END switch, else the next slot, else ENDED. -/
def endStep (s : State) : State :=
  match s.seq.pendingSwitch with
  | some ⟨.stepEnd, start⟩ => takeSwitch start s
  | _ =>
    match nextSlot s.seq with
    | some r => beginStep (handedMode s) (s.seq.index + 1) r s
    | none => changeProfile .ended s

/-- The chain of step ends that follows from tests of R84 and R85, at most `fuel` of them. -/
def chain : Nat → State → State
  | 0, s => s
  | fuel + 1, s => if waitingEndMet s then chain fuel (endStep s) else s

/-- The step ends of a chain: at most 24 step starts (R83), and the end that makes the profile ENDED. -/
def chainLimit : Nat := 25

/-- The step ends, with the chain that may follow. -/
def endStepChain (s : State) : State := chain chainLimit (endStep s)

/-- A switch is taken, with the chain that may follow. -/
def takeSwitchChain (startStep : Nat) (s : State) : State := chain chainLimit (takeSwitch startStep s)

/-- Entry to WAITING of an elapsed duration, the end tested there (R76, R84, R85). In PAUSED a phase changes only by a
step start. -/
def elapseDuration (s : State) : State :=
  if durationUp s then
    chain chainLimit (s.mapSeq fun q => { q with phase := some .waiting })
  else s

/-- The regulator reports that a ramp has reached its target: SOAKING, and WAITING at once for a duration of 0 (R76). -/
def targetReached (s : State) : State :=
  match s.seq.current with
  | some r => chain chainLimit (s.mapSeq (enterSoaking r))
  | none => s

/-- The duration count of a 1 min event (R75); an elapsed count stands until its end is taken. -/
def countMinute (s : State) : State :=
  if durationCounts s && !durationElapsed s then s.mapSeq fun q => { q with count := q.count + 1 } else s

/-- A GROUP_SYNC for a group reaches the sequencer (R86). -/
def groupSyncAtSequencer (g : Nat) (s : State) : State :=
  match s.seq.pendingSwitch with
  | some ⟨.groupSync g', start⟩ =>
    if g' = g then takeSwitchChain start s
    else if s.seq.profile = .running ∧ s.seq.phase = some .waiting ∧
        (s.seq.current.map (·.endKind)) = some (.groupSync g) then endStepChain s
    else s
  | _ =>
    if s.seq.profile = .running ∧ s.seq.phase = some .waiting ∧
        (s.seq.current.map (·.endKind)) = some (.groupSync g) then endStepChain s
    else s

/-- An accepted GROUP_SYNC, a peer's or the own one sent (R34, R41): to the sequencer, and to the supervisor as activity
event GROUP_SYNC. -/
def groupSyncAccepted (g : Nat) (s : State) : State := activityEvent .groupSync (groupSyncAtSequencer g s)

/-- A bucket's completion is handed to the sequencer, which tests an ACTIVITY_LOW end (R85, R141). -/
def bucketCompleted (s : State) : State := chain chainLimit s

end Sys2Proof.Machine
end

