-- ==== Sys2Proof/Machine/Station.lean ====
section
/-! DEFINITION. The station as a whole: power-on and restart (R65 to R68), the changes of station state (R63, R64, R192,
R193), SILENT (R40). -/

namespace Sys2Proof.Machine

/-- The blocks that act at once on the UNSEEN transducer after a reset: the gas regulator (R145), the coordinator
(R163). -/
def wakeBlocks (s : State) : State := updateLockouts (evaluateGas s)

/-- Power-on with the straps read (R56, R68); the commands that wait are the model's own and stay. -/
def powerOn (p : Straps) (s : State) : State := wakeBlocks { powerOnValues p with pending := s.pending }

/-- RSTN held low, or VDD out of its range: the whole part at its power-on values, its outputs off (R3). The straps are
not read again before power-on (R56). -/
def holdReset (s : State) : State :=
  { powerOnValues Config.resetStraps with pending := s.pending, ident := s.ident, held := true }

/-- What a change of station state does at every block that reads it, in one order (notes/assumptions/7.md): lockouts,
urgency, regulation state. -/
def stationChanged (s : State) : State := evaluateGas (formUrgency (updateLockouts s))

/-- The entry to SAFE (R192). Its BAY_STATE joins the queue before the frames of the blocks that act on the entry: DESIGN
CHOICE, notes/assumptions/7.md. -/
def enterSafe (s : State) : State :=
  let s := queueBayState (s.mapSup fun p => { p with station := .safe, quiet := false })
  stationChanged (endFlowing .stopped (withdrawWindow s))

/-- START passing R62 is performed (R63); with EXT_STOP active the station goes on into SAFE (R64). The blocks' reaction to
the change of station state (R130, R147, R160), which R63's list does not place, comes after the setpoint's computation, and
its frames join the queue before the BAY_STATE: DESIGN CHOICE, notes/assumptions/7.md. -/
def startStation (s : State) : State :=
  let forced := s.drivers.inlet = .forcedOn
  let s := s.mapSup fun p => { p with station := .run, idleCount := 0 }
  let s := s.mapDrivers fun _ => {}
  let s := if forced then needEnds s else s
  let s := queueBayState (stationChanged (computeSetpoint s))
  if s.sampling.ext.active then enterSafe s else s

/-- The return from SAFE to RUN (R193). Its BAY_STATE is queued behind the frames of the gas and draw blocks: DESIGN
CHOICE, notes/assumptions/7.md. -/
def leaveSafeState (s : State) : State :=
  queueBayState (stationChanged (s.mapSup fun p => { p with station := .run, idleCount := 0 }))

/-- A pour in FLOWING or TAILING at a RESTART ends at once, POURED STOPPED (R66, R181): record and level, no
learn-empty, no POUR(END). -/
def endPourAtRestart (s : State) : State :=
  match s.disp.pour with
  | none => s
  | some p =>
    let volume := volumeNow s
    s.mapDisp fun d => { d.joinLog (pourRecord p volume .stopped) with level := d.level - volume }

/-- The resets of R66, what R65 keeps kept. -/
def restartValues (s : State) : State :=
  let fresh := powerOnValues Config.resetStraps
  { fresh with
    pending := s.pending, ident := s.ident, time := s.time, setup := s.setup,
    sup := { fresh.sup with latched := s.sup.latched &&& BitVec.twoPow 11 Alarm.duplicate.code },
    sampling :=
      { fresh.sampling with
        handle := s.sampling.handle, keg := s.sampling.keg, lid := s.sampling.lid, drip := s.sampling.drip,
        ext := s.sampling.ext, levelsTaken := s.sampling.levelsTaken },
    link := { fresh.link with bus := s.link.bus },
    seq := { fresh.seq with bankA := s.seq.bankA, bankB := s.seq.bankB, active := s.seq.active },
    cool := { fresh.cool with capacity := s.setup.fallbackCapacity },
    gas := { fresh.gas with ceiling := s.setup.reliefCeiling },
    draw := { fresh.draw with limit := s.setup.drawLimit },
    disp :=
      { fresh.disp with
        level := s.disp.level, log := s.disp.log, wrapped := s.disp.wrapped, nextNumber := s.disp.nextNumber } }

/-- EXT_STOP is raised from its present level: at a RESTART, and at the first reading after power-on (R67, R68). -/
def raisePresentExtStop (s : State) : State := if s.sampling.ext.active then raiseAlarm .extStop s else s

/-- RESTART is performed (R65 to R67): the resets, then the raisings made at the RESTART itself, WATCH before EXT_STOP:
DESIGN CHOICE, notes/assumptions/12.md. -/
def restartStation (s : State) : State :=
  raisePresentExtStop (evaluateWatch (wakeBlocks (restartValues (endPourAtRestart s))))

/-- A frame with the own source has been heard (R40): SILENT, the queue emptied, DUPLICATE raised; the coordinator locks
(R160). In SILENT there is no further effect. -/
def duplicateHeard (s : State) : State :=
  if s.link.silent then s
  else
    let s := s.mapLink fun l => { l with silent := true, queue := [], attempt := none }
    updateLockouts (raiseAlarm .duplicate s)

end Sys2Proof.Machine
end

