-- ==== Sys2Proof/Machine/Sensors.lean ====
section
/-! DEFINITION. The sampling unit (spec/01): conversion and judgement of the probes and the transducer, the filter, the
debounce of the switch inputs. -/

namespace Sys2Proof.Machine

/-- A probe's temperature from its raw count and its offset (R6). -/
def probeTemperature (raw : Nat) (offset : Int) : Int := raw - 800 + offset

/-- A probe sample is valid (R6). -/
def probeValid (t : Int) : Bool := -160 ≤ t && t ≤ 960

/-- The filter: F plus the difference over 2^k, truncated toward zero (R8). -/
def filterStep (f t : Int) (k : Nat) : Int := f + (t - f).tdiv (2 ^ k : Nat)

/-- The probe after a sample (R7, R8). -/
def Probe.sample (t : Int) (k : Nat) (p : Probe) : Probe :=
  if probeValid t then
    let run := min 10 (p.validRun + 1)
    let p := { p with rejectRun := 0, validRun := run }
    match p.state with
    | .unseen => { p with state := .good, filtered := some t }
    | .good => { p with filtered := some (filterStep (p.filtered.getD t) t k) }
    | .fault => if run = 10 then { p with state := .good, filtered := some t } else p
  else
    let run := min 5 (p.rejectRun + 1)
    let p := { p with rejectRun := run, validRun := 0 }
    if run = 5 then { p with state := .fault } else p

/-- The transducer's pressure from its raw count, truncated (R10). -/
def transducerPressure (raw : Nat) (fullScale : Int) : Int := (raw * (fullScale + 500)).tdiv 4096 - 500

/-- A pressure sample is valid (R10). -/
def pressureValid (p fullScale : Int) : Bool := -300 ≤ p && p ≤ fullScale + 100

/-- The transducer after a sample (R11, R12): a valid sample joins the history, which keeps the newest four. -/
def Transducer.sample (p fullScale : Int) (t : Transducer) : Transducer :=
  if pressureValid p fullScale then
    let run := min 10 (t.validRun + 1)
    let t := { t with rejectRun := 0, validRun := run, history := (p :: t.history).take 4 }
    match t.state with
    | .unseen => { t with state := .good }
    | .good => t
    | .fault => if run = 10 then { t with state := .good } else t
  else
    let run := min 3 (t.rejectRun + 1)
    let t := { t with rejectRun := run, validRun := 0 }
    if run = 3 then { t with state := .fault } else t

/-- A beer sample with what it hands on: fault and recovery to the supervisor (R7), a withdrawal (R106) and the end of a
pour (R172), the drift of a leak window (R142). A fault reaches the supervisor, then the regulator, then the dispense unit:
DESIGN CHOICE, notes/assumptions/12.md. -/
def beerSample (raw : Nat) (s : State) : State :=
  let old := s.sampling.beer
  let new := old.sample (probeTemperature raw s.setup.beerOffset) s.setup.filterShift
  let s := s.mapSampling fun u => { u with beer := new }
  if new.state = .fault ∧ old.state ≠ .fault then
    let s := raiseAlarm .beerProbe s
    let s := if old.state = .good then withdrawWindow s else s
    endFlowing .fault s
  else
    let s := if new.state = .good ∧ old.state = .fault then endAlarm .beerProbe s else s
    if new.state = .good ∧ new.rejectRun = 0 then leakDrift (new.filtered.getD 0) s else s

/-- A jacket sample: fault and recovery (R7), and the jacket limit tested on a new filtered temperature (R103). On the
sample that ends a fault (R104) JACKET_PROBE's cause ends, with its ALARM(cleared), before the limit's test hands its own:
DESIGN CHOICE, notes/assumptions/12.md. -/
def jacketSample (raw : Nat) (s : State) : State :=
  let old := s.sampling.jacket
  let new := old.sample (probeTemperature raw s.setup.jacketOffset) s.setup.filterShift
  let s := s.mapSampling fun u => { u with jacket := new }
  if new.state = .fault ∧ old.state ≠ .fault then raiseAlarm .jacketProbe s
  else
    let s := if new.state = .good ∧ old.state = .fault then endAlarm .jacketProbe s else s
    if new.state = .good ∧ new.rejectRun = 0 then jacketLimitTest (new.filtered.getD 0) s else s

/-- A pressure sample: fault and recovery to the supervisor (R11), the end of a pour (R172). A fault reaches the supervisor,
then the dispense unit, and only then coordinator and gas regulator, and a recovery the supervisor before these two: DESIGN
CHOICE, notes/assumptions/12.md. -/
def pressureSample (raw : Nat) (s : State) : State :=
  let old := s.sampling.transducer
  let new := old.sample (transducerPressure raw s.setup.fullScale) s.setup.fullScale
  let s := s.mapSampling fun u => { u with transducer := new }
  if new.state = .fault ∧ old.state ≠ .fault then endFlowing .fault (raiseAlarm .pressureSensor s)
  else if new.state = .good ∧ old.state = .fault then endAlarm .pressureSensor s
  else s

/-! ### Switch inputs (R13) -/

/-- A pin pulled low reads active (R13). -/
def readsActive (l : Level) : Bool := l = .low

/-- The readings of each input's debounce time. -/
def handleReadings : Nat := 3
def lineReadings : Nat := 20
def kegReadings : Nat := 100

/-- A reading of an input (R13): equal to the debounced level it clears the change count, else it adds one; the reading
that completes the count makes the level the new one, returns the count to 0 and leaves the change to be delivered. -/
def Switch.read (needed : Nat) (reading : Bool) (w : Switch) : Switch :=
  if reading = w.active then { w with change := 0 }
  else if needed ≤ w.change + 1 then { active := reading, change := 0, undelivered := true }
  else { w with change := w.change + 1 }

/-- A change to `level` is complete and not delivered. -/
def Switch.changedTo (level : Bool) (w : Switch) : Bool := w.undelivered && w.active = level

/-- The change is delivered. -/
def Switch.deliver (w : Switch) : Switch := { w with undelivered := false }

/-- A change of some switch input is to be delivered. -/
def Sampling.undelivered (u : Sampling) : Bool :=
  u.handle.undelivered || u.keg.undelivered || u.lid.undelivered || u.drip.undelivered || u.ext.undelivered

/-- The first reading after power-on (R13, R68, R163): the levels are taken directly, the watch is evaluated, EXT_STOP
and the KEG cause are formed. -/
def firstReading (p : SwitchPins) (s : State) : State :=
  let level (l : Level) : Switch := { active := readsActive l, change := 0, undelivered := false }
  let s := s.mapSampling fun u =>
    { u with handle := level p.handle, keg := level p.kegPresent, lid := level p.lidClosed, drip := level p.dripFull,
             ext := level p.extStop, levelsTaken := true }
  updateLockouts (raisePresentExtStop (evaluateWatch s))

/-- Every later reading. -/
def laterReading (p : SwitchPins) (s : State) : State :=
  s.mapSampling fun u =>
    { u with handle := u.handle.read handleReadings (readsActive p.handle), keg := u.keg.read kegReadings (readsActive p.kegPresent),
             lid := u.lid.read lineReadings (readsActive p.lidClosed), drip := u.drip.read lineReadings (readsActive p.dripFull),
             ext := u.ext.read lineReadings (readsActive p.extStop) }

/-- The watch is evaluated on the change of a watched line; `line` is its bit (R16). -/
def lineChanged (line : Nat) (s : State) : State :=
  if s.setup.watchSet.getLsbD line then evaluateWatch s else s

/-- One 10 ms event of every running duration (R5, R50). What was begun before it (a bucket, a report count) was not begun
on it. -/
def countDurations (s : State) : State :=
  let s := s.mapLink fun l => { l with reportBegunNow := false }
  let s := s.mapTemp fun t => { t with onTimer := tick t.onTimer }
  let s := s.mapCool fun c => { c with openTimer := tick c.openTimer }
  let s := s.mapGas fun g =>
    { g with pulseTimer := tick g.pulseTimer, settleTimer := tick g.settleTimer, bucketBegunNow := false }
  let s := s.mapDraw fun d =>
    { d with settleWindow := tick d.settleWindow, keepTimer := tick d.keepTimer, backoffTimer := tick d.backoffTimer,
             backoffElapsed := if d.state = .backoff then d.backoffElapsed + 1 else d.backoffElapsed }
  let s := s.mapDisp fun d =>
    { d with stallDelay := tick d.stallDelay, stallTimer := tick d.stallTimer, lowTimer := tick d.lowTimer,
             tailTimer := tick d.tailTimer, portionTimer := tick d.portionTimer,
             pour := d.pour.map fun p => { p with elapsed := p.elapsed + 1 } }
  s.mapView fun v =>
    { v with entries := v.entries.map fun e =>
        { e with bay := e.bay.map fun p => { p with left := p.left - 1 },
                 draw := e.draw.map fun p => { p with left := p.left - 1 },
                 chiller := e.chiller.map fun p => { p with left := p.left - 1 } } }

end Sys2Proof.Machine
end

