-- ==== Sys2Proof/Machine/Reception.lean ====
section
/-! DEFINITION. The receive path: acceptance of a frame (R32 to R34), the peer view's refreshes (R43 to R50), the handling
of a COMMAND and its RESULT (R35, R36), and the judgement of a discarded frame's octets. -/

namespace Sys2Proof.Machine

/-! ### Acceptance -/

/-- A reception has ended: the buffer is free, and the bus is busy until its next idle (R24, R32). -/
def endReception (s : State) : State := s.mapLink fun l => { l with bus := .busy, rx := .empty }

/-- The part is receiving: the frame's first start bit met the idle bus, or an own attempt that contended with it has ended
(R24 to R26, R32). No frame is joined under way, as after power-on, and none is taken in while the bus is ignored. -/
def canReceive (s : State) : Bool := s.link.bus = .receiving && s.link.attempt.isNone

/-- The destination is one the station accepts (R33). -/
def destAccepted (s : State) : Dest → Bool
  | .all => true
  | .station n => n = s.ident.number
  | .group g => inGroupSet s g

/-- A frame with a good CRC is tested on its source and its destination (R33); `act` is what an accepted one does. -/
def acceptFrame (h : Header) (act : State → State) (s : State) : State :=
  if canReceive s then
    let s := endReception s
    if h.src = 0 then s
    else if h.src = s.ident.number then duplicateHeard s
    else if destAccepted s h.dest then act s
    else s
  else s

/-! ### Refreshing the peer view (R42 to R50) -/

/-- An entry changed by `f`. -/
def PeerView.update (n : Nat) (f : PeerEntry → PeerEntry) (v : PeerView) : PeerView :=
  { v with entries := v.entries.modify (n - 1) f }

/-- A BAY_STATE fills the bay part (R43). -/
def PeerView.fillBay (n : Nat) (p : BayPart) (v : PeerView) : PeerView :=
  v.update n fun e => { e with bay := some p, drawLater := false }

/-- A DRAW sets the draw part (R45). -/
def PeerView.fillDraw (n : Nat) (p : DrawPart) (v : PeerView) : PeerView :=
  v.update n fun e => { e with draw := some p, drawLater := true }

/-- A COOL_CAP fills the chiller part, which is then the one refreshed most recently (R47, R51). -/
def PeerView.fillChiller (n : Nat) (p : ChillerPart) (v : PeerView) : PeerView :=
  let v := v.update n fun e => { e with chiller := some p }
  { v with chillers := n :: v.chillers.filter (· ≠ n) }

/-- A POUR sets or clears the pouring flag of a present bay part (R49). -/
def PeerView.setPouring (n : Nat) (on : Bool) (v : PeerView) : PeerView :=
  v.update n fun e => { e with bay := e.bay.map fun p => { p with pouring := on } }

/-- A part whose lifetime has run out becomes absent (R46 to R48); one that still runs stays. -/
def PeerView.expire (n : Nat) (part : PeerPart) (v : PeerView) : PeerView :=
  match part with
  | .bay => v.update n fun e => { e with bay := e.bay.filter (0 < ·.left) }
  | .draw => v.update n fun e => { e with draw := e.draw.filter (0 < ·.left) }
  | .chiller =>
    let v := v.update n fun e => { e with chiller := e.chiller.filter (0 < ·.left) }
    { v with chillers := v.chillers.filter fun m => (v.entry m).chiller.isSome }

/-- An accepted DRAW at the coordinator, the view filled: a PRIORITY CLAIM may make a drawer yield (R156); in WAITING an
examination follows (R148). -/
def drawHeard (kind : DrawKind) (urgency : Urgency) (s : State) : State :=
  if kind = .claim ∧ urgency = .priority ∧ mustYield s then releaseToRecover s else examine s

/-! ### Commands (R35, R36) -/

/-- What a command comes to: the state after its effects, its outcome, its result data. -/
structure Reply where
  state : State
  code : ResultCode
  data : List Byte := []

/-- A command that is refused or answered without effect. -/
def refuse (code : ResultCode) (s : State) : Reply := { state := s, code := code }

/-- The RESULT of a command to the own station (R35); the queue discards it in SILENT (R40). -/
def queueResult (h : Header) (code tag : Byte) (r : Reply) : State :=
  queueFrame (.result h.src code tag r.code r.data) r.state

/-- A COMMAND accepted to the own station (R35). A RESTART accepted in SILENT clears SILENT and still gets no RESULT
(R65). -/
def answerCommand (c : CommandName) (h : Header) (tag : Byte) (args : List Byte) (perform : State → Reply) (s : State) :
    State :=
  let silent := s.link.silent
  let s := activityEvent .command s
  let r := if args.length = c.argLength then perform s else refuse .badArgument s
  if silent then r.state else queueResult h c.code tag r

/-- A COMMAND accepted to a group or to ALL (R36): performed without RESULT and without activity event, for the six
commands taken so. -/
def groupCommand (c : CommandName) (args : List Byte) (perform : State → Reply) (s : State) : State :=
  if c.takenByGroup && args.length = c.argLength then (perform s).state else s

/-- A COMMAND frame of a known code: acceptance, then R35 or R36 by its destination. -/
def commandFrame (c : CommandName) (h : Header) (tag : Byte) (args : List Byte) (perform : State → Reply) (s : State) :
    State :=
  acceptFrame h
    (fun s =>
      match h.dest with
      | .station _ => answerCommand c h tag args perform s
      | .group _ | .all => groupCommand c args perform s)
    s

/-! ### Discards (R32, R33, R198) -/

/-- What the tests of R32 to R34 make of the octets of a reception. `routed`: accepted, and taken by the row. -/
inductive Judgement where
  | tooLong
  | duplicate
  | discarded
  | routed (row : Instr)
  deriving DecidableEq, Repr

/-- The judgement of a reception's octets at their last CRC bit, in the order of R32, R33, R34. -/
def judge (os : List Byte) (s : State) : Judgement :=
  match readFrame os with
  | .tooLong => .tooLong
  | .broken => .discarded
  | .good w payload =>
    if w.src = 0 then .discarded
    else if w.src = s.ident.number then .duplicate
    else
      match destOf w.destKind w.destNumber with
      | none => .discarded
      | some d =>
        if destAccepted s d then
          match routedRow w.cls w.src d payload with
          | some row => .routed row
          | none => .discarded
        else .discarded

/-- A received frame is discarded (R32 to R34). After a discard for length or for a stop bit the bus is ignored until its
next idle; a frame with a good CRC and the own source is a duplicate (R40). Octets that are accepted are another row's
frame and not this one's (notes/assumptions/22.md). -/
def discardFrame (rx : Reception) (s : State) : State :=
  if canReceive s then
    match rx with
    | .stopBitDominant => s.mapLink fun l => { l with bus := .ignoring, rx := .empty }
    | .cutOff => s.mapLink fun l => { l with bus := .idle, rx := .empty }
    | .octets os =>
      match judge os s with
      | .tooLong => s.mapLink fun l => { l with bus := .ignoring, rx := .empty }
      | .duplicate => duplicateHeard (endReception s)
      | .discarded => endReception s
      | .routed _ => s
  else s

end Sys2Proof.Machine
end

