-- ==== Sys2Proof/Machine/Ops.lean ====
section
/-! DEFINITION. How a command becomes a step: the part held in reset takes none but POWER_ON, and the leak check follows
its conditions after each. The shared operations themselves stand with their blocks: Link, Alarms, Coordinator, Pouring,
Pressure, Window, Steps, Station, Sensors, Reception. -/

namespace Sys2Proof.Machine

/-- A command with the effect `f`: none while RSTN holds the part in its power-on values (R3); else `f`, after which the
leak check follows its conditions (R142). -/
def perform (f : State → State) (s : State) : Host.Outcome State Fault Refusal :=
  .next (if s.held then s else updateLeak (f s))

end Sys2Proof.Machine
end

