-- ==== Sys2Proof/Machine/TimeEvents.lean ====
section
/-! DEFINITION. Power-on, reset and the five timing events of the time base (spec/01; what each block does at them: spec/05
to spec/09, spec/11). -/

namespace Sys2Proof.Machine

/-- POWER_ON (R3, R56, R68): the straps are read, and every state takes its power-on value. -/
def execPowerOn (straps : Straps) (s : State) : Host.Outcome State Fault Refusal := .next (powerOn straps s)

/-- RSTN_HELD_LOW (R3): the whole part is held in its power-on values until the next POWER_ON. -/
def execRstnHeldLow (s : State) : Host.Outcome State Fault Refusal := .next (holdReset s)

/-- The divider chain at a 10 ms event (R3): every 10th makes a 100 ms event due, every 10th of those a 1 s event, every
60th of those a 1 min event, every 60th of those a 1 h event, all on this same 10 ms event. -/
def TimeBase.advance (t : TimeBase) : TimeBase :=
  let hundred : Bool := 10 ≤ t.tens + 1
  let second : Bool := hundred && 10 ≤ t.hundreds + 1
  let minute : Bool := second && 60 ≤ t.seconds + 1
  let hour : Bool := minute && 60 ≤ t.minutes + 1
  { t with tens := if hundred then 0 else t.tens + 1,
           hundreds := if second then 0 else if hundred then t.hundreds + 1 else t.hundreds,
           seconds := if minute then 0 else if second then t.seconds + 1 else t.seconds,
           minutes := if hour then 0 else if minute then t.minutes + 1 else t.minutes,
           due100ms := hundred, due1s := second, due1min := minute, due1h := hour }

/-- A coarser event falls on the present 10 ms event and has not been taken. -/
def TimeBase.eventDue (t : TimeBase) : Bool := t.due100ms || t.due1s || t.due1min || t.due1h

/-- The present 10 ms event is not over: a coarser event on it (R3), a change that it completed (R13) or the end of a
duration of which it is the last event (R5) has not been taken. The next one cannot come before; notes/assumptions/6.md. -/
def eventUnderWay (s : State) : Bool := s.time.eventDue || s.sampling.undelivered || endToTake s

/-- What a 10 ms event does: the divider chain advances (R3), the switch pins are read (R13), and every running duration
counts it (R5). -/
def tenMsEvent (pins : SwitchPins) (s : State) : State :=
  let s := s.mapTime (·.advance)
  countDurations (if s.sampling.levelsTaken then laterReading pins s else firstReading pins s)

/-- EVENT_10MS (R13). -/
def execEvent10ms (pins : SwitchPins) (s : State) : Host.Outcome State Fault Refusal :=
  perform (fun s => if eventUnderWay s then s else tenMsEvent pins s) s

/-- The draw coordinator's part of a 100 ms event: the lockout causes follow the transducer (R160, R161), the urgency is
formed (R147), a WAITING that stood before is examined (R148), a draw's supply is tested (R157). -/
def coordinatorHandOver (wasWaiting : Bool) (s : State) : State :=
  let s := formUrgency (updateLockouts s)
  supplyTest (if wasWaiting then examine s else s)

/-- What a 100 ms event does: the stored relief ceiling comes in force (R61), the sample (R10 to R12), then coordinator and
gas regulator (R130) in either order, then the dispense unit's pressure test (R171). -/
def hundredMsEvent (raw : Nat) (coordinatorFirst : Bool) (s : State) : State :=
  let wasWaiting : Bool := s.draw.state = .waiting
  let s := s.mapTime fun t => { t with due100ms := false }
  let s := s.mapGas fun g => { g with ceiling := s.setup.reliefCeiling }
  let s := pressureSample raw s
  lowPressureTest
    (if coordinatorFirst then evaluateGas (coordinatorHandOver wasWaiting s)
     else coordinatorHandOver wasWaiting (evaluateGas s))

/-- EVENT_100MS (R10), on the 10 ms event on which the divider chain produces it (R3). -/
def execEvent100ms (raw : Nat) (coordinatorFirst : Bool) (s : State) : Host.Outcome State Fault Refusal :=
  perform (fun s => if s.time.due100ms then hundredMsEvent raw coordinatorFirst s else s) s

/-- The report timer counts a 1 s event, up to the interval at which REPORT_TIMER takes it (R38); not in SILENT (R39). An
event on which a BAY_STATE was queued before is not counted, so that a full interval follows the queueing (R38). -/
def countReport (s : State) : State :=
  if s.link.silent then s
  else
    let interval := reportInterval s
    s.mapLink fun l => 
      { l with reportCount :=
          if !l.reportBegunNow && l.reportCount < interval then l.reportCount + 1 else l.reportCount }

/-- What a 1 s event does: both probes are sampled (R6), and the report timer counts (R38). That the samples with their
raisings come before the count, and the beer probe before the jacket probe, is a DESIGN CHOICE, notes/assumptions/12.md. -/
def oneSecondEvent (rawBeer rawJacket : Nat) (s : State) : State :=
  let s := s.mapTime fun t => { t with due1s := false }
  countReport (jacketSample rawJacket (beerSample rawBeer s))

/-- EVENT_1S (R6), on the 10 ms event on which the divider chain produces it (R3). -/
def execEvent1s (rawBeer rawJacket : Nat) (s : State) : Host.Outcome State Fault Refusal :=
  perform (fun s => if s.time.due1s then oneSecondEvent rawBeer rawJacket s else s) s

/-- The uptime after one more minute (R4). -/
def nextUptime (n : Nat) : Nat := if maxPourNumber ≤ n then 0 else n + 1

/-- The idle timer counts a 1 min event while it runs, up to the period at which IDLE_TIMER_EXPIRY takes it (R184). -/
def countIdle (s : State) : State :=
  if idleRunning s && s.sup.idleCount < s.setup.idlePeriod then
    s.mapSup fun p => { p with idleCount := p.idleCount + 1 }
  else s

/-- The sequencer's part of a 1 min event: the report of a reached target, or the duration count (R75, R76). -/
def sequencerMinute (reached : Bool) (s : State) : State := if reached then targetReached s else countMinute s

/-- What a 1 min event does: the uptime (R4), the ramp movement (R95), then in either order the sequencer's count with the
step end that follows it, and the gas setpoint (R128) with the control window (R97); last the idle timer (R184). An
elapsed duration counted after the window is left to DURATION_ELAPSED. The ramp moves first in both orders, so that a RAMP
started on this event makes its first movement on the next: DESIGN CHOICE, notes/assumptions/12.md. -/
def oneMinuteEvent (sequencerFirst : Bool) (s : State) : State :=
  let s := s.mapTime fun t => { t with due1min := false, uptime := nextUptime t.uptime }
  let moved := rampMove s
  countIdle
    (if sequencerFirst then formWindow (computeSetpoint (elapseDuration (sequencerMinute moved.2 moved.1)))
     else sequencerMinute moved.2 (formWindow (computeSetpoint moved.1)))

/-- EVENT_1MIN (R97), on the 10 ms event on which the divider chain produces it (R3). -/
def execEvent1min (sequencerFirst : Bool) (s : State) : Host.Outcome State Fault Refusal :=
  perform (fun s => if s.time.due1min then oneMinuteEvent sequencerFirst s else s) s

/-- What a 1 h event does: the leak window (R142, R143), then the bucket's completion, handed to the sequencer (R141,
R85). -/
def oneHourEvent (s : State) : State :=
  let s := leakHour (s.mapTime fun t => { t with due1h := false })
  let begunNow := s.gas.bucketBegunNow
  let s := completeBucket s
  if begunNow then s else bucketCompleted s

/-- EVENT_1H (R141), on the 10 ms event on which the divider chain produces it (R3). -/
def execEvent1h (s : State) : Host.Outcome State Fault Refusal :=
  perform (fun s => if s.time.due1h then oneHourEvent s else s) s

end Sys2Proof.Machine
end

