-- ==== Sys2Proof/Machine/LineEvents.lean ====
section
/-! DEFINITION. The debounced changes of the switch inputs and the flow pulse (R14 to R17). The 10 ms event that completes
a change has taken the new level (R13); the row delivers the change, once, and has no effect without one to deliver. -/

namespace Sys2Proof.Machine

/-- What a handle press does: activity event HANDLE (R14); a pour request in IDLE (R165), a deferred one in TAILING
(R174). -/
def pressHandle (s : State) : State :=
  let s := activityEvent .handle (s.mapSampling fun u => { u with handle := u.handle.deliver })
  match s.disp.state with
  | .idle => requestPour s
  | .tailing => s.mapDisp fun d => { d with deferred := true }
  | .flowing => s

/-- HANDLE_PRESS (R14). -/
def execHandlePress (s : State) : Host.Outcome State Fault Refusal :=
  perform (fun s => if s.sampling.handle.changedTo true then pressHandle s else s) s

/-- What a handle release does: a pour in FLOWING ends with HANDLE (R14). -/
def releaseHandle (s : State) : State :=
  endFlowing .handle (s.mapSampling fun u => { u with handle := u.handle.deliver })

/-- HANDLE_RELEASE (R14). -/
def execHandleRelease (s : State) : Host.Outcome State Fault Refusal :=
  perform (fun s => if s.sampling.handle.changedTo false then releaseHandle s else s) s

/-- KEG_PRESENT changes (R15): to inactive it ends a pour with NO_KEG; the KEG cause follows it (R160). That the pour ends
before the coordinator locks, and that the watch comes last, is the model's order: DESIGN CHOICE, notes/assumptions/12.md. -/
def changeKeg (s : State) : State :=
  let s := s.mapSampling fun u => { u with keg := u.keg.deliver }
  let s := if s.sampling.keg.active then s else endFlowing .noKeg s
  lineChanged 0 (updateLockouts s)

/-- LID_CLOSED changes (R15): to inactive it is activity event LID, given before the watch is evaluated: DESIGN CHOICE,
notes/assumptions/12.md. -/
def changeLid (s : State) : State :=
  let s := s.mapSampling fun u => { u with lid := u.lid.deliver }
  lineChanged 1 (if s.sampling.lid.active then s else activityEvent .lid s)

/-- DRIP_FULL changes (R15): only the watch follows it. -/
def changeDrip (s : State) : State := lineChanged 2 (s.mapSampling fun u => { u with drip := u.drip.deliver })

/-- AUX_LINE_CHANGE (R15). -/
def execAuxLineChange (line : AuxLine) (s : State) : Host.Outcome State Fault Refusal :=
  perform
    (fun s =>
      match line with
      | .kegPresent => if s.sampling.keg.undelivered then changeKeg s else s
      | .lidClosed => if s.sampling.lid.undelivered then changeLid s else s
      | .dripFull => if s.sampling.drip.undelivered then changeDrip s else s)
    s

/-- EXT_STOP becomes active (R182): its alarm (R15, R187), in RUN the entry to SAFE (R192), and the watch. A change that
a LEAVE_SAFE on the same event has found taken raises no alarm (R193; notes/assumptions/8.md). -/
def stopLineActive (s : State) : State :=
  let silenced : Bool := s.sup.station = .safe && s.sup.leaveSafeRefused
  let s := s.mapSampling fun u => { u with ext := u.ext.deliver }
  let s := s.mapSup fun p => { p with leaveSafeRefused := false }
  let s := if silenced then s else raiseAlarm .extStop s
  lineChanged 3 (if s.sup.station = .run then enterSafe s else s)

/-- EXT_STOP_ACTIVE (R182). -/
def execExtStopActive (s : State) : Host.Outcome State Fault Refusal :=
  perform (fun s => if s.sampling.ext.changedTo true then stopLineActive s else s) s

/-- EXT_STOP becomes inactive (R182): its alarm's cause ends (R189), and the watch is evaluated (R16), in this order: DESIGN
CHOICE, notes/assumptions/12.md. -/
def stopLineInactive (s : State) : State :=
  lineChanged 3 (endAlarm .extStop (s.mapSampling fun u => { u with ext := u.ext.deliver }))

/-- EXT_STOP_INACTIVE (R182). -/
def execExtStopInactive (s : State) : Host.Outcome State Fault Refusal :=
  perform (fun s => if s.sampling.ext.changedTo false then stopLineInactive s else s) s

/-- FLOW_PULSE (R17). -/
def execFlowPulse (s : State) : Host.Outcome State Fault Refusal := perform flowPulse s

end Sys2Proof.Machine
end

