-- ==== Sys2Proof/Machine/TimerEnds.lean ====
section
/-! DEFINITION. The ends of timed durations (R5). The 10 ms, 1 s and 1 min events count them; the row of an end acts when
the last event of its duration has come, before the next 10 ms event (`eventUnderWay`), and has no effect on a duration that
is not at its end or was cancelled. -/

namespace Sys2Proof.Machine

/-- DURATION_ELAPSED (R76). -/
def execDurationElapsed (s : State) : Host.Outcome State Fault Refusal := perform elapseDuration s

/-- HEATER_ON_TIME_END (R102): the window's heater request ends. -/
def execHeaterOnTimeEnd (s : State) : Host.Outcome State Fault Refusal :=
  perform (fun s => if heaterTimeUp s then s.mapTemp fun t => { t with onTimer := none } else s) s

/-- GLYCOL_OPEN_TIME_END (R120): the window's GLYCOL request ends. -/
def execGlycolOpenTimeEnd (s : State) : Host.Outcome State Fault Refusal :=
  perform (fun s => if glycolTimeUp s then s.mapCool fun c => { c with openTimer := none } else s) s

/-- REPORT_TIMER (R38): the count stands at the interval; a BAY_STATE is queued and the count returns to 0. -/
def execReportTimer (s : State) : Host.Outcome State Fault Refusal :=
  perform (fun s => if reportUp s then queueBayState s else s) s

/-- IDLE_TIMER_EXPIRY (R184): the count stands at the idle period; QUIET is set. The 1 min event has counted the minute
while no pour was there; a pour granted since then, on that same event, has QUIET set during it. -/
def execIdleTimerExpiry (s : State) : Host.Outcome State Fault Refusal :=
  perform (fun s => if idleTimeUp s then enterQuiet s else s) s

/-- PULSE_TIMER_END (R134). -/
def execPulseTimerEnd (s : State) : Host.Outcome State Fault Refusal :=
  perform (fun s => if pulseTimeUp s then pulseEnd s else s) s

/-- SETTLE_END (R134). -/
def execSettleEnd (s : State) : Host.Outcome State Fault Refusal :=
  perform (fun s => if settleTimeUp s then settleEnd s else s) s

/-- SETTLE_WINDOW_END (R150). -/
def execSettleWindowEnd (s : State) : Host.Outcome State Fault Refusal :=
  perform (fun s => if claimWindowUp s then decideClaim s else s) s

/-- KEEP_TIMER_PERIOD (R153). -/
def execKeepTimerPeriod (s : State) : Host.Outcome State Fault Refusal :=
  perform (fun s => if keepPeriodUp s then keepPeriod s else s) s

/-- BACKOFF_END (R151). -/
def execBackoffEnd (s : State) : Host.Outcome State Fault Refusal :=
  perform (fun s => if backoffUp s then contendAgain s else s) s

/-- RECOVER_END (R155). -/
def execRecoverEnd (s : State) : Host.Outcome State Fault Refusal :=
  perform (fun s => if recoverUp s then contendAgain s else s) s

/-- STALL_TIMER_START (R170): 3 s after the entry to FLOWING the stall timer begins its 2 s. -/
def execStallTimerStart (s : State) : Host.Outcome State Fault Refusal :=
  perform
    (fun s =>
      if stallDelayUp s then
        s.mapDisp fun d => { d with stallDelay := none, stallTimer := some (ms 2000) }
      else s)
    s

/-- STALL_TIMER_END (R170). -/
def execStallTimerEnd (s : State) : Host.Outcome State Fault Refusal :=
  perform (fun s => if stallTimeUp s then stallEnd s else s) s

/-- LOW_PRESSURE_TIMER_END (R171). -/
def execLowPressureTimerEnd (s : State) : Host.Outcome State Fault Refusal :=
  perform (fun s => if lowPressureTimeUp s then endFlowing .lowPressure s else s) s

/-- TAIL_TIMER_END (R173). -/
def execTailTimerEnd (s : State) : Host.Outcome State Fault Refusal :=
  perform (fun s => if tailTimeUp s then completePour s else s) s

/-- PORTION_EXPIRY (R175): the armed portion is disarmed. -/
def execPortionExpiry (s : State) : Host.Outcome State Fault Refusal :=
  perform
    (fun s =>
      if portionTimeUp s then s.mapDisp fun d => { d with portion := none, portionTimer := none } else s)
    s

/-- PEER_PART_EXPIRY (R46 to R48): a part whose lifetime has run out becomes absent. -/
def execPeerPartExpiry (station : Nat) (part : PeerPart) (s : State) : Host.Outcome State Fault Refusal :=
  perform (fun s => s.mapView (·.expire station part)) s

end Sys2Proof.Machine
end

