-- ==== Sys2Proof/Machine/BusEvents.lean ====
section
/-! DEFINITION. The link controller's own events on the bus (spec/02): idle, first start bit, the own attempt and its three
endings, a discarded frame. -/

namespace Sys2Proof.Machine

/-- BUS_IDLE (R24): twelve recessive bit times have passed. A frame under way has no such run, so an own attempt goes
on. -/
def execBusIdle (s : State) : Host.Outcome State Fault Refusal :=
  perform (fun s => if s.link.attempt.isNone then s.mapLink fun l => { l with bus := .idle, rx := .empty } else s) s

/-- FIRST_START_BIT (R24, R32): another station's frame begins on the idle bus and is taken in. -/
def execFirstStartBit (s : State) : Host.Outcome State Fault Refusal :=
  perform
    (fun s => if s.link.bus = .idle then s.mapLink fun l => { l with bus := .receiving, rx := .filling } else s) s

/-- The first frame in queue order goes in flight, with the octets of this attempt (R28, R38). -/
def startAttempt (s : State) : State :=
  match s.link.queue with
  | [] => s
  | q :: qs =>
    let a : Attempt :=
      { octets := frameOctets s q.frame, carriesTxDropped := q.frame.isBayState && s.link.txDropped,
        droppedSince := false }
    s.mapLink fun l => { l with queue := { q with inFlight := true } :: qs, attempt := some a, bus := .sending }

/-- TX_ATTEMPT_START (R24, R28): an attempt begins while the bus is idle. -/
def execTxAttemptStart (s : State) : Host.Outcome State Fault Refusal :=
  perform (fun s => if s.link.bus = .idle && s.link.attempt.isNone then startAttempt s else s) s

/-- The attempt ends and the station goes on as a receiver of the frame on the bus (R25, R26). -/
def Link.yieldBus (l : Link) : Link := { l with attempt := none, bus := .receiving, rx := .filling }

/-- ARBITRATION_LOST (R25): the frame stays queued with its attempt count unchanged. -/
def execArbitrationLost (bit : Nat) (s : State) : Host.Outcome State Fault Refusal :=
  perform
    (fun s =>
      match s.link.attempt with
      | none => s
      | some a =>
        if losesArbitration a.octets bit then
          s.mapLink fun l =>
            ({ l with queue := mapInFlight (fun q => { q with inFlight := false }) l.queue } : Link).yieldBus
        else s)
    s

/-- The attempt count at which a frame is dropped (R26). -/
def attemptLimit : Nat := 4

/-- The drop count at which LINK_FAULT is raised (R27). -/
def dropLimit : Nat := 3

/-- A drop is counted, and the one that brings the count to 3 raises LINK_FAULT (R27). -/
def countDrop (s : State) : State :=
  let before := s.link.dropCount
  let s := s.mapLink fun l => { l with dropCount := min dropLimit (l.dropCount + 1) }
  if before + 1 = dropLimit then raiseAlarm .linkFault s else s

/-- The frame in flight has failed its fourth attempt: it leaves the queue, and its owner is told (R26, R27). -/
def dropFrame (q : QFrame) (rest : List QFrame) (s : State) : State :=
  let s := countDrop (s.mapLink fun l => ({ l with queue := rest } : Link).yieldBus)
  if q.liveClaim then claimDropped s else s

/-- A bit error ends the attempt (R26): the count rises, and at 4 the frame is dropped. -/
def failAttempt (s : State) : State :=
  match takeInFlight s.link.queue with
  | none => s.mapLink (·.yieldBus)
  | some (q, rest) =>
    if attemptLimit ≤ q.attempts + 1 then dropFrame q rest s
    else
      s.mapLink fun l =>
        ({ l with queue := mapInFlight (fun q => { q with inFlight := false, attempts := q.attempts + 1 }) l.queue } :
            Link).yieldBus

/-- BIT_ERROR (R26). -/
def execBitError (bit : Nat) (s : State) : Host.Outcome State Fault Refusal :=
  perform
    (fun s =>
      match s.link.attempt with
      | none => s
      | some a => if isBitError a.octets bit then failAttempt s else s)
    s

/-- The report of a send to the block that queued the frame: the live CLAIM (R149), a GROUP_SYNC to an own group
(R41). -/
def reportSend (q : QFrame) (s : State) : State :=
  let s := if q.liveClaim then claimSent s else s
  match q.frame with
  | .groupSync g => if inGroupSet s g then groupSyncAccepted g s else s
  | .alarm .. | .draw .. | .pourStart _ | .pourEnd .. | .result .. | .bayState => s

/-- A frame is sent (R27): it leaves the queue, the drop count returns to 0, a TX_DROPPED it carried clears (R30), and
LINK_FAULT's cause ends. -/
def completeSend (a : Attempt) (q : QFrame) (rest : List QFrame) (s : State) : State :=
  let s := s.mapLink fun l =>
    { l with queue := rest, attempt := none, bus := .busy, dropCount := 0,
             txDropped := l.txDropped && !(a.carriesTxDropped && !a.droppedSince) }
  reportSend q (endAlarm .linkFault s)

/-- FRAME_SENT (R27). -/
def execFrameSent (s : State) : Host.Outcome State Fault Refusal :=
  perform
    (fun s =>
      match s.link.attempt, takeInFlight s.link.queue with
      | some a, some (q, rest) => completeSend a q rest s
      | _, _ => s)
    s

/-- FRAME_DISCARDED (R32, R33). -/
def execFrameDiscarded (rx : Reception) (s : State) : Host.Outcome State Fault Refusal := perform (discardFrame rx) s

end Sys2Proof.Machine
end

