-- ==== Sys2Proof/Machine/Receive.lean ====
section
/-! DEFINITION. The five classes of frame received from peers (R34, R42 to R49, R86). A row's frame has the class of the
row; its source, destination, length and content are judged here. -/

namespace Sys2Proof.Machine

/-- RECEIVE_BAY_STATE (R43): the bay part, then the coordinator's examination (R148). -/
def execReceiveBayState (h : Header) (payload : List Byte) (s : State) : Host.Outcome State Fault Refusal :=
  perform
    (acceptFrame h fun s =>
      match h.dest, bayPartOf payload with
      | .all, some p => examine (s.mapView (·.fillBay h.src p))
      | _, _ => s)
    s

/-- RECEIVE_DRAW (R45): the draw part, then a yield (R156) or an examination (R148). -/
def execReceiveDraw (h : Header) (payload : List Byte) (s : State) : Host.Outcome State Fault Refusal :=
  perform
    (acceptFrame h fun s =>
      match h.dest, drawOf payload with
      | .all, some (kind, urgency, weak) =>
        drawHeard kind urgency (s.mapView (·.fillDraw h.src (drawPartOf kind urgency weak)))
      | _, _ => s)
    s

/-- RECEIVE_COOL_CAP (R47): the chiller part. -/
def execReceiveCoolCap (h : Header) (payload : List Byte) (s : State) : Host.Outcome State Fault Refusal :=
  perform
    (acceptFrame h fun s =>
      match h.dest, chillerPartOf payload with
      | .all, some p => s.mapView (·.fillChiller h.src p)
      | _, _ => s)
    s

/-- RECEIVE_POUR (R49): the pouring flag; a START is activity event PEER_POUR (R34). -/
def execReceivePour (h : Header) (payload : List Byte) (s : State) : Host.Outcome State Fault Refusal :=
  perform
    (acceptFrame h fun s =>
      match h.dest, pourStartOf payload with
      | .all, some started =>
        let s := s.mapView (·.setPouring h.src started)
        if started then activityEvent .peerPour s else s
      | _, _ => s)
    s

/-- RECEIVE_GROUP_SYNC (R86): taken from a GROUP destination with an empty payload (R34, R200). -/
def execReceiveGroupSync (h : Header) (payload : List Byte) (s : State) : Host.Outcome State Fault Refusal :=
  perform
    (acceptFrame h fun s =>
      match h.dest, payload with
      | .group g, [] => groupSyncAccepted g s
      | _, _ => s)
    s

end Sys2Proof.Machine
end

