-- ==== Sys2Proof/Machine/Commands.lean ====
section
/-! DEFINITION. The COMMAND frames (R35, R36, R201): for each command what its owning block checks and does, as a `Reply`,
and its row. Acceptance, activity event and RESULT are `commandFrame`'s. -/

namespace Sys2Proof.Machine

/-- A command performed without result data. -/
def answer (code : ResultCode) (s : State) : Reply := { state := s, code := code }

/-! ### Setup (R59, R62, R65) -/

/-- A setup item's new value is stored (R59); atmosphere and relief ceiling refit the gas setpoint (R128), watch set and
watch reference evaluate the watch (R16). The value already held changes nothing. -/
def storeItem (item : ItemName) (v : Int) (s : State) : State :=
  if s.setup.get item = v then s
  else
    let s := s.mapSetup (·.put v item)
    if item = .atmosphere ∨ item = .reliefCeiling then refitSetpoint s
    else if item = .watchSet ∨ item = .watchReference then evaluateWatch s
    else s

/-- SETUP_ITEM's checks in the order of R59. -/
def setupItemReply (args : List Byte) (s : State) : Reply :=
  if s.sup.station ≠ .setup then refuse .refusedState s
  else
    match args with
    | [code, hi, lo] =>
      match itemNames[code.toNat]? with
      | none => refuse .badArgument s
      | some item =>
        match item.values.fit (signed16 hi lo) with
        | none => refuse .badArgument s
        | some v =>
          { state := storeItem item v s, code := if v = signed16 hi lo then .done else .doneClamped,
            data := code :: be16 (twos 16 v) }
    | _ => refuse .badArgument s

/-- SETUP_ITEM (R59). -/
def execSetupItem (h : Header) (tag : Byte) (args : List Byte) (s : State) : Host.Outcome State Fault Refusal :=
  perform (commandFrame .setupItem h tag args (setupItemReply args)) s

/-- START's test of serve floor against relief ceiling (R62). -/
def startReply (s : State) : Reply :=
  if s.sup.station ≠ .setup then refuse .refusedState s
  else if s.setup.reliefCeiling - 200 ≤ s.setup.serveFloor then refuse .badArgument s
  else answer .done (startStation s)

/-- START (R63). -/
def execStart (h : Header) (tag : Byte) (args : List Byte) (s : State) : Host.Outcome State Fault Refusal :=
  perform (commandFrame .start h tag args startReply) s

/-- RESTART (R66). -/
def execRestart (h : Header) (tag : Byte) (args : List Byte) (s : State) : Host.Outcome State Fault Refusal :=
  perform (commandFrame .restart h tag args fun s => answer .done (restartStation s)) s

/-! ### Forced outputs (R21, R22) -/

/-- An output's code (R201). -/
def outputOf : Nat → Option Output
  | 0 => some .inlet
  | 1 => some .vent
  | 2 => some .tap
  | 3 => some .glycol
  | 4 => some .heater
  | _ => none

/-- The drive states with one of them replaced. -/
def Drivers.set (x : Drivers) (d : Drive) : Output → Drivers
  | .inlet => { x with inlet := d }
  | .vent => { x with vent := d }
  | .tap => { x with tap := d }
  | .glycol => { x with glycol := d }
  | .heater => { x with heater := d }

/-- The partner that an output forced on forces off (R21). -/
def Output.partner : Output → Option Output
  | .inlet => some .vent
  | .vent => some .inlet
  | .glycol => some .heater
  | .heater => some .glycol
  | .tap => none

/-- The drive states after an output is forced on or off (R21). -/
def Drivers.force (x : Drivers) (o : Output) (on : Bool) : Drivers :=
  if on then
    match o.partner with
    | some p => (x.set .forcedOn o).set .forcedOff p
    | none => x.set .forcedOn o
  else x.set .forcedOff o

/-- An output is forced; the need of a forced INLET arrives and ends with it (R22, R146). -/
def forceDrive (o : Output) (on : Bool) (s : State) : State :=
  let before := s.drivers.inlet
  let s := s.mapDrivers (·.force o on)
  if s.drivers.inlet = .forcedOn then
    if before = .forcedOn then s else needArrives s
  else if before = .forcedOn then needEnds s
  else s

/-- FORCE_OUTPUT's rows in the order of R21. -/
def forceOutputReply (args : List Byte) (s : State) : Reply :=
  if s.sup.station ≠ .setup then refuse .refusedState s
  else
    match args with
    | [output, value] =>
      match outputOf output.toNat with
      | none => refuse .badArgument s
      | some o =>
        if 1 < value.toNat then refuse .badArgument s
        else if value = 0#8 then answer .done (forceDrive o false s)
        else if o = .tap ∨ (o = .heater ∧ !s.ident.heaterFitted) then refuse .badArgument s
        else if o = .inlet ∧ safetyVent s then refuse .refusedState s
        else answer .done (forceDrive o true s)
    | _ => refuse .badArgument s

/-- FORCE_OUTPUT (R21). -/
def execForceOutput (h : Header) (tag : Byte) (args : List Byte) (s : State) : Host.Outcome State Fault Refusal :=
  perform (commandFrame .forceOutput h tag args (forceOutputReply args)) s

/-! ### Profile (R71, R72, R80, R87 to R90) -/

/-- A slot of the staged bank is written (R69, R71). -/
def Sequencer.write (q : Sequencer) (i : Nat) (r : Option StepRecord) : Sequencer :=
  match q.active with
  | .a => { q with bankB := q.bankB.set i r }
  | .b => { q with bankA := q.bankA.set i r }

/-- WRITE_STEP's checks in the order of R71. -/
def writeStepReply (args : List Byte) (s : State) : Reply :=
  match args with
  | [] => refuse .badArgument s
  | index :: record =>
    if 11 < index.toNat then refuse .badArgument s
    else if s.seq.pendingSwitch.isSome then refuse .busy s
    else
      match (rawStep record).map RawStep.argument with
      | some .empty => answer .done (s.mapSeq (·.write index.toNat none))
      | some (.record r clamped) =>
        answer (if clamped then .doneClamped else .done) (s.mapSeq (·.write index.toNat (some r)))
      | some .undefined => refuse .badArgument s
      | none => refuse .badArgument s

/-- WRITE_STEP (R71). -/
def execWriteStep (h : Header) (tag : Byte) (args : List Byte) (s : State) : Host.Outcome State Fault Refusal :=
  perform (commandFrame .writeStep h tag args (writeStepReply args)) s

/-- A bank's code read (R201). -/
def bankOf : Nat → Option Bank
  | 0 => some .a
  | 1 => some .b
  | _ => none

/-- READ_STEP's checks and data (R72). -/
def readStepReply (args : List Byte) (s : State) : Reply :=
  match args with
  | [bank, index] =>
    match bankOf bank.toNat with
    | none => refuse .badArgument s
    | some which =>
      if 11 < index.toNat then refuse .badArgument s
      else
        { state := s, code := .done,
          data := byte (which.code * 128 + Machine.bit (which = s.seq.active) * 64 + index.toNat) ::
            stepOctets (s.seq.slot which index.toNat) }
  | _ => refuse .badArgument s

/-- READ_STEP (R72). -/
def execReadStep (h : Header) (tag : Byte) (args : List Byte) (s : State) : Host.Outcome State Fault Refusal :=
  perform (commandFrame .readStep h tag args (readStepReply args)) s

/-- The pending switch is replaced (R80). -/
def setPending (p : Option PendingSwitch) (s : State) : State := s.mapSeq fun q => { q with pendingSwitch := p }

/-- A recorded switch is taken at once or held pending (R82). -/
def recordSwitch (source start group : Nat) (s : State) : State :=
  if source = 1 ∨ (source = 2 ∧ (s.seq.profile = .idle ∨ s.seq.profile = .ended)) then takeSwitchChain start s
  else if source = 2 then setPending (some ⟨.stepEnd, start⟩) s
  else setPending (some ⟨.groupSync group, start⟩) s

/-- SWITCH_BANK's checks in the order of R80. -/
def switchBankReply (args : List Byte) (s : State) : Reply :=
  match args with
  | [source, start, group] =>
    if 3 < source.toNat then refuse .badArgument s
    else if source = 0#8 then answer .done (setPending none s)
    else if 11 < start.toNat ∨ s.seq.slot s.seq.staged start.toNat = none then refuse .badArgument s
    else if source = 3#8 ∧ (group.toNat < 1 ∨ 4 < group.toNat) then refuse .badArgument s
    else
      answer (if s.seq.pendingSwitch.isSome then .doneReplaced else .done)
        (recordSwitch source.toNat start.toNat group.toNat s)
  | _ => refuse .badArgument s

/-- SWITCH_BANK (R80). -/
def execSwitchBank (h : Header) (tag : Byte) (args : List Byte) (s : State) : Host.Outcome State Fault Refusal :=
  perform (commandFrame .switchBank h tag args (switchBankReply args)) s

/-- ADVANCE (R87): in RUNNING and PAUSED the current step ends. -/
def advanceReply (s : State) : Reply :=
  if s.seq.profile = .running ∨ s.seq.profile = .paused then answer .done (endStepChain s)
  else refuse .refusedState s

/-- ADVANCE (R87). -/
def execAdvance (h : Header) (tag : Byte) (args : List Byte) (s : State) : Host.Outcome State Fault Refusal :=
  perform (commandFrame .advance h tag args advanceReply) s

/-- PAUSE_PROFILE (R88). -/
def pauseReply (s : State) : Reply :=
  if s.seq.profile = .running then answer .done (changeProfile .paused s) else refuse .refusedState s

/-- PAUSE_PROFILE (R88). -/
def execPauseProfile (h : Header) (tag : Byte) (args : List Byte) (s : State) : Host.Outcome State Fault Refusal :=
  perform (commandFrame .pauseProfile h tag args pauseReply) s

/-- RESUME_PROFILE (R89): a step in WAITING has its end tested at once, after the gas regulator's evaluation for the change
of profile state (R130): DESIGN CHOICE, notes/assumptions/31.md. -/
def resumeReply (s : State) : Reply :=
  if s.seq.profile = .paused then answer .done (chain chainLimit (changeProfile .running s))
  else refuse .refusedState s

/-- RESUME_PROFILE (R89). -/
def execResumeProfile (h : Header) (tag : Byte) (args : List Byte) (s : State) : Host.Outcome State Fault Refusal :=
  perform (commandFrame .resumeProfile h tag args resumeReply) s

/-- The profile stops (R90): the step is abandoned, a pour in FLOWING ends with MODE, the window is withdrawn (R106), the
need ends with TOPPING (R138), the GAS_MODE cause goes (R161), and a BAY_STATE is queued last (DESIGN CHOICE,
notes/assumptions/7.md). The draw of a forced INLET in SETUP goes on, since its need does (R22, R146; DESIGN CHOICE,
notes/assumptions/30.md). In IDLE only a pending switch is discarded. -/
def stopProfile (s : State) : State :=
  if s.seq.profile = .idle then setPending none s
  else
    let s := s.mapSeq fun q =>
      { q with profile := .idle, index := 0, phase := none, count := 0, pendingSwitch := none }
    queueBayState (updateLockouts (evaluateGas (withdrawWindow (endFlowing .mode s))))

/-- STOP_PROFILE (R90). -/
def execStopProfile (h : Header) (tag : Byte) (args : List Byte) (s : State) : Host.Outcome State Fault Refusal :=
  perform (commandFrame .stopProfile h tag args fun s => answer .done (stopProfile s)) s

/-! ### Supply (R159) -/

/-- The own supply-weak flag is cleared, and SUPPLY_WEAK's cause ends (R159). -/
def clearSupply (s : State) : State := endAlarm .supplyWeak (s.mapDraw fun d => { d with supplyWeak := false })

/-- CLEAR_SUPPLY (R159). -/
def execClearSupply (h : Header) (tag : Byte) (args : List Byte) (s : State) : Host.Outcome State Fault Refusal :=
  perform (commandFrame .clearSupply h tag args fun s => answer .done (clearSupply s)) s

/-! ### Keg level, portion and pour log (R175, R176, R178, R179) -/

/-- The largest keg level in mL (R176). -/
def maxLevel : Nat := 20000

/-- SET_LEVEL (R176). -/
def setLevelReply (args : List Byte) (s : State) : Reply :=
  match args with
  | [hi, lo] =>
    if s.disp.state ≠ .idle then refuse .busy s
    else
      let level := min maxLevel (word16 hi lo)
      { state := s.mapDisp fun d => { d with level := level },
        code := if maxLevel < word16 hi lo then .doneClamped else .done, data := be16 level }
  | _ => refuse .badArgument s

/-- SET_LEVEL (R176). -/
def execSetLevel (h : Header) (tag : Byte) (args : List Byte) (s : State) : Host.Outcome State Fault Refusal :=
  perform (commandFrame .setLevel h tag args (setLevelReply args)) s

/-- ARM_PORTION (R175): every arming starts the 60 s afresh. -/
def armPortionReply (args : List Byte) (s : State) : Reply :=
  match args with
  | [hi, lo] =>
    let asked := word16 hi lo
    if asked = 0 then
      { state := s.mapDisp fun d => { d with portion := none, portionTimer := none }, code := .done, data := be16 0 }
    else
      let portion := clampNat 30 1000 asked
      { state := s.mapDisp fun d => { d with portion := some portion, portionTimer := some (ms 60000) },
        code :=
          if portion ≠ asked then .doneClamped else if s.disp.portion.isSome then .doneReplaced else .done,
        data := be16 portion }
  | _ => refuse .badArgument s

/-- ARM_PORTION (R175). -/
def execArmPortion (h : Header) (tag : Byte) (args : List Byte) (s : State) : Host.Outcome State Fault Refusal :=
  perform (commandFrame .armPortion h tag args (armPortionReply args)) s

/-- READ_POUR (R178, R203). -/
def readPourReply (args : List Byte) (s : State) : Reply :=
  match args with
  | [o] =>
    match s.disp.log[bitsOf o 6 0]? with
    | none => refuse .badArgument s
    | some r => { state := s, code := .done, data := if o.getLsbD 7 then pourPart1 r else pourPart0 s.disp r }
  | _ => refuse .badArgument s

/-- READ_POUR (R178). -/
def execReadPour (h : Header) (tag : Byte) (args : List Byte) (s : State) : Host.Outcome State Fault Refusal :=
  perform (commandFrame .readPour h tag args (readPourReply args)) s

/-- DROP_POURS (R179). -/
def dropPoursReply (args : List Byte) (s : State) : Reply :=
  match args with
  | [n] =>
    let held := s.disp.log.length
    let removed := min n.toNat held
    { state := s.mapDisp fun d => { d with log := d.log.drop removed, wrapped := false },
      code := if held < n.toNat then .doneClamped else .done, data := [byte removed, byte (held - removed)] }
  | _ => refuse .badArgument s

/-- DROP_POURS (R179). -/
def execDropPours (h : Header) (tag : Byte) (args : List Byte) (s : State) : Host.Outcome State Fault Refusal :=
  perform (commandFrame .dropPours h tag args (dropPoursReply args)) s

/-! ### Peer view (R54) -/

/-- READ_VIEW (R54). -/
def readViewReply (args : List Byte) (s : State) : Reply :=
  match args with
  | [n] =>
    if n.toNat < 1 ∨ 15 < n.toNat then refuse .badArgument s
    else { state := s, code := .done, data := viewOctets n.toNat (s.view.entry n.toNat) }
  | _ => refuse .badArgument s

/-- READ_VIEW (R54). -/
def execReadView (h : Header) (tag : Byte) (args : List Byte) (s : State) : Host.Outcome State Fault Refusal :=
  perform (commandFrame .readView h tag args (readViewReply args)) s

/-! ### Supervisor (R186, R190, R193) -/

/-- QUIET's rows (R186). -/
def quietReply (s : State) : Reply :=
  if s.sup.station ≠ .run then refuse .refusedState s
  else if s.sup.quiet then answer .done s
  else answer .done (enterQuiet s)

/-- QUIET (R186). -/
def execQuiet (h : Header) (tag : Byte) (args : List Byte) (s : State) : Host.Outcome State Fault Refusal :=
  perform (commandFrame .quiet h tag args quietReply) s

/-- WAKE's rows (R186). -/
def wakeReply (s : State) : Reply :=
  answer .done
    (if s.sup.station ≠ .run then s
     else if s.sup.quiet then leaveQuiet s
     else s.mapSup fun p => { p with idleCount := 0 })

/-- WAKE (R186). -/
def execWake (h : Header) (tag : Byte) (args : List Byte) (s : State) : Host.Outcome State Fault Refusal :=
  perform (commandFrame .wake h tag args wakeReply) s

/-- The alarms whose latch CLEAR_ALARMS clears as "any other": named, latched, not active; never DUPLICATE, and LEAK by
its own row (R190). -/
def clearable (set : AlarmSet) (p : Supervisor) : AlarmSet :=
  withoutAlarm (withoutAlarm (set &&& p.latched &&& ~~~p.active) .duplicate) .leak

/-- Latches are cleared (R190): LEAK's with its cause and its lockout (R161); a change of the latched set queues a BAY_STATE
(R39). The ALARM(cleared), then what the coordinator queues at its unlocking, then the BAY_STATE join the queue in this
order, which decides what a full queue loses: DESIGN CHOICE, notes/assumptions/12.md. -/
def clearLatches (set : AlarmSet) (s : State) : State :=
  let before := s.sup.latched
  let s := s.mapSup fun p => { p with latched := p.latched &&& ~~~clearable set p }
  let s :=
    if hasAlarm set .leak && hasAlarm s.sup.latched .leak then
      updateLockouts (endAlarm .leak (s.mapSup fun p => { p with latched := withoutAlarm p.latched .leak }))
    else s
  if s.sup.latched = before then s else queueBayState s

/-- CLEAR_ALARMS (R190). -/
def clearAlarmsReply (args : List Byte) (s : State) : Reply :=
  match args with
  | [hi, lo] =>
    if 2048 ≤ word16 hi lo then refuse .badArgument s
    else
      let s := clearLatches (BitVec.ofNat 11 (word16 hi lo)) s
      { state := s, code := .done, data := be16 s.sup.active.toNat ++ be16 s.sup.latched.toNat }
  | _ => refuse .badArgument s

/-- CLEAR_ALARMS (R190). -/
def execClearAlarms (h : Header) (tag : Byte) (args : List Byte) (s : State) : Host.Outcome State Fault Refusal :=
  perform (commandFrame .clearAlarms h tag args (clearAlarmsReply args)) s

/-- LEAVE_SAFE's rows (R193). Refused for an EXT_STOP whose change is on this same event, it leaves the change to raise no
alarm. -/
def leaveSafeReply (s : State) : Reply :=
  if s.sup.station ≠ .safe then refuse .refusedState s
  else if s.sampling.ext.active then
    refuse .refusedState (s.mapSup fun p => { p with leaveSafeRefused := s.sampling.ext.undelivered })
  else answer .done (leaveSafeState s)

/-- LEAVE_SAFE (R193). -/
def execLeaveSafe (h : Header) (tag : Byte) (args : List Byte) (s : State) : Host.Outcome State Fault Refusal :=
  perform (commandFrame .leaveSafe h tag args leaveSafeReply) s

/-! ### A code that names no command (R35) -/

/-- UNKNOWN_COMMAND (R35): to the own station an activity event and a RESULT; to a group or to ALL nothing (R36). A code
that does name a command is not this row's, and has no effect. -/
def execUnknownCommand (h : Header) (code tag : Byte) (_args : List Byte) (s : State) :
    Host.Outcome State Fault Refusal :=
  perform
    (acceptFrame h fun s =>
      match h.dest with
      | .station _ =>
        if namesCommand code then s
        else queueResult h code tag (refuse .unknownCommand (activityEvent .command s))
      | .group _ | .all => s)
    s

end Sys2Proof.Machine
end

