-- ==== Sys2Proof/Machine/Dispatch.lean ====
section
/-! DEFINITION. One arm per command, each one direct call of its meaning. -/

namespace Sys2Proof.Machine

/-- What a command does to everything but the queue of commands. -/
def exec (i : Instr) (s : State) : Host.Outcome State Fault Refusal :=
  match i with
  | .powerOn straps => Sys2Proof.Machine.execPowerOn straps s
  | .event10ms pins => Sys2Proof.Machine.execEvent10ms pins s
  | .event100ms raw coordinatorFirst => Sys2Proof.Machine.execEvent100ms raw coordinatorFirst s
  | .event1s rawBeer rawJacket => Sys2Proof.Machine.execEvent1s rawBeer rawJacket s
  | .event1min sequencerFirst => Sys2Proof.Machine.execEvent1min sequencerFirst s
  | .event1h => Sys2Proof.Machine.execEvent1h s
  | .handlePress => Sys2Proof.Machine.execHandlePress s
  | .handleRelease => Sys2Proof.Machine.execHandleRelease s
  | .auxLineChange line => Sys2Proof.Machine.execAuxLineChange line s
  | .extStopActive => Sys2Proof.Machine.execExtStopActive s
  | .extStopInactive => Sys2Proof.Machine.execExtStopInactive s
  | .flowPulse => Sys2Proof.Machine.execFlowPulse s
  | .durationElapsed => Sys2Proof.Machine.execDurationElapsed s
  | .heaterOnTimeEnd => Sys2Proof.Machine.execHeaterOnTimeEnd s
  | .glycolOpenTimeEnd => Sys2Proof.Machine.execGlycolOpenTimeEnd s
  | .reportTimer => Sys2Proof.Machine.execReportTimer s
  | .idleTimerExpiry => Sys2Proof.Machine.execIdleTimerExpiry s
  | .pulseTimerEnd => Sys2Proof.Machine.execPulseTimerEnd s
  | .settleEnd => Sys2Proof.Machine.execSettleEnd s
  | .settleWindowEnd => Sys2Proof.Machine.execSettleWindowEnd s
  | .keepTimerPeriod => Sys2Proof.Machine.execKeepTimerPeriod s
  | .backoffEnd => Sys2Proof.Machine.execBackoffEnd s
  | .recoverEnd => Sys2Proof.Machine.execRecoverEnd s
  | .stallTimerStart => Sys2Proof.Machine.execStallTimerStart s
  | .stallTimerEnd => Sys2Proof.Machine.execStallTimerEnd s
  | .lowPressureTimerEnd => Sys2Proof.Machine.execLowPressureTimerEnd s
  | .tailTimerEnd => Sys2Proof.Machine.execTailTimerEnd s
  | .portionExpiry => Sys2Proof.Machine.execPortionExpiry s
  | .peerPartExpiry station part => Sys2Proof.Machine.execPeerPartExpiry station part s
  | .busIdle => Sys2Proof.Machine.execBusIdle s
  | .txAttemptStart => Sys2Proof.Machine.execTxAttemptStart s
  | .arbitrationLost bit => Sys2Proof.Machine.execArbitrationLost bit s
  | .bitError bit => Sys2Proof.Machine.execBitError bit s
  | .frameSent => Sys2Proof.Machine.execFrameSent s
  | .frameDiscarded rx => Sys2Proof.Machine.execFrameDiscarded rx s
  | .receiveBayState h payload => Sys2Proof.Machine.execReceiveBayState h payload s
  | .receiveDraw h payload => Sys2Proof.Machine.execReceiveDraw h payload s
  | .receiveCoolCap h payload => Sys2Proof.Machine.execReceiveCoolCap h payload s
  | .receivePour h payload => Sys2Proof.Machine.execReceivePour h payload s
  | .receiveGroupSync h payload => Sys2Proof.Machine.execReceiveGroupSync h payload s
  | .setupItem h tag args => Sys2Proof.Machine.execSetupItem h tag args s
  | .start h tag args => Sys2Proof.Machine.execStart h tag args s
  | .restart h tag args => Sys2Proof.Machine.execRestart h tag args s
  | .forceOutput h tag args => Sys2Proof.Machine.execForceOutput h tag args s
  | .writeStep h tag args => Sys2Proof.Machine.execWriteStep h tag args s
  | .readStep h tag args => Sys2Proof.Machine.execReadStep h tag args s
  | .switchBank h tag args => Sys2Proof.Machine.execSwitchBank h tag args s
  | .advance h tag args => Sys2Proof.Machine.execAdvance h tag args s
  | .pauseProfile h tag args => Sys2Proof.Machine.execPauseProfile h tag args s
  | .resumeProfile h tag args => Sys2Proof.Machine.execResumeProfile h tag args s
  | .stopProfile h tag args => Sys2Proof.Machine.execStopProfile h tag args s
  | .clearSupply h tag args => Sys2Proof.Machine.execClearSupply h tag args s
  | .setLevel h tag args => Sys2Proof.Machine.execSetLevel h tag args s
  | .armPortion h tag args => Sys2Proof.Machine.execArmPortion h tag args s
  | .readPour h tag args => Sys2Proof.Machine.execReadPour h tag args s
  | .dropPours h tag args => Sys2Proof.Machine.execDropPours h tag args s
  | .readView h tag args => Sys2Proof.Machine.execReadView h tag args s
  | .quiet h tag args => Sys2Proof.Machine.execQuiet h tag args s
  | .wake h tag args => Sys2Proof.Machine.execWake h tag args s
  | .clearAlarms h tag args => Sys2Proof.Machine.execClearAlarms h tag args s
  | .leaveSafe h tag args => Sys2Proof.Machine.execLeaveSafe h tag args s
  | .unknownCommand h code tag args => Sys2Proof.Machine.execUnknownCommand h code tag args s
  | .rstnHeldLow => Sys2Proof.Machine.execRstnHeldLow s
  | .firstStartBit => Sys2Proof.Machine.execFirstStartBit s

end Sys2Proof.Machine
end

