-- ==== Sys2Proof/WellFormed.lean ====
section
/-! DEFINITION. Which commands can reach the part: the ranges of their operands. `exec` is total and does not ask for
this; a statement that needs a range names it. -/

namespace Sys2Proof

/-- A destination the header of R197 can carry: a four-bit number. -/
def Dest.wellFormed : Dest → Bool
  | .station n => n ≤ 15
  | .group g => g ≤ 15
  | .all => true

/-- A header whose fields fit their places (R197). -/
def Header.wellFormed (h : Header) : Bool := h.src ≤ 15 && h.dest.wellFormed

/-- The codes of the command table of R201. -/
def commandCodes : List Nat :=
  [0x01, 0x02, 0x03, 0x04, 0x10, 0x11, 0x12, 0x13, 0x14, 0x15, 0x16, 0x20, 0x30, 0x31, 0x32, 0x33, 0x40, 0x50, 0x51,
    0x52, 0x53]

/-- The ranges of the operands: raw counts (R6, R10), station numbers (R42), header fields (R197), at most 16 payload
octets in a frame (R23), an UNKNOWN_COMMAND whose code is in no row of R201's table. -/
def Instr.wellFormed : Instr → Bool
  | .event100ms raw _ => raw ≤ 4607
  | .event1s rawBeer rawJacket => rawBeer ≤ 4095 && rawJacket ≤ 4095
  | .peerPartExpiry station _ => 1 ≤ station && station ≤ 15
  | .frameDiscarded (.octets os) => os.length ≤ 21
  | .receiveBayState h p | .receiveDraw h p | .receiveCoolCap h p | .receivePour h p | .receiveGroupSync h p =>
    h.wellFormed && p.length ≤ 16
  | .setupItem h _ a | .start h _ a | .restart h _ a | .forceOutput h _ a | .writeStep h _ a | .readStep h _ a
  | .switchBank h _ a | .advance h _ a | .pauseProfile h _ a | .resumeProfile h _ a | .stopProfile h _ a
  | .clearSupply h _ a | .setLevel h _ a | .armPortion h _ a | .readPour h _ a | .dropPours h _ a | .readView h _ a
  | .quiet h _ a | .wake h _ a | .clearAlarms h _ a | .leaveSafe h _ a =>
    h.wellFormed && a.length ≤ 14
  | .unknownCommand h code _ a => h.wellFormed && a.length ≤ 14 && !commandCodes.contains code.toNat
  | .powerOn _ | .event10ms _ | .event1min _ | .event1h | .handlePress | .handleRelease | .auxLineChange _
  | .extStopActive | .extStopInactive | .flowPulse | .durationElapsed | .heaterOnTimeEnd | .glycolOpenTimeEnd
  | .reportTimer | .idleTimerExpiry | .pulseTimerEnd | .settleEnd | .settleWindowEnd | .keepTimerPeriod | .backoffEnd
  | .recoverEnd | .stallTimerStart | .stallTimerEnd | .lowPressureTimerEnd | .tailTimerEnd | .portionExpiry | .busIdle
  | .txAttemptStart | .arbitrationLost _ | .bitError _ | .frameSent | .frameDiscarded .stopBitDominant
  | .frameDiscarded .cutOff | .rstnHeldLow | .firstStartBit => true

end Sys2Proof
end

