-- ==== Sys2Proof/Safety.lean ====
section
/-! DEFINITION. What counts as a safe state: the invariants that every step keeps, and the words the statements use for a
command that reaches the part. -/

namespace Sys2Proof.Machine

/-! ### Link controller (spec/02) -/

/-- A queue in queue order with at most 6 frames, none of them with four failed attempts (R26, R28). -/
def QueueOk (q : List QFrame) : Prop :=
  q.length ≤ 6 ∧ (q.map (·.frame.priority)).Pairwise (· ≤ ·) ∧ ∀ f ∈ q, f.attempts < 4

/-- The link controller's invariant: its queue (R28), empty in SILENT (R40); a frame of it in flight exactly while an
attempt is under way, and then one (R28); the bus taken for sending exactly then (R24); the receive buffer filling exactly
while a frame is received (R32); the drop count (R27). -/
def LinkOk (l : Link) : Prop :=
  QueueOk l.queue ∧ (l.silent = true → l.queue = []) ∧
    (l.queue.filter (·.inFlight)).length = (if l.attempt.isSome then 1 else 0) ∧
    (l.bus = .sending ↔ l.attempt.isSome = true) ∧ (l.rx = .filling ↔ l.bus = .receiving) ∧ l.dropCount ≤ 3

/-! ### Time base (spec/01) -/

/-- The divider chain's place within its hour, in 10 ms events (R3). -/
def TimeBase.phase (t : TimeBase) : Nat := t.tens + 10 * (t.hundreds + 10 * (t.seconds + 60 * t.minutes))

/-- The divider chain's counts stay below their dividers, and a coarser event is due only where one of each finer kind
falls (R3). -/
def TimeOk (t : TimeBase) : Prop :=
  t.tens < 10 ∧ t.hundreds < 10 ∧ t.seconds < 60 ∧ t.minutes < 60 ∧ (t.due100ms = true → t.phase % 10 = 0) ∧
    (t.due1s = true → t.phase % 100 = 0) ∧ (t.due1min = true → t.phase % 6000 = 0) ∧ (t.due1h = true → t.phase = 0)

/-! ### Setup (spec/04) -/

/-- Every setup item holds a value of its range (R58). -/
def SetupOk (x : SetupItems) : Prop := ∀ item : ItemName, item.values.fit (x.get item) = some (x.get item)

/-! ### Profile and temperature (spec/05, spec/06) -/

/-- A step record whose fields lie in their ranges, with ACTIVITY_LOW under SPUND alone (R70). -/
def StepRecord.Legal (r : StepRecord) : Prop :=
  (-64 ≤ r.target ∧ r.target ≤ 512) ∧ r.duration ≤ 999 ∧ (1 ≤ r.weight ∧ r.weight ≤ 4) ∧
    (∀ rate, r.kind = .ramp rate → 1 ≤ rate ∧ rate ≤ 1024) ∧
    (∀ v, r.gas.target = some v → 100 ≤ v ∧ v ≤ 400) ∧ (∀ g, r.syncOut = some g → 1 ≤ g ∧ g ≤ 4) ∧
    (∀ n h, r.endKind = .activityLow n h → (1 ≤ n ∧ n ≤ 8) ∧ h ≤ 255 ∧ r.gas.mode = .spund) ∧
    (∀ g, r.endKind = .groupSync g → 1 ≤ g ∧ g ≤ 4)

/-- A bank: 12 slots, each EMPTY or with a legal record (R69, R70). -/
def BankOk (b : List (Option StepRecord)) : Prop := b.length = 12 ∧ ∀ r, some r ∈ b → r.Legal

/-- The sequencer's invariant: its banks (R69, R70); in IDLE index 0 and no phase (R73), else a phase and a record in
the current slot (R74). -/
def SeqOk (q : Sequencer) : Prop :=
  BankOk q.bankA ∧ BankOk q.bankB ∧
    if q.profile = .idle then q.index = 0 ∧ q.phase = none
    else q.phase.isSome = true ∧ (q.slot q.active q.index).isSome = true

/-- The setpoint accumulator lies within the range of the step targets (R93), the integral within 0 to 25600 (R99). -/
def TempOk (t : Temperature) : Prop :=
  (-64 * 65536 ≤ t.accumulator ∧ t.accumulator ≤ 512 * 65536) ∧ (0 ≤ t.integral ∧ t.integral ≤ 25600)

/-! ### Cooling share (spec/07) -/

/-- The throttle level (R117), the last grant against the capacity in use, and the window's open time (R119). -/
def CoolOk (c : Cooling) : Prop :=
  c.throttle ≤ 3 ∧ c.lastGrant ≤ c.capacity ∧ c.openTime ≤ 60 ∧ ∀ n, c.openTimer = some n → n ≤ ms 60000

/-! ### Gas (spec/08, spec/09) -/

/-- The gas setpoint lies between 50 hPa and the relief ceiling less 200 hPa (R127); the activity ring (R140). -/
def GasOk (x : SetupItems) (g : Gas) : Prop :=
  (50 ≤ g.setpoint ∧ g.setpoint ≤ x.reliefCeiling - 200) ∧ g.openBucket ≤ 255 ∧ g.buckets.length ≤ 8 ∧
    ∀ n ∈ g.buckets, n ≤ 255

/-- VENT and the sensor (R137): SENSOR_VENT stands exactly while the transducer is not GOOD, and a GOOD transducer has a
pressure (R12). A part held in reset has not evaluated yet. -/
def VentInv (s : State) : Prop :=
  s.held = false →
    (s.sampling.transducer.state = .good → s.sampling.transducer.history ≠ []) ∧
      (s.gas.state = .sensorVent ↔ s.sampling.transducer.state ≠ .good)

/-! ### Draw coordinator (spec/09) -/

/-- The coordinator's invariant: no need in IDLE, and a need in every state but IDLE and LOCKED (R146); the settle window
runs in CLAIMING alone (R149), the keep timer exactly in DRAWING, its count below 4 (R153), the backoff timer exactly in
BACKOFF and RECOVER (R151, R155); at most 21 pressures in the rise record (R157). -/
def DrawOk (d : Draw) : Prop :=
  (d.state = .idle → d.need = false) ∧ (d.state ≠ .idle → d.state ≠ .locked → d.need = true) ∧
    (d.settleWindow.isSome = true → d.state = .claiming) ∧ (d.keepTimer.isSome = true ↔ d.state = .drawing) ∧
    (d.backoffTimer.isSome = true ↔ d.state = .backoff ∨ d.state = .recover) ∧ d.keepCount ≤ 3 ∧ d.rise.length ≤ 21

/-- The need is present exactly in TOPPING or with INLET forced on, the one in RUN alone and the other in SETUP alone
(R146). -/
def NeedInv (s : State) : Prop :=
  (s.draw.need = true ↔ s.gas.state = .topping ∨ s.drivers.inlet = .forcedOn) ∧
    (s.gas.state = .topping → s.sup.station = .run) ∧ (s.drivers.inlet = .forcedOn → s.sup.station = .setup)

/-- The draw state is LOCKED exactly while there is a lockout cause, and the causes are those present (R160), but for a
change of KEG_PRESENT still to be delivered (R15). A part held in reset has not formed them yet. -/
def LockInv (s : State) : Prop :=
  s.held = false →
    (s.draw.state = .locked ↔ s.draw.causes.any = true) ∧
      (s.sampling.keg.undelivered = false → s.draw.causes = formCauses s)

/-! ### Dispensing (spec/10) -/

/-- The number that the next record of the log takes: the pour in progress has its own already (R177). -/
def Dispense.upNext (d : Dispense) : Nat :=
  match d.pour with
  | some p => p.number
  | none => d.nextNumber

/-- The keg level (R176) and the pour log (R177): at most 32 records, each numbered one more than the record before it,
and the number to come following the last. -/
def KegInv (s : State) : Prop :=
  s.disp.level ≤ 20000 ∧ s.disp.log.length ≤ 32 ∧
    (s.disp.log.map (·.number)).IsChain (fun a b => b = a + 1) ∧
    (∀ r, s.disp.log.getLast? = some r → s.disp.upNext = nextPourNumber r.number) ∧
    (∀ p, s.disp.pour = some p → s.disp.nextNumber = nextPourNumber p.number) ∧
    (s.disp.pour = none ↔ s.disp.state = .idle)

/-- What FLOWING requires of everything but KEG_PRESENT (R164). -/
def ServingApartFromKeg (s : State) : Prop :=
  s.sup.station = .run ∧ handedMode s = some .serve ∧ s.sampling.beer.state = .good ∧ s.sampling.transducer.state = .good

/-- What FLOWING requires (R164). -/
def Serving (s : State) : Prop := ServingApartFromKeg s ∧ s.sampling.keg.active = true

/-- FLOWING exists only while serving (R164), but for a change of KEG_PRESENT still to be delivered (R15). Until the first
10 ms event takes the levels, KEG_PRESENT stands as power-on left it. -/
def FlowInv (s : State) : Prop :=
  (s.disp.state = .flowing → ServingApartFromKeg s ∧ (s.sampling.keg.undelivered = false → s.sampling.keg.active = true)) ∧
    (s.sampling.levelsTaken = false → s.sampling.keg = {})

/-- TAP is never forced on, and outside SETUP nothing is forced (R21, R63, R66). -/
def DriveInv (s : State) : Prop :=
  s.drivers.tap ≠ .forcedOn ∧ (s.sup.station ≠ .setup → s.drivers = {})

/-! ### Alarms (spec/11) -/

/-- Every active alarm is latched (R188), and an alarm is active exactly while its cause is there (R187). EXT_STOP's is so
but for a change of the line still to be delivered (R15), and for a line that closed again in SAFE before a LEAVE_SAFE on
the same event (R193). Until the first 10 ms event takes the levels, EXT_STOP stands as power-on left it. -/
def AlarmInv (s : State) : Prop :=
  s.sup.active &&& ~~~s.sup.latched = 0#11 ∧
    hasAlarm s.sup.active .beerProbe = decide (s.sampling.beer.state = .fault) ∧
    hasAlarm s.sup.active .jacketProbe = decide (s.sampling.jacket.state = .fault) ∧
    hasAlarm s.sup.active .pressureSensor = decide (s.sampling.transducer.state = .fault) ∧
    hasAlarm s.sup.active .overpressure = decide (s.gas.state = .relief) ∧
    hasAlarm s.sup.active .leak = hasAlarm s.sup.latched .leak ∧
    hasAlarm s.sup.active .jacketHot = s.temp.limitInForce ∧
    hasAlarm s.sup.active .supplyWeak = s.draw.supplyWeak ∧
    (s.sampling.ext.undelivered = false →
      (hasAlarm s.sup.active .extStop = true → s.sampling.ext.active = true) ∧
        (s.sampling.ext.active = true → hasAlarm s.sup.active .extStop = true ∨ s.sup.station = .safe)) ∧
    hasAlarm s.sup.active .watch = decide (s.sampling.watch = .tripped) ∧
    hasAlarm s.sup.active .duplicate = s.link.silent ∧
    hasAlarm s.sup.active .linkFault = decide (s.link.dropCount = 3) ∧ s.link.dropCount ≤ 3 ∧
    (s.sampling.levelsTaken = false → s.sampling.ext = {})

/-! ### Peer view (spec/03) -/

/-- An entry's parts hold what a frame can give them: weight 1 to 4, demand units and interval of one octet (R200), a
capacity of at most 2000 (R47), each lifetime at most the one its refresh starts (R44 to R47). -/
def PeerEntry.Ok (e : PeerEntry) : Prop :=
  (∀ p, e.bay = some p → (1 ≤ p.weight ∧ p.weight ≤ 4) ∧ p.demand ≤ 255 ∧ p.interval ≤ 255 ∧ p.left ≤ ms 182000) ∧
    (∀ p, e.draw = some p → p.left ≤ ms 3000) ∧ (∀ p, e.chiller = some p → p.capacity ≤ 2000 ∧ p.left ≤ ms 10000)

/-- The remaining lifetime of a station's chiller part. -/
def PeerView.chillerLeft (v : PeerView) (n : Nat) : Nat := ((v.entry n).chiller.map (·.left)).getD 0

/-- The peer view: 15 entries, the own one empty (R42), a station number of 1 to 8 (R56); the stations with a chiller part,
each once, the one refreshed most recently first: each refresh starts the same lifetime, so the lifetimes left never rise
along the list (R47, R51). -/
def ViewInv (s : State) : Prop :=
  s.view.entries.length = 15 ∧ (∀ e ∈ s.view.entries, e.Ok) ∧ (1 ≤ s.ident.number ∧ s.ident.number ≤ 8) ∧
    s.view.entry s.ident.number = {} ∧ s.view.chillers.Nodup ∧
    (s.view.chillers.map s.view.chillerLeft).Pairwise (· ≥ ·) ∧
    ∀ n, n ∈ s.view.chillers ↔ 1 ≤ n ∧ n ≤ 15 ∧ (s.view.entry n).chiller.isSome = true

/-! ### Words for the statements -/

/-- The gas setpoint and its flags are those of the carbonation target and the filtered beer temperature now held, where both
are there (R127, R128), and the relief ceiling leaves a range for it. -/
def SetpointComputed (s : State) : Prop :=
  match handedTarget s, s.sampling.beer.filtered with
  | some v, some f =>
    let gauge := (absolutePressure v (solubility f) : Int) - s.setup.atmosphere
    250 ≤ s.setup.reliefCeiling →
      s.gas.setpoint = max 50 (min (s.setup.reliefCeiling - 200) gauge) ∧ (s.gas.limitedLow = true ↔ gauge < 50) ∧
        (s.gas.limitedHigh = true ↔ s.setup.reliefCeiling - 200 < gauge)
  | _, _ => True

/-- The gas setpoint and its flags stand as they were. -/
def SetpointStands (s t : State) : Prop :=
  t.gas.setpoint = s.gas.setpoint ∧ t.gas.limitedLow = s.gas.limitedLow ∧ t.gas.limitedHigh = s.gas.limitedHigh

/-- A frame that a block has queued stands in the queue after the command: not in SILENT (R40), and where the queue has room
for it beside the others that the command may queue before it (R28, R30). -/
def Queued (f : Frame) (s t : State) : Prop :=
  s.link.silent = false → s.link.queue.length < 3 → f ∈ t.link.queue.map (·.frame)

/-- The alarm, not active before, is active and latched, and its ALARM(raised) queued (R188). -/
def Raised (a : Alarm) (s t : State) : Prop :=
  hasAlarm s.sup.active a = false →
    hasAlarm t.sup.active a = true ∧ hasAlarm t.sup.latched a = true ∧ Queued (.alarm a true 0#4) s t

/-- The alarm, active before, is active no more, its latch stands, and its ALARM(cleared) is queued (R189). -/
def Ended (a : Alarm) (s t : State) : Prop :=
  hasAlarm s.sup.active a = true →
    hasAlarm t.sup.active a = false ∧ hasAlarm t.sup.latched a = hasAlarm s.sup.latched a ∧
      Queued (.alarm a false 0#4) s t

/-- A step with the record `r` has started, here one that does not end at its own start: its phase and count (R76, R77), the
setpoint accumulator by its kind (R94), the activity ring cleared (R141), the gas setpoint from its carbonation target where
it has one and the beer a temperature (R77, R128), and its sync-out GROUP_SYNC queued, or none without a sync out (R79). A
pour in FLOWING goes on only where the mode does not leave SERVE (R78). Banks, integral, window, cooling share, view, setup,
samples, level, log and station state stand. -/
def StepStarted (r : StepRecord) (s t : State) : Prop :=
  let ramping := (∃ rate, r.kind = .ramp rate) ∧ r.target ≠ s.temp.accumulator / 65536
  (ramping → t.seq.phase = some .ramping ∧ t.temp.accumulator = s.temp.accumulator) ∧
    (¬ramping → t.seq.phase = some .soaking ∧ t.temp.accumulator = r.target * 65536) ∧ t.seq.count = 0 ∧
    t.gas.openBucket ≤ 1 ∧ (t.gas.state ≠ .pulse → t.gas.openBucket = 0) ∧ t.gas.buckets = [] ∧
    handedTarget t = r.gas.target ∧ SetpointComputed t ∧
    (r.gas.target = none ∨ s.sampling.beer.filtered = none → SetpointStands s t) ∧
    (∀ g, r.syncOut = some g → Queued (.groupSync g) s t) ∧
    (r.syncOut = none → ∀ q ∈ t.link.queue, (∃ g, q.frame = .groupSync g) → q.frame ∈ s.link.queue.map (·.frame)) ∧
    t.seq.bankA = s.seq.bankA ∧ t.seq.bankB = s.seq.bankB ∧
    t.temp.integral = s.temp.integral ∧ t.temp.onTimer = s.temp.onTimer ∧ t.cool = s.cool ∧ t.view = s.view ∧
    t.setup = s.setup ∧ t.sampling = s.sampling ∧ t.disp.level = s.disp.level ∧ t.disp.log = s.disp.log ∧
    t.sup.station = s.sup.station ∧ (t.disp.state = .flowing → r.gas.mode = .serve ∨ handedMode s ≠ some .serve)

/-- The current step has ended (R83): a pending STEP_END switch is taken (R81), else the next slot's step starts, else the
profile is ENDED and its step kept. -/
def StepEnded (s t : State) : Prop :=
  (∀ start, s.seq.pendingSwitch = some ⟨.stepEnd, start⟩ →
    ∀ next, s.seq.slot s.seq.staged start = some next → 0 < next.duration →
      StepStarted next s t ∧ t.seq.active = s.seq.staged ∧ t.seq.pendingSwitch = none ∧ t.seq.index = start ∧
        t.seq.profile = if s.seq.profile = .paused then .paused else .running) ∧
  ((∀ start, s.seq.pendingSwitch ≠ some ⟨.stepEnd, start⟩) →
    (∀ next, nextSlot s.seq = some next → 0 < next.duration →
      StepStarted next s t ∧ t.seq.active = s.seq.active ∧ t.seq.pendingSwitch = s.seq.pendingSwitch ∧
        t.seq.index = s.seq.index + 1 ∧ t.seq.profile = s.seq.profile) ∧
    (nextSlot s.seq = none → t.seq = { s.seq with profile := .ended } ∧ t.temp = s.temp ∧ t.cool = s.cool ∧
      t.disp = s.disp ∧ t.gas.setpoint = s.gas.setpoint ∧ (s.link.silent = false → t.link.reportCount = 0)))

/-- The end of a RUNNING step in WAITING is met at a test of R84 or R85: TIME, or in RUN an ACTIVITY_LOW whose newest buckets,
as many as it asks for, each hold fewer vent pulses than its threshold. -/
def EndMet (r : StepRecord) (s : State) : Prop :=
  r.endKind = .time ∨
    ∃ hours threshold, r.endKind = .activityLow hours threshold ∧ s.sup.station = .run ∧
      hours ≤ s.gas.buckets.length ∧ ∀ n ∈ s.gas.buckets.take hours, n < threshold

/-- The commands that wait can reach the part. -/
def PendingOk (s : State) : Prop := ∀ c ∈ s.pending, c.wellFormed = true

/-- A frame with this header is accepted: the part runs and receives, and source and destination pass R33. -/
def Accepts (h : Header) (s : State) : Prop :=
  s.held = false ∧ canReceive s = true ∧ h.src ≠ 0 ∧ h.src ≠ s.ident.number ∧ destAccepted s h.dest = true

/-- A COMMAND frame with this header is accepted to the own station alone, also in SILENT (R35, R40). -/
def Addressed (h : Header) (s : State) : Prop := Accepts h s ∧ h.dest = .station s.ident.number

/-- The part as the owning block of a command finds it: the reception over, activity event COMMAND given (R35). -/
def atDispatch (s : State) : State := activityEvent .command (endReception s)

/-- The part after a command to the own station came to `t` with this outcome and these data (R35): the RESULT joins the
queue, and in SILENT is discarded (R40). -/
def withResult (h : Header) (code tag : Byte) (outcome : ResultCode) (data : List Byte) (t : State) : State :=
  updateLeak (queueFrame (.result h.src code tag outcome data) t)

/-- A frame of another class than COMMAND, or a COMMAND, that is received but not accepted: source 0, or a destination
that is not the station's (R33). -/
def Unaccepted (h : Header) (s : State) : Prop :=
  s.held = false ∧ canReceive s = true ∧ h.src ≠ s.ident.number ∧ (h.src = 0 ∨ destAccepted s h.dest = false)

/-- A frame received from the own station number: a duplicate (R40). -/
def FromTwin (h : Header) (s : State) : Prop :=
  s.held = false ∧ canReceive s = true ∧ h.src ≠ 0 ∧ h.src = s.ident.number

/-- The header of the frame that a row receives: one of the five classes from peers, or a COMMAND. -/
def Received (h : Header) (c : Instr) : Prop :=
  (∃ p, c = .receiveBayState h p ∨ c = .receiveDraw h p ∨ c = .receiveCoolCap h p ∨ c = .receivePour h p ∨
      c = .receiveGroupSync h p) ∨
    (∃ n tag args, c = CommandName.row h tag args n) ∨ ∃ code tag args, c = .unknownCommand h code tag args

end Sys2Proof.Machine
end

