-- ==== Sys2Proof/Certificates/Slice0/Obligations.lean ====
section
/-! DEFINITION. The statements for the provers. A state `s` in a statement is any state, also one that no run reaches,
unless a premise says otherwise. `s.held = false`: RSTN does not hold the part (R3). -/

open Sys2Proof Sys2Proof.Machine

/-! ### The block as a whole -/

/-- A step takes the command at the front of the queue and runs it with the queue's rest. With no command waiting the block
idles: the model's choice, notes/assumptions/3.md. -/
def Obligations.StepRunsFrontCommand : Prop :=
  (∀ (c : Instr) (rest : List Instr) (s : State), s.pending = c :: rest → step s = exec c { s with pending := rest }) ∧
  (∀ s : State, s.pending = [] → step s = .next s)

/-- Every command answers a next state; the queue of commands is `step`'s alone; and what only certain commands may
change: the identity (R56), the setup items (R59, R65), the banks (R69), the time base (R3, R4), the keg level (R176),
SILENT (R40), and the relief ceiling in force, which a SETUP_ITEM leaves to the next 100 ms event (R61). The divider chain's counts stay below their dividers, and a coarser event is due only where one of each
finer kind falls (R3). -/
def Obligations.WhatOnlyCertainCommandsChange : Prop :=
  ∀ (c : Instr) (s : State), ∃ t, exec c s = .next t ∧ t.pending = s.pending ∧
    ((∀ p, c ≠ .powerOn p) → t.ident = s.ident) ∧
    ((∀ p, c ≠ .powerOn p) → c ≠ .rstnHeldLow →
      t.held = s.held ∧
      ((∀ h g a, c ≠ .setupItem h g a) → t.setup = s.setup) ∧
      ((∀ h g a, c ≠ .writeStep h g a) → t.seq.bankA = s.seq.bankA ∧ t.seq.bankB = s.seq.bankB) ∧
      ((∀ p, c ≠ .event10ms p) → (∀ n b, c ≠ .event100ms n b) → (∀ m n, c ≠ .event1s m n) →
        (∀ b, c ≠ .event1min b) → c ≠ .event1h → t.time = s.time) ∧ (TimeOk s.time → TimeOk t.time) ∧
      ((∀ h g a, c ≠ .setLevel h g a) → c ≠ .tailTimerEnd → (∀ h g a, c ≠ .restart h g a) →
        t.disp.level = s.disp.level) ∧
      ((∀ n b, c ≠ .event100ms n b) → (∀ h g a, c ≠ .restart h g a) → t.gas.ceiling = s.gas.ceiling) ∧
      ((∀ h g a, c ≠ .restart h g a) → s.link.silent = true → t.link.silent = true))

/-- POWER_ON reads the straps (R56) and gives every block its power-on value; the gas regulator and the coordinator act at
once on the UNSEEN transducer (R145, R163). `State.reset` is the state after POWER_ON with the straps of
`Config.resetStraps`, which are the model's choice (notes/assumptions/1.md). -/
def Obligations.PowerOnAndReset : Prop :=
  (∀ (p : Straps) (s : State), ∃ t, exec (.powerOn p) s = .next t ∧ t.held = false ∧ t.pending = s.pending ∧
     t.ident.number =
       (if p.stn2 = .high then 4 else 0) + (if p.stn1 = .high then 2 else 0) + (if p.stn0 = .high then 1 else 0) + 1 ∧
     t.ident.heaterFitted = decide (p.htr = .high) ∧
     t.time = { tens := 0, hundreds := 0, seconds := 0, minutes := 0, due100ms := false, due1s := false,
                due1min := false, due1h := false, uptime := 0 } ∧
     t.setup = { groupSet := 0#4, beerOffset := 0, jacketOffset := 0, filterShift := 3, kp := 40, ki := 8, heatBand := 8,
                 jacketMax := 560, valveCapacity := 100, fallbackCapacity := 100, drawLimit := 2, atmosphere := 1013,
                 reliefCeiling := 2500, band := 40, serveFloor := 300, serveMax := 128, fullScale := 4000,
                 flowFactor := 500, maxPour := 600, reserve := 150, leakLimit := 60, idlePeriod := 60,
                 activitySet := 63#6, wakeSet := 37#6, watchReference := 3#4, watchSet := 15#4 } ∧
     t.sup = { station := .setup, quiet := false, idleCount := 0, active := 0#11, latched := 0#11,
               leaveSafeRefused := false } ∧
     t.sampling.beer = { state := .unseen, rejectRun := 0, validRun := 0, filtered := none } ∧
     t.sampling.jacket = { state := .unseen, rejectRun := 0, validRun := 0, filtered := none } ∧
     t.sampling.transducer = { state := .unseen, rejectRun := 0, validRun := 0, history := [] } ∧
     t.sampling.watch = .armed ∧
     t.drivers = { inlet := .function, vent := .function, tap := .function, glycol := .function, heater := .function } ∧
     t.link = { queue := [], dropCount := 0, txDropped := false, silent := false, reportCount := 4, reportBegunNow := false,
                bus := .busy, rx := .empty, attempt := none } ∧
     t.view = { entries := List.replicate 15 { bay := none, draw := none, chiller := none }, chillers := [] } ∧
     t.seq = { bankA := List.replicate 12 none, bankB := List.replicate 12 none, active := .a, pendingSwitch := none,
               profile := .idle, index := 0, phase := none, count := 0 } ∧
     t.temp = { accumulator := 0, integral := 0, lastDemand := 0, clampSide := .unclamped, heaterDuty := 0,
                onTimer := none, limitInForce := false, windowFormed := false } ∧
     t.cool = { capacity := 100, demandUnits := 0, weight := 1, throttle := 0, lastGrant := 0, openTime := 0,
                openTimer := none } ∧
     t.gas = { setpoint := 50, ceiling := 2500, limitedLow := false, limitedHigh := false, state := .sensorVent, pulseTimer := none,
               settleTimer := none, openBucket := 0, buckets := [], leak := .off } ∧
     t.draw.state = .locked ∧ t.draw.limit = 2 ∧ t.draw.need = false ∧ t.draw.urgency = .routine ∧
     t.draw.supplyWeak = false ∧
     t.draw.causes = { leak := false, sensor := true, keg := false, silent := false, gasMode := false } ∧
     t.disp = { state := .idle, pulses := 0, pour := none, stallTimer := none, lowTimer := none, tailTimer := none,
                deferred := false, portion := none, portionTimer := none, level := 0, log := [], wrapped := false,
                nextNumber := 1 }) ∧
  (∀ s : State, s.pending = [] → exec (.powerOn Config.resetStraps) s = .next State.reset)

/-- RSTN_HELD_LOW holds the part: power-on values, every output pin low, the station number and the heater reading as read;
and a part so held takes no other command, POWER_ON apart (R3, R18, R56); what the model keeps meanwhile is its choice
(notes/assumptions/21.md). -/
def Obligations.RstnHoldsThePart : Prop :=
  (∀ s : State, exec .rstnHeldLow s =
    .next { powerOnValues Config.resetStraps with pending := s.pending, ident := s.ident, held := true }) ∧
  (∀ s : State, s.held = true →
    inletPin s = false ∧ ventPin s = false ∧ tapPin s = false ∧ glycolPin s = false ∧ heaterPin s = false) ∧
  ∀ (c : Instr) (s : State), s.held = true → (∀ p, c ≠ .powerOn p) → c ≠ .rstnHeldLow → exec c s = .next s

/-- RESTART addressed to the own station keeps what R65 lists and resets what R66 lists, whatever the station state; the
straps are not read again. WATCH and EXT_STOP are raised again at the RESTART itself where their causes are still there
(R67), ahead of the RESULT, of which SILENT lets none out (R65); WATCH goes first, the model's choice
(notes/assumptions/12.md). The relief ceiling and the draw limit in force are the stored ones, the model's inference
(notes/assumptions/34.md). The record of a pour in progress is added to the log (R181) under its own number, which the model
infers (notes/assumptions/18.md). -/
def Obligations.RestartKeepsAndResets : Prop :=
  ∀ (h : Header) (tag : Byte) (s : State), Accepts h s → h.dest = .station s.ident.number →
    let trips : Bool := s.sampling.levelsTaken && watchMismatch s
    let stops : Bool := s.sampling.ext.active
    ∃ t, exec (.restart h tag []) s = .next t ∧
      (t.ident = s.ident ∧ t.setup = s.setup ∧ t.time = s.time ∧ t.seq.bankA = s.seq.bankA ∧
        t.seq.bankB = s.seq.bankB ∧ t.seq.active = s.seq.active ∧ t.sampling.handle = s.sampling.handle ∧
        t.sampling.keg = s.sampling.keg ∧ t.sampling.lid = s.sampling.lid ∧ t.sampling.drip = s.sampling.drip ∧
        t.sampling.ext = s.sampling.ext ∧ t.disp.nextNumber = s.disp.nextNumber) ∧
      (s.disp.pour = none → t.disp.level = s.disp.level ∧ t.disp.log = s.disp.log ∧ t.disp.wrapped = s.disp.wrapped) ∧
      (∀ p, s.disp.pour = some p →
        t.disp.level = s.disp.level - volumeNow s ∧
        t.disp.log = (s.disp.joinLog (pourRecord p (volumeNow s) .stopped)).log) ∧
      (t.sup.station = .setup ∧ t.sup.quiet = false ∧ t.sup.idleCount = 0 ∧ t.sup.leaveSafeRefused = false ∧
        t.view = {} ∧ t.drivers = {} ∧
        t.link.silent = false ∧ t.link.dropCount = 0 ∧ t.link.txDropped = false ∧ t.link.attempt = none ∧
        t.link.rx = .empty ∧ t.sampling.beer = {} ∧ t.sampling.jacket = {} ∧ t.sampling.transducer = {} ∧
        t.sampling.watch = (if trips then .tripped else .armed) ∧
        t.seq.profile = .idle ∧ t.seq.index = 0 ∧ t.seq.pendingSwitch = none ∧ t.seq.phase = none ∧ t.seq.count = 0 ∧
        t.temp = {} ∧ t.cool.throttle = 0 ∧ t.cool.lastGrant = 0 ∧ t.cool.openTimer = none ∧
        t.gas = { setpoint := 50, ceiling := s.setup.reliefCeiling, limitedLow := false, limitedHigh := false,
                  state := .sensorVent, pulseTimer := none, settleTimer := none, openBucket := 0, buckets := [],
                  leak := .off } ∧
        t.draw.limit = s.setup.drawLimit ∧
        t.draw.state = .locked ∧ t.draw.need = false ∧ t.draw.urgency = .routine ∧ t.draw.supplyWeak = false ∧
        t.draw.settleWindow = none ∧ t.draw.keepTimer = none ∧ t.draw.backoffTimer = none ∧ t.draw.rise = [] ∧
        t.draw.causes = { leak := false, sensor := true, keg := s.sampling.levelsTaken && !s.sampling.keg.active,
                          silent := false, gasMode := false } ∧
        t.disp.state = .idle ∧ t.disp.pulses = 0 ∧ t.disp.pour = none ∧ t.disp.deferred = false ∧
        t.disp.portion = none ∧ t.disp.portionTimer = none ∧ t.disp.stallDelay = none ∧ t.disp.stallTimer = none ∧
        t.disp.lowTimer = none ∧ t.disp.tailTimer = none) ∧
      (∀ a : Alarm,
        hasAlarm t.sup.active a = (decide (a = .watch) && trips || decide (a = .extStop) && stops) ∧
        hasAlarm t.sup.latched a =
          (hasAlarm t.sup.active a || decide (a = .duplicate) && hasAlarm s.sup.latched .duplicate)) ∧
      t.link.queue.map (·.frame) =
        (if trips then [.alarm .watch true (lineLevels s.sampling)] else []) ++
        (if stops then [.alarm .extStop true 0#4] else []) ++
        (if s.link.silent then [] else [.result h.src 0x03#8 tag .done []]) ++
        (if trips || stops then [.bayState] else []) ∧
      t.link.reportCount = if trips || stops then 0 else 4

/-- The invariants hold right after reset. -/
def Obligations.InvariantsHoldAtReset : Prop :=
  LinkOk State.reset.link ∧ SetupOk State.reset.setup ∧ GasOk State.reset.setup State.reset.gas ∧
    SeqOk State.reset.seq ∧ TempOk State.reset.temp ∧ CoolOk State.reset.cool ∧ DrawOk State.reset.draw ∧
    TimeOk State.reset.time ∧ NeedInv State.reset ∧ LockInv State.reset ∧ VentInv State.reset ∧ KegInv State.reset ∧
    FlowInv State.reset ∧
    DriveInv State.reset ∧ AlarmInv State.reset ∧ ViewInv State.reset ∧ PendingOk State.reset

/-! ### Invariants that every step keeps -/

/-- The transmit queue stays in queue order with at most 6 frames, one of them in flight exactly during an attempt, none
with four failed attempts, and empty in SILENT; the receive buffer fills exactly during a reception; the drop count stays
at most 3 (R24, R26 to R28, R32, R40). -/
def Obligations.TransmitQueueKept : Prop :=
  ∀ s t : State, step s = .next t → LinkOk s.link → LinkOk t.link

/-- Every setup item stays within its range (R58 to R60), and the gas setpoint between 50 hPa and the relief ceiling less
200 hPa (R127, R128); the activity ring keeps its bounds (R140, R141). -/
def Obligations.SetupAndSetpointKept : Prop :=
  ∀ s t : State, step s = .next t → SetupOk s.setup ∧ GasOk s.setup s.gas → SetupOk t.setup ∧ GasOk t.setup t.gas

/-- The banks keep 12 slots of legal records, a profile out of IDLE has a current step and a phase (R69, R70, R73), the
setpoint accumulator stays within the step targets (R93) and the integral within 0 to 25600 (R99). -/
def Obligations.ProfileAndSetpointKept : Prop :=
  ∀ s t : State, step s = .next t → SeqOk s.seq ∧ TempOk s.temp → SeqOk t.seq ∧ TempOk t.temp

/-- The grant stays within the capacity in use, the throttle within 0 to 3, the open time within 60 s (R117, R119); the
setup items are in range, as the duty's division asks. -/
def Obligations.CoolingGrantKept : Prop :=
  ∀ s t : State, step s = .next t → SetupOk s.setup → CoolOk s.cool → CoolOk t.cool

/-- The coordinator's timers, counts and need fit its draw state (R146, R149 to R157). -/
def Obligations.DrawStateKept : Prop := ∀ s t : State, step s = .next t → DrawOk s.draw → DrawOk t.draw

/-- The need is present exactly in TOPPING or with INLET forced on (R146). -/
def Obligations.NeedKept : Prop := ∀ s t : State, step s = .next t → NeedInv s → NeedInv t

/-- The lockout causes are those whose conditions hold, but for a change of KEG_PRESENT still to be delivered (R15), and the
coordinator is LOCKED exactly while there is one (R160, R161). The conditions of the five causes, as R160's table gives
them: LEAK latched, the transducer not GOOD, KEG_PRESENT inactive (from the first 10 ms event on), SILENT set, and in RUN a
gas mode of OPEN or SPUND. -/
def Obligations.LockoutKept : Prop :=
  (∀ s t : State, step s = .next t → LockInv s → LockInv t) ∧
  ∀ s : State, LockInv s → s.held = false → s.sampling.keg.undelivered = false →
    let leak := hasAlarm s.sup.latched .leak = true
    let sensor := s.sampling.transducer.state ≠ .good
    let keg := s.sampling.levelsTaken = true ∧ s.sampling.keg.active = false
    let silent := s.link.silent = true
    let gasMode := s.sup.station = .run ∧
      ∃ r, s.seq.profile ≠ .idle ∧ s.seq.slot s.seq.active s.seq.index = some r ∧
        (r.gas = .openKeg ∨ ∃ v, r.gas = .spund v)
    (s.draw.causes.leak = true ↔ leak) ∧ (s.draw.causes.sensor = true ↔ sensor) ∧
      (s.draw.causes.keg = true ↔ keg) ∧ (s.draw.causes.silent = true ↔ silent) ∧
      (s.draw.causes.gasMode = true ↔ gasMode) ∧
      (s.draw.state = .locked ↔ leak ∨ sensor ∨ keg ∨ silent ∨ gasMode)

/-- The gas regulator stands in SENSOR_VENT exactly while the transducer is not GOOD (R130, R137). -/
def Obligations.SensorVentKept : Prop := ∀ s t : State, step s = .next t → VentInv s → VentInv t

/-- The keg level stays within 0 to 20000 mL, and the pour log holds at most 32 records, each numbered one more than the
record before it (R176, R177). -/
def Obligations.KegLevelAndLogKept : Prop := ∀ s t : State, step s = .next t → KegInv s → KegInv t

/-- FLOWING exists only while the bay serves (R164), TAP is never forced on and outside SETUP nothing is forced (R21, R63,
R66): so TAP is open only while the bay serves. A keg removal ends the pour at its delivery (R15), on the 10 ms event that
took the level. -/
def Obligations.PourOnlyWhileServing : Prop :=
  (∀ s t : State, step s = .next t → FlowInv s ∧ DriveInv s → FlowInv t ∧ DriveInv t) ∧
  ∀ s : State, FlowInv s → DriveInv s → tapPin s = true →
    s.disp.state = .flowing ∧ ServingApartFromKeg s ∧
      (s.sampling.keg.undelivered = false → s.sampling.keg.active = true)

/-- The peer view keeps 15 entries, the own one empty, with parts that frames can give, and names its chillers, the one
refreshed most recently first (R42, R47, R51): by the lifetimes they have left; and the commands that wait can reach the
part. -/
def Obligations.PeerViewKept : Prop :=
  ∀ s t : State, step s = .next t → ViewInv s ∧ PendingOk s → ViewInv t ∧ PendingOk t

/-- Every active alarm is latched, and is active exactly while its cause is there (R187, R188), but for a change of EXT_STOP
still to be delivered (R15) and the second closing of R193. -/
def Obligations.AlarmSetsKept : Prop := ∀ s t : State, step s = .next t → AlarmInv s → AlarmInv t

/-! ### Octets -/

/-- The octets of a legal step record, read back by the fields of R201 and the checks of R71, are that record with no
clamp counted, and an EMPTY slot's octets are EMPTY: READ_STEP's data can be written back. -/
def Obligations.StepRecordRoundTrip : Prop :=
  (rawStep (stepOctets none)).map RawStep.argument = some .empty ∧
  ∀ r : StepRecord, r.Legal → (rawStep (stepOctets (some r))).map RawStep.argument = some (.record r false)

/-- The octets of every frame the station sends have the length and the CRC of R23, and a receiver splits them into the
class's number and priority, the station's own number, the destination and the length of the class table (R197), with the
payload: what R40 finds of a twin. Another station that accepts them routes each class to its row (R34); an ALARM and a
RESULT it discards (R34, R198). -/
def Obligations.OwnFrameIsGood : Prop :=
  (∀ (f : Frame) (s : State), s.ident.number ≤ 15 → Dest.number f.dest ≤ 15 → (f.payload s).length ≤ 16 →
     (frameOctets s f).length = 5 + (f.payload s).length ∧
     readFrame (frameOctets s f) =
       .good { priority := f.frameClass.priority, cls := f.frameClass.number, src := s.ident.number,
               destNumber := Dest.number f.dest, destKind := Dest.kind f.dest, length := (f.payload s).length } (f.payload s)) ∧
  (∀ k : FrameClass, classOf k.number = some k) ∧ (∀ n, n = 0 ∨ 9 ≤ n → classOf n = none) ∧
  (∀ d : Dest, destOf (Dest.kind d) (Dest.number d) = some d) ∧ (∀ n, destOf 3 n = none) ∧
  ∀ s r : State, 1 ≤ s.ident.number → s.ident.number ≤ 8 → s.ident.number ≠ r.ident.number →
    let n := s.ident.number
    judge (frameOctets s .bayState) r = .routed (.receiveBayState ⟨n, .all⟩ (bayStatePayload s)) ∧
    (∀ k u w, judge (frameOctets s (.draw k u w)) r = .routed (.receiveDraw ⟨n, .all⟩ ((Frame.draw k u w).payload s))) ∧
    (∀ m, judge (frameOctets s (.pourStart m)) r = .routed (.receivePour ⟨n, .all⟩ ((Frame.pourStart m).payload s))) ∧
    (∀ m v o, judge (frameOctets s (.pourEnd m v o)) r =
      .routed (.receivePour ⟨n, .all⟩ ((Frame.pourEnd m v o).payload s))) ∧
    (∀ g, g ≤ 15 → judge (frameOctets s (.groupSync g)) r =
      if inGroupSet r g then .routed (.receiveGroupSync ⟨n, .group g⟩ []) else .discarded) ∧
    (∀ a raised lines, judge (frameOctets s (.alarm a raised lines)) r = .discarded) ∧
    (∀ dest code tag outcome data, dest ≤ 15 → data.length ≤ 13 →
      judge (frameOctets s (.result dest code tag outcome data)) r = .discarded)

/-! ### Outputs -/

/-- INLET and VENT are never open together, nor GLYCOL and HEATER on together: VENT and GLYCOL have precedence (R19). In
RELIEF and SENSOR_VENT VENT is open whatever its drive state, in SAFE the four others are off, and HEATER is off without
a heater, without a GOOD jacket probe and under the jacket limit (R20).
But for these holds, and RSTN (R3), each output is on exactly where it is forced on, or in FUNCTION with its block's request
(R18): INLET with TOPPING, and forced or not only in DRAWING (R22), VENT with PULSE or VENT_OPEN, TAP with FLOWING, GLYCOL
and HEATER with the window's request (R120, R102). -/
def Obligations.OutputInterlocks : Prop :=
  ∀ s : State,
    (ventPin s = true → inletPin s = false) ∧ (glycolPin s = true → heaterPin s = false) ∧
    (s.held = false → safetyVent s = true → ventPin s = true) ∧
    (s.sup.station = .safe → inletPin s = false ∧ tapPin s = false ∧ glycolPin s = false ∧ heaterPin s = false) ∧
    (s.ident.heaterFitted = false ∨ s.sampling.jacket.state ≠ .good ∨ s.temp.limitInForce = true →
      heaterPin s = false) ∧
    (let on (d : Drive) (request : Prop) : Prop := d = .forcedOn ∨ (d = .function ∧ request)
     s.held = false →
     (ventPin s = true ↔
       (s.gas.state = .relief ∨ s.gas.state = .sensorVent) ∨
         on s.drivers.vent (s.gas.state = .pulse ∨ s.gas.state = .ventOpen)) ∧
     (s.sup.station ≠ .safe →
       (inletPin s = true ↔
         ventPin s = false ∧ s.draw.state = .drawing ∧ on s.drivers.inlet (s.gas.state = .topping)) ∧
       (tapPin s = true ↔ on s.drivers.tap (s.disp.state = .flowing)) ∧
       (glycolPin s = true ↔ on s.drivers.glycol (s.cool.openTimer ≠ none)) ∧
       (heaterPin s = true ↔
         glycolPin s = false ∧ s.ident.heaterFitted = true ∧ s.sampling.jacket.state = .good ∧
           s.temp.limitInForce = false ∧ on s.drivers.heater (s.temp.onTimer ≠ none))))

/-! ### Samples -/

/-- A probe moves by the table of R7, with the filter of R8 in GOOD.
The transducer moves by the table of R11, and its history holds the newest valid samples, at most four, newest first,
their mean truncated toward zero being the held pressure (R12). -/
def Obligations.SensorTables : Prop :=
  (∀ (t : Int) (k : Nat) (p : Probe),
     (-160 ≤ t → t ≤ 960 →
       (p.sample t k).rejectRun = 0 ∧ (p.sample t k).validRun = min 10 (p.validRun + 1) ∧
       (p.state = .unseen → (p.sample t k).state = .good ∧ (p.sample t k).filtered = some t) ∧
       (∀ f, p.state = .good → p.filtered = some f →
         (p.sample t k).state = .good ∧ (p.sample t k).filtered = some (f + (t - f).tdiv (2 ^ k))) ∧
       (p.state = .fault → p.validRun + 1 < 10 →
         (p.sample t k).state = .fault ∧ (p.sample t k).filtered = p.filtered) ∧
       (p.state = .fault → 10 ≤ p.validRun + 1 →
         (p.sample t k).state = .good ∧ (p.sample t k).filtered = some t)) ∧
     (t < -160 ∨ 960 < t →
       (p.sample t k).validRun = 0 ∧ (p.sample t k).rejectRun = min 5 (p.rejectRun + 1) ∧
       (p.sample t k).filtered = p.filtered ∧
       (p.rejectRun + 1 < 5 → (p.sample t k).state = p.state) ∧
       (5 ≤ p.rejectRun + 1 → (p.sample t k).state = .fault))) ∧
  (∀ (p fs : Int) (x : Transducer),
     (-300 ≤ p → p ≤ fs + 100 →
       (x.sample p fs).history = (p :: x.history).take 4 ∧ (x.sample p fs).rejectRun = 0 ∧
       (x.sample p fs).validRun = min 10 (x.validRun + 1) ∧
       heldPressure (x.sample p fs) =
         some (((p :: x.history).take 4).sum.tdiv ((p :: x.history).take 4).length) ∧
       (x.state ≠ .fault → (x.sample p fs).state = .good) ∧
       (x.state = .fault → (x.sample p fs).state = if 10 ≤ x.validRun + 1 then .good else .fault)) ∧
     (p < -300 ∨ fs + 100 < p →
       (x.sample p fs).history = x.history ∧ (x.sample p fs).validRun = 0 ∧
       (x.sample p fs).rejectRun = min 3 (x.rejectRun + 1) ∧ heldPressure (x.sample p fs) = heldPressure x ∧
       (x.sample p fs).state = if 3 ≤ x.rejectRun + 1 then .fault else x.state))

/-- The filter moves toward the sample without passing it, stands still exactly within 2^k - 1 of it, and equals it for
k = 0 (R8). -/
def Obligations.FilterApproachesTheSample : Prop :=
  ∀ (f t : Int) (k : Nat),
    (f ≤ t → f ≤ filterStep f t k ∧ filterStep f t k ≤ t) ∧ (t ≤ f → t ≤ filterStep f t k ∧ filterStep f t k ≤ f) ∧
    (filterStep f t k = f ↔ (t - f).natAbs < 2 ^ k) ∧ filterStep f t 0 = t

/-- A run of as many readings as the input needs, begun with the count at 0, changes the debounced level exactly when every
one of them differs from it: the last takes the new level, returns the count to 0 and hands the change on (R13); any other
run leaves the level as it is. -/
def Obligations.DebounceNeedsEveryReading : Prop :=
  ∀ (w : Switch) (needed : Nat) (rs : List Bool), 0 < needed → w.change = 0 → w.undelivered = false →
    rs.length = needed →
    let after := rs.foldl (fun w r => w.read needed r) w
    ((∀ r ∈ rs, r ≠ w.active) → after = { active := !w.active, change := 0, undelivered := true }) ∧
    ((∃ r ∈ rs, r = w.active) → after.active = w.active ∧ after.undelivered = false)

/-! ### Timing events -/

/-- A 10 ms event after the first: the divider chain advances (R3), each switch pin is read (R13), each running duration
counts it (R5), each lifetime of the peer view counts it (R50), and nothing else changes but the leak check, which follows
its conditions, and the model's marks of what was begun on the event before (notes/assumptions/13.md).
The first 10 ms event takes the levels directly, with every change count 0; the watch is first evaluated, the KEG cause
formed, and EXT_STOP raised if it is active, with no entry to SAFE (R13, R16, R68, R163); that they wait for that event is
the model's choice (notes/assumptions/2.md).
The coarser events fall on every 10th, 100th, 6000th and 360000th 10 ms event (R3): one that the chain has not produced has
no effect; and the next 10 ms event does not come before the coarser events of the last one, the changes that it
completed and the ends of the durations whose last event it was (R5) are taken, the model's choice
(notes/assumptions/6.md): so no duration outlasts its last event. -/
def Obligations.TenMsEvent : Prop :=
  (∀ (pins : SwitchPins) (s : State), s.held = false → eventUnderWay s = false → s.sampling.levelsTaken = true →
     exec (.event10ms pins) s = .next (updateLeak { s with
       time := s.time.advance,
       sampling := { s.sampling with
         handle := s.sampling.handle.read 3 (pins.handle = .low),
         keg := s.sampling.keg.read 100 (pins.kegPresent = .low),
         lid := s.sampling.lid.read 20 (pins.lidClosed = .low),
         drip := s.sampling.drip.read 20 (pins.dripFull = .low),
         ext := s.sampling.ext.read 20 (pins.extStop = .low) },
       link := { s.link with reportBegunNow := false },
       temp := { s.temp with onTimer := s.temp.onTimer.map (· - 1) },
       cool := { s.cool with openTimer := s.cool.openTimer.map (· - 1) },
       gas := { s.gas with pulseTimer := s.gas.pulseTimer.map (· - 1), settleTimer := s.gas.settleTimer.map (· - 1),
                           bucketBegunNow := false },
       draw := { s.draw with
         settleWindow := s.draw.settleWindow.map (· - 1), keepTimer := s.draw.keepTimer.map (· - 1),
         backoffTimer := s.draw.backoffTimer.map (· - 1),
         backoffElapsed := if s.draw.state = .backoff then s.draw.backoffElapsed + 1 else s.draw.backoffElapsed },
       disp := { s.disp with
         stallDelay := s.disp.stallDelay.map (· - 1), stallTimer := s.disp.stallTimer.map (· - 1),
         lowTimer := s.disp.lowTimer.map (· - 1), tailTimer := s.disp.tailTimer.map (· - 1),
         portionTimer := s.disp.portionTimer.map (· - 1),
         pour := s.disp.pour.map fun p => { p with elapsed := p.elapsed + 1 } },
       view := { s.view with entries := s.view.entries.map fun e => { e with
         bay := e.bay.map fun p => { p with left := p.left - 1 },
         draw := e.draw.map fun p => { p with left := p.left - 1 },
         chiller := e.chiller.map fun p => { p with left := p.left - 1 } } } })) ∧
  (∀ (pins : SwitchPins) (s : State), s.held = false → eventUnderWay s = false → s.sampling.levelsTaken = false →
     ∃ t, exec (.event10ms pins) s = .next t ∧ t.time = s.time.advance ∧ t.sampling.levelsTaken = true ∧
       t.sampling.handle = { active := decide (pins.handle = .low), change := 0 } ∧
       t.sampling.keg = { active := decide (pins.kegPresent = .low), change := 0 } ∧
       t.sampling.lid = { active := decide (pins.lidClosed = .low), change := 0 } ∧
       t.sampling.drip = { active := decide (pins.dripFull = .low), change := 0 } ∧
       t.sampling.ext = { active := decide (pins.extStop = .low), change := 0 } ∧
       (t.sampling.watch = .tripped ↔ watchMismatch t = true) ∧ t.draw.causes.keg = decide (pins.kegPresent = .high) ∧
       (pins.extStop = .low → hasAlarm t.sup.active .extStop = true) ∧
       (pins.kegPresent = .high → t.draw.state = .locked) ∧
       t.sup.station = s.sup.station ∧ t.setup = s.setup ∧ t.seq = s.seq ∧ t.drivers = s.drivers ∧
       t.sampling.beer = s.sampling.beer ∧ t.sampling.jacket = s.sampling.jacket ∧
       t.sampling.transducer = s.sampling.transducer ∧ t.disp.level = s.disp.level ∧ t.disp.log = s.disp.log) ∧
  (∀ t : TimeBase, t.tens < 10 → t.hundreds < 10 → t.seconds < 60 → t.minutes < 60 →
     t.advance.phase = (t.phase + 1) % 360000 ∧ (t.advance.due100ms = true ↔ (t.phase + 1) % 10 = 0) ∧
     (t.advance.due1s = true ↔ (t.phase + 1) % 100 = 0) ∧ (t.advance.due1min = true ↔ (t.phase + 1) % 6000 = 0) ∧
     (t.advance.due1h = true ↔ (t.phase + 1) % 360000 = 0) ∧ t.advance.uptime = t.uptime) ∧
  (∀ s : State, eventUnderWay s = true ↔
     (s.time.due100ms = true ∨ s.time.due1s = true ∨ s.time.due1min = true ∨ s.time.due1h = true) ∨
     (s.sampling.handle.undelivered = true ∨ s.sampling.keg.undelivered = true ∨ s.sampling.lid.undelivered = true ∨
       s.sampling.drip.undelivered = true ∨ s.sampling.ext.undelivered = true) ∨
     s.temp.onTimer = some 0 ∨ s.cool.openTimer = some 0 ∨
     (s.gas.state = .pulse ∧ s.gas.pulseTimer = some 0) ∨ (s.gas.state = .settle ∧ s.gas.settleTimer = some 0) ∨
     (s.draw.state = .claiming ∧ s.draw.settleWindow = some 0) ∨
     (s.draw.state = .drawing ∧ s.draw.keepTimer = some 0) ∨
     ((s.draw.state = .backoff ∨ s.draw.state = .recover) ∧ s.draw.backoffTimer = some 0) ∨
     (s.disp.state = .flowing ∧
       (s.disp.stallDelay = some 0 ∨ s.disp.stallTimer = some 0 ∨ s.disp.lowTimer = some 0)) ∨
     (s.disp.state = .tailing ∧ s.disp.tailTimer = some 0) ∨ s.disp.portionTimer = some 0 ∨
     (s.link.silent = false ∧ (if s.sup.quiet then 30 else 5) ≤ s.link.reportCount) ∨
     (s.sup.station = .run ∧ s.sup.quiet = false ∧ 0 < s.setup.idlePeriod ∧ s.setup.idlePeriod ≤ s.sup.idleCount) ∨
     (∃ r, s.seq.current = some r ∧ s.seq.profile ≠ .paused ∧ s.seq.phase = some .soaking ∧
       s.seq.count = r.duration * 60) ∨
     ∃ e ∈ s.view.entries, (∃ p, e.bay = some p ∧ p.left = 0) ∨ (∃ p, e.draw = some p ∧ p.left = 0) ∨
       ∃ p, e.chiller = some p ∧ p.left = 0) ∧
  (∀ s : State, s.held = false →
     (eventUnderWay s = true → ∀ pins, exec (.event10ms pins) s = .next (updateLeak s)) ∧
     (s.time.due100ms = false → ∀ raw b, exec (.event100ms raw b) s = .next (updateLeak s)) ∧
     (s.time.due1s = false → ∀ beer jacket, exec (.event1s beer jacket) s = .next (updateLeak s)) ∧
     (s.time.due1min = false → ∀ b, exec (.event1min b) s = .next (updateLeak s)) ∧
     (s.time.due1h = false → exec .event1h s = .next (updateLeak s)))

/-- A 100 ms event brings the stored relief ceiling in force (R61), and converts and judges the transducer (R10, R11); a transducer not GOOD leaves SENSOR_VENT and LOCKED
(R137, R160), and a held pressure above the relief ceiling RELIEF, each with VENT open (R136, R20). RELIEF goes on, with
VENT open, while the pressure is above the ceiling less 100, and at or below it OVERPRESSURE's cause ends (R136). In OPEN,
outside SAFE, VENT_OPEN (R130, R135).
The urgency is PRIORITY exactly in RUN, in SERVE, with a pour FLOWING or the held pressure strictly below the serve floor
(R147).
From REST with the regulation enabled and the pressure within the ceiling: PULSE above setpoint plus effective band, counted
in the open bucket (R134), TOPPING with its need below setpoint less band where the mode tops (R133), else REST (R132); a
TOPPING goes on below the setpoint and ends in REST from it on (R133).
A coordinator in WAITING whose need goes on, with no lockout cause, is examined on the event with the urgency then formed
(R148, R53): without the permission, which CoordinatorTimerEnds spells out, it goes on waiting, with it and room in the
queue a claim is made (R149).
A transducer that enters or leaves FAULT raises PRESSURE_SENSOR or ends its cause (R11), the entry to RELIEF raises
OVERPRESSURE and the exit ends its cause (R136), each with its ALARM queued (R188, R189).
A draw that goes on as TOPPING does has its supply tested (R157): weak, with 21 pressures in the rise record and a rise
below 10, sets the flag, raises SUPPLY_WEAK and leads to RECOVER; a sound rise under PRIORITY clears it. In FLOWING the
low-pressure timer starts below serve floor less 100 and stops at or above it (R171). -/
def Obligations.HundredMsEvent : Prop :=
  ∀ (raw : Nat) (coordinatorFirst : Bool) (s : State), s.held = false → s.time.due100ms = true →
    ∃ t, exec (.event100ms raw coordinatorFirst) s = .next t ∧
      t.sampling = { s.sampling with
        transducer :=
          s.sampling.transducer.sample (((raw : Int) * (s.setup.fullScale + 500)).tdiv 4096 - 500) s.setup.fullScale } ∧
      t.gas.ceiling = s.setup.reliefCeiling ∧
      (t.sampling.transducer.state ≠ .good → t.gas.state = .sensorVent ∧ ventPin t = true ∧ t.draw.state = .locked) ∧
      (∀ p, t.sampling.transducer.state = .good → heldPressure t.sampling.transducer = some p →
        (s.setup.reliefCeiling < p → t.gas.state = .relief ∧ ventPin t = true) ∧
        (s.gas.state = .relief → s.setup.reliefCeiling - 100 < p → t.gas.state = .relief ∧ ventPin t = true) ∧
        (s.gas.state = .relief → p ≤ s.setup.reliefCeiling - 100 →
          t.gas.state ≠ .relief ∧ hasAlarm t.sup.active .overpressure = false) ∧
        (handedMode s = some .openKeg → s.sup.station ≠ .safe → p ≤ s.setup.reliefCeiling →
          s.gas.state ≠ .relief ∨ p ≤ s.setup.reliefCeiling - 100 →
          t.gas.state = .ventOpen ∧ ventPin t = s.drivers.vent.apply true)) ∧
      (∀ p, heldPressure t.sampling.transducer = some p →
        (t.draw.urgency = .priority ↔
          s.sup.station = .run ∧ handedMode s = some .serve ∧ (t.disp.state = .flowing ∨ p < s.setup.serveFloor))) ∧
      (∀ (m : GasMode) (p : Int), t.sampling.transducer.state = .good →
        heldPressure t.sampling.transducer = some p → p ≤ s.setup.reliefCeiling → enabledMode s = some m →
        let band := if s.sup.quiet then 2 * s.setup.band else s.setup.band
        (s.gas.state = .rest → s.draw.state ≠ .drawing →
          (s.gas.setpoint + band < p →
            t.gas.state = .pulse ∧ t.gas.pulseTimer = some 25 ∧ t.gas.openBucket = min 255 (s.gas.openBucket + 1)) ∧
          (p ≤ s.gas.setpoint + band → p < s.gas.setpoint - band → m ≠ .spund →
            t.gas.state = .topping ∧ t.draw.need = true ∧ t.gas.openBucket = s.gas.openBucket) ∧
          (p ≤ s.gas.setpoint + band → s.gas.setpoint - band ≤ p ∨ m = .spund →
            t.gas.state = .rest ∧ t.gas.openBucket = s.gas.openBucket)) ∧
        (s.gas.state = .topping → m ≠ .spund →
          (p < s.gas.setpoint → t.gas.state = .topping ∧ t.draw.need = s.draw.need) ∧
          (0 ≤ s.setup.band → s.gas.setpoint ≤ p → p ≤ s.gas.setpoint + s.setup.band →
            t.gas.state = .rest ∧ t.draw.need = false) ∧
          (p < s.gas.setpoint → s.draw.state = .drawing → t.draw.causes.any = false →
            let record := (p :: s.draw.rise).take 21
            let rise := p - record.getLast?.getD p
            (record.length = 21 → rise < 10 →
              t.draw.state = .recover ∧ t.draw.backoffTimer = some 100 ∧ t.draw.supplyWeak = true ∧
              hasAlarm t.sup.active .supplyWeak = true ∧ Raised .supplyWeak s t) ∧
            (record.length < 21 ∨ 10 ≤ rise →
              t.draw.state = .drawing ∧ t.draw.rise = record ∧ t.draw.keepTimer = s.draw.keepTimer ∧
              t.draw.supplyWeak =
                (s.draw.supplyWeak && !(decide (t.draw.urgency = .priority) && decide (10 ≤ rise))))))) ∧
      (∀ p, s.disp.state = .flowing → t.sampling.transducer.state = .good →
        heldPressure t.sampling.transducer = some p →
        t.disp = { s.disp with lowTimer :=
          if p < s.setup.serveFloor - 100 then some (s.disp.lowTimer.getD 300) else none }) ∧
      (∀ p, heldPressure t.sampling.transducer = some p → t.sampling.transducer.state = .good →
        s.draw.state = .waiting → s.draw.need = true → s.draw.causes.any = false → (formCauses s).any = false →
        p ≤ s.setup.reliefCeiling → s.gas.state ≠ .relief →
        (s.gas.state = .topping ∧ p < s.gas.setpoint ∧ (enabledMode s = some .carbonate ∨ enabledMode s = some .serve)) ∨
          (s.gas.state ≠ .topping ∧ s.drivers.inlet = .forcedOn) →
        let s' := { s with draw := { s.draw with urgency := t.draw.urgency } }
        (mayClaim s' = false →
          t.draw = { s.draw with urgency := t.draw.urgency, limit := s.setup.drawLimit, causes := t.draw.causes }) ∧
        (mayClaim s' = true → s.link.silent = false → s.link.queue.length < 6 →
          t.draw.state = .claiming ∧ t.draw.claimUrgency = t.draw.urgency ∧ t.draw.limit = s.setup.drawLimit ∧
          ∃ q ∈ t.link.queue, q.frame = .draw .claim t.draw.urgency s.draw.supplyWeak ∧ q.liveClaim = true)) ∧
      (s.sampling.transducer.state ≠ .fault → t.sampling.transducer.state = .fault → Raised .pressureSensor s t) ∧
      (s.sampling.transducer.state = .fault → t.sampling.transducer.state ≠ .fault → Ended .pressureSensor s t) ∧
      (s.gas.state ≠ .relief → t.gas.state = .relief → Raised .overpressure s t) ∧
      (s.gas.state = .relief → t.gas.state ≠ .relief → Ended .overpressure s t) ∧
      t.time = { s.time with due100ms := false } ∧
      t.setup = s.setup ∧ t.view = s.view ∧ t.seq = s.seq ∧ t.temp = s.temp ∧ t.cool = s.cool ∧
      t.disp.level = s.disp.level ∧ t.disp.log = s.disp.log ∧ t.disp.portion = s.disp.portion ∧
      t.sup.station = s.sup.station

/-- A 1 s event samples both probes (R6, R7); the jacket limit is tested on a new filtered jacket temperature (R103); a
beer probe that goes from GOOD to FAULT withdraws the window's outputs (R106) and ends a pour (R172). A probe that enters
or leaves FAULT raises its alarm or ends its cause (R7), and so does the jacket limit JACKET_HOT (R103), each with its ALARM
queued (R188, R189).
A leak window whose conditions stand is discarded, the check ARMED, by a valid beer sample with the filtered value more than
4 from its start temperature, and goes on otherwise (R142).
The report count gains one below the interval of 5 s, or 30 s while QUIET is set (R38). In SILENT it does not count
(R39). A change of the latched set or of QUIET on the event queues a BAY_STATE, which returns it to 0, and an event on which
a BAY_STATE has been queued is not counted, so that a full interval follows the queueing (R38; by the mark of
notes/assumptions/13.md). -/
def Obligations.OneSecondEvent : Prop :=
  ∀ (rawBeer rawJacket : Nat) (s : State), s.held = false → s.time.due1s = true →
    let beer := s.sampling.beer.sample ((rawBeer : Int) - 800 + s.setup.beerOffset) s.setup.filterShift
    let jacket := s.sampling.jacket.sample ((rawJacket : Int) - 800 + s.setup.jacketOffset) s.setup.filterShift
    ∃ t, exec (.event1s rawBeer rawJacket) s = .next t ∧
      t.sampling = { s.sampling with beer := beer, jacket := jacket } ∧
      (∀ f, jacket.state = .good → jacket.rejectRun = 0 → jacket.filtered = some f →
        t.temp.limitInForce =
          if s.temp.limitInForce then decide (s.setup.jacketMax - 16 < f) else decide (s.setup.jacketMax < f)) ∧
      (jacket.state ≠ .good ∨ jacket.rejectRun ≠ 0 → t.temp.limitInForce = s.temp.limitInForce) ∧
      (s.sampling.beer.state = .good → beer.state = .fault →
        t.temp.onTimer = none ∧ t.temp.lastDemand = 0 ∧ t.temp.clampSide = .unclamped ∧ t.cool.openTimer = none ∧
        t.cool.demandUnits = 0 ∧ t.disp.state ≠ .flowing) ∧
      (s.sampling.beer.state ≠ .fault → beer.state = .fault → Raised .beerProbe s t) ∧
      (s.sampling.beer.state = .fault → beer.state ≠ .fault → Ended .beerProbe s t) ∧
      (s.sampling.jacket.state ≠ .fault → jacket.state = .fault → Raised .jacketProbe s t) ∧
      (s.sampling.jacket.state = .fault → jacket.state ≠ .fault → Ended .jacketProbe s t) ∧
      (s.temp.limitInForce = false → t.temp.limitInForce = true → Raised .jacketHot s t) ∧
      (s.temp.limitInForce = true → t.temp.limitInForce = false → Ended .jacketHot s t) ∧
      (∀ p0 t0, s.gas.leak = .inWindow p0 t0 → ∀ f, beer.filtered = some f → leakConditions t = true →
        t.gas.leak = if beer.rejectRun = 0 ∧ 4 < (f - t0).natAbs then .armed else .inWindow p0 t0) ∧
      (s.gas.leak = .armed → leakConditions t = true → t.gas.leak = .armed) ∧
      t.link.silent = s.link.silent ∧
      (s.link.silent = true → t.link.reportCount = s.link.reportCount) ∧
      (s.link.silent = false → t.sup.latched = s.sup.latched → t.sup.quiet = s.sup.quiet →
        t.link.reportCount =
          if s.link.reportBegunNow = false ∧ s.link.reportCount < (if s.sup.quiet then 30 else 5) then
            s.link.reportCount + 1
          else s.link.reportCount) ∧
      (s.link.silent = false → t.sup.latched ≠ s.sup.latched ∨ t.sup.quiet ≠ s.sup.quiet → t.link.reportCount = 0) ∧
      t.time = { s.time with due1s := false } ∧ t.setup = s.setup ∧ t.view = s.view ∧
      t.seq = s.seq ∧ t.drivers = s.drivers ∧ t.temp.accumulator = s.temp.accumulator ∧
      t.temp.integral = s.temp.integral ∧ t.cool.lastGrant = s.cool.lastGrant ∧ t.disp.level = s.disp.level ∧
      t.disp.log = s.disp.log ∧ t.sup.station = s.sup.station

/-- Every 1 min event, in every station state, counts the uptime (R4) and forms the window's share: the capacity in use
(R114), the throttle (R117), the final grant (R118), which is the weighted share (R116), in SILENT capped at half the
fallback capacity, times 4 less the throttle, over 4; the open time (R119) and its request (R120); the grant is no greater
than the own demand units nor than the capacity in use.
It computes the gas setpoint (R128), which is then the one of the step current after the event; without a temperature, or
with no step started and no target handed, setpoint and flags stand.
It counts the idle timer where that runs: in RUN with QUIET clear, an idle period other than 0 and the pour state IDLE
(R184), up to the period; in every other state the count stands, during a pour too; and nothing else of the supervisor
changes. An event on which an alarm is raised or ended, as a step start's evaluation may do, is left out of this clause. -/
def Obligations.EveryMinuteFormsTheShare : Prop :=
  ∀ (sequencerFirst : Bool) (s : State), s.held = false → s.time.due1min = true →
    ∃ t, exec (.event1min sequencerFirst) s = .next t ∧
      t.time = { s.time with
        due1min := false, uptime := if s.time.uptime ≥ 4294967295 then 0 else s.time.uptime + 1 } ∧
      (s.link.silent = true ∨ s.view.chillerReading = none → t.cool.capacity = s.setup.fallbackCapacity) ∧
      (∀ c, s.link.silent = false → s.view.chillerReading = some c → t.cool.capacity = c.capacity) ∧
      (∀ c, s.view.chillerReading = some c → c.saturated = true → t.cool.throttle = min 3 (s.cool.throttle + 1)) ∧
      ((∀ c, s.view.chillerReading = some c → c.saturated = false) → t.cool.throttle = s.cool.throttle - 1) ∧
      (let share := weightedShare t.cool.demandUnits t.cool.weight (s.view.demands.map (·.2)) t.cool.capacity
       t.cool.lastGrant =
         (if s.link.silent then min share (s.setup.fallbackCapacity / 2) else share) * (4 - t.cool.throttle) / 4) ∧
      t.cool.lastGrant ≤ t.cool.demandUnits ∧ t.cool.lastGrant ≤ t.cool.capacity ∧
      t.cool.openTime = t.cool.lastGrant * 100 / s.setup.valveCapacity * 60 / 100 ∧
      t.cool.openTimer = (if t.cool.openTime = 0 then none else some (t.cool.openTime * 100)) ∧
      SetpointComputed t ∧
      (s.sampling.beer.filtered = none ∨ (t.seq = s.seq ∧ handedTarget s = none) → SetpointStands s t) ∧
      (t.sup.active = s.sup.active →
        let runs : Prop := s.sup.station = .run ∧ s.sup.quiet = false ∧ s.setup.idlePeriod ≠ 0 ∧ t.disp.state = .idle
        t.sup = { s.sup with idleCount :=
          if runs ∧ s.sup.idleCount < s.setup.idlePeriod then s.sup.idleCount + 1 else s.sup.idleCount }) ∧
      t.setup = s.setup ∧ t.sampling = s.sampling ∧ t.view = s.view ∧ t.disp.level = s.disp.level ∧
      t.disp.log = s.disp.log

/-- The weighted share of R116: the own demand when the total is within the capacity, else the weighted quotient, formed
exactly, truncated, and capped at the own demand. -/
def Obligations.WeightedShare : Prop :=
  ∀ (u0 w0 capacity : Nat) (peers : List (Nat × Nat)),
    (u0 + (peers.map (·.1)).sum ≤ capacity → weightedShare u0 w0 peers capacity = u0) ∧
    (capacity < u0 + (peers.map (·.1)).sum →
      weightedShare u0 w0 peers capacity =
        min u0 (capacity * u0 * w0 / (u0 * w0 + (peers.map fun p => p.1 * p.2).sum))) ∧
    weightedShare u0 w0 peers capacity ≤ u0 ∧ weightedShare u0 w0 peers capacity ≤ capacity

/-- An off window, here with the station not in RUN: demand 0, no heater request, the integral as it stands, no grant
(R97, R105, R113); the setpoint accumulator and the duration count do not move (R75, R95). The sequencer's part is taken
second.
A window that regulates, formed before the sequencer's part, with a beer temperature `f` and the step not advancing:
the proportional term (R98), the integral (R99), the demand with its clamp side (R100), the heating window with its duty
and on time and the demand handed on (R101, R102), and the own demand units formed from it (R113).
The first window after a reset is an off window (R111, R124), which the model takes to hold in any case, also where R97
would let it regulate (notes/assumptions/29.md).
The step's duration count gains one on a 1 min event in SOAKING with the profile RUNNING or ENDED and the station in RUN
(R75), whichever part is taken first, and an elapsed one stands until its end is taken (notes/assumptions/19.md); where the
sequencer's part comes first and the count reaches the duration, a step that waits for more than TIME, or whose profile is
ENDED, is WAITING on this same event (R76). In PAUSED and in WAITING the count stands, and the sequencer with it. -/
def Obligations.OneMinuteWindow : Prop :=
  (∀ s : State, s.held = false → s.time.due1min = true → s.sup.station ≠ .run →
     ∃ t, exec (.event1min false) s = .next t ∧
       t.temp = { s.temp with
         lastDemand := 0, clampSide := .unclamped, heaterDuty := 0, onTimer := none, windowFormed := true } ∧
       t.cool.demandUnits = 0 ∧ t.cool.lastGrant = 0 ∧ t.cool.openTime = 0 ∧ t.cool.openTimer = none ∧
       t.cool.weight = (match s.seq.current with | some r => r.weight | none => 1) ∧
       t.seq = s.seq ∧ t.sup = s.sup ∧ t.draw = s.draw ∧ t.disp = s.disp ∧ t.link = s.link) ∧
  (∀ (s : State) (f : Int), s.held = false → s.time.due1min = true → s.temp.windowFormed = true →
     s.sup.station = .run → s.seq.profile ≠ .idle →
     s.sampling.beer.state = .good → s.sampling.beer.filtered = some f → s.seq.phase ≠ some .ramping →
     let e := f - s.temp.accumulator / 65536
     let held := (s.temp.clampSide = .high ∧ 0 < e) ∨ (s.temp.clampSide = .low ∧ e < 0)
     let acc := if held then s.temp.integral else max 0 (min 25600 (s.temp.integral + e * s.setup.ki))
     let sum := (e * s.setup.kp).tdiv 16 + acc / 256
     let heats := s.ident.heaterFitted = true ∧ s.sampling.jacket.state = .good ∧ s.setup.heatBand < -e
     ∃ t, exec (.event1min false) s = .next t ∧
       t.temp.integral = acc ∧ t.temp.lastDemand = max 0 (min 100 sum) ∧
       t.temp.clampSide = (if 100 < sum then .high else if sum < 0 then .low else .unclamped) ∧
       t.temp.heaterDuty = (if heats then max 1 (min 100 ((-e * s.setup.kp).tdiv 16)) else 0) ∧
       t.temp.onTimer =
         (if t.temp.heaterDuty.toNat * 60 / 100 = 0 then none else some (t.temp.heaterDuty.toNat * 60 / 100 * 100)) ∧
       t.cool.demandUnits =
         (if heats then 0 else (max 0 (min 100 sum)).toNat) * s.setup.valveCapacity / 100 ∧
       t.temp.limitInForce = s.temp.limitInForce ∧ t.temp.windowFormed = true ∧ t.sampling = s.sampling ∧
       t.setup = s.setup) ∧
  (∀ (sequencerFirst : Bool) (s : State), s.held = false → s.time.due1min = true → s.temp.windowFormed = false →
     ∃ t, exec (.event1min sequencerFirst) s = .next t ∧ t.temp.windowFormed = true ∧ t.temp.lastDemand = 0 ∧
       t.temp.clampSide = .unclamped ∧ t.temp.heaterDuty = 0 ∧ t.temp.onTimer = none ∧
       t.temp.integral = s.temp.integral ∧ t.cool.demandUnits = 0 ∧ t.cool.lastGrant = 0 ∧ t.cool.openTime = 0 ∧
       t.cool.openTimer = none) ∧
  (∀ (r : StepRecord) (s : State), s.held = false → s.time.due1min = true → s.seq.current = some r →
     let counted : Sequencer := { s.seq with count := s.seq.count + 1 }
     (s.seq.phase = some .soaking → s.sup.station = .run → s.seq.profile = .running ∨ s.seq.profile = .ended →
       s.seq.count ≠ r.duration * 60 →
       (∃ t, exec (.event1min false) s = .next t ∧ t.seq = counted) ∧
       (s.seq.count + 1 ≠ r.duration * 60 → ∃ t, exec (.event1min true) s = .next t ∧ t.seq = counted) ∧
       (s.seq.count + 1 = r.duration * 60 →
         s.seq.profile = .ended ∨ r.endKind = .panel ∨ r.endKind = .stay ∨ (∃ g, r.endKind = .groupSync g) →
         ∃ t, exec (.event1min true) s = .next t ∧ t.seq = { counted with phase := some .waiting })) ∧
     (s.seq.phase = some .soaking → s.seq.count = r.duration * 60 →
       ∃ t, exec (.event1min false) s = .next t ∧ t.seq = s.seq) ∧
     (s.seq.profile = .paused ∨ s.seq.phase = some .waiting →
       ∀ sequencerFirst, ∃ t, exec (.event1min sequencerFirst) s = .next t ∧ t.seq = s.seq))

/-- On a 1 min event an advancing ramp moves one increment toward its target and never past it (R95, R96): the accumulator
ends between where it stood and the target, at the target exactly when the increment would reach it. On that minute the
step goes to SOAKING with its count at 0 (R76). -/
def Obligations.RampMovesTowardItsTarget : Prop :=
  (∀ (acc target inc : Int), 0 < inc →
    (acc ≤ target * 65536 → acc ≤ (moveToward acc target inc).1 ∧ (moveToward acc target inc).1 ≤ target * 65536) ∧
    (target * 65536 ≤ acc → target * 65536 ≤ (moveToward acc target inc).1 ∧ (moveToward acc target inc).1 ≤ acc) ∧
    ((moveToward acc target inc).2 = true ↔ (acc - target * 65536).natAbs ≤ inc.natAbs) ∧
    ((moveToward acc target inc).2 = true → (moveToward acc target inc).1 = target * 65536)) ∧
  ∀ (sequencerFirst : Bool) (s : State) (r : StepRecord) (rate : Nat), s.held = false → s.time.due1min = true →
    s.sup.station = .run → (s.seq.profile = .running ∨ s.seq.profile = .ended) → s.seq.phase = some .ramping →
    s.seq.current = some r → r.kind = .ramp rate →
    let inc : Nat := (rate * 65536 + 720) / 1440
    let distance : Nat := (s.temp.accumulator - r.target * 65536).natAbs
    (inc < distance →
      ∃ t, exec (.event1min sequencerFirst) s = .next t ∧ t.seq = s.seq ∧
        t.temp.accumulator =
          (if s.temp.accumulator < r.target * 65536 then s.temp.accumulator + inc else s.temp.accumulator - inc)) ∧
    (distance ≤ inc → 0 < r.duration →
      ∃ t, exec (.event1min sequencerFirst) s = .next t ∧
        t.seq = { s.seq with phase := some .soaking, count := 0 } ∧ t.temp.accumulator = r.target * 65536)

/-- The solubility is the table's at its nine temperatures, with the truncated share of the difference between them, the end
entries beyond them; so it lies within 650 to 1650 and never rises with the temperature (R126). The absolute pressure is
the quotient rounded half up; and a computation with both inputs sets the gas setpoint to the gauge pressure brought within 50 hPa and
the relief ceiling less 200, with the flag of the bound that was passed (R127). -/
def Obligations.GasSetpoint : Prop :=
  (∀ (i : Nat) (here next : Nat),
     (i, here, next) ∈ [(0, 1650, 1440), (1, 1440, 1260), (2, 1260, 1110), (3, 1110, 985), (4, 985, 880), (5, 880, 790),
       (6, 790, 715), (7, 715, 650)] →
     ∀ frac : Nat, frac < 64 → solubility (64 * i + frac : Nat) = here - (here - next) * frac / 64) ∧
  (∀ a : Int, (a ≤ 0 → solubility a = 1650) ∧ (512 ≤ a → solubility a = 650)) ∧
  (∀ a b : Int, a ≤ b → solubility b ≤ solubility a) ∧ (∀ a : Int, 650 ≤ solubility a ∧ solubility a ≤ 1650) ∧
  (∀ v k : Nat, 0 < k →
    2 * k * absolutePressure v k ≤ 2 * (v * 10000) + k ∧ 2 * (v * 10000) + k < 2 * k * (absolutePressure v k + 1)) ∧
  ∀ (s : State) (v : Nat) (f : Int), handedTarget s = some v → s.sampling.beer.filtered = some f →
    250 ≤ s.setup.reliefCeiling →
    let gauge := (absolutePressure v (solubility f) : Int) - s.setup.atmosphere
    computeSetpoint s = { s with gas := { s.gas with
      setpoint := max 50 (min (s.setup.reliefCeiling - 200) gauge), limitedLow := decide (gauge < 50),
      limitedHigh := decide (s.setup.reliefCeiling - 200 < gauge) } }

/-- A 1 h event on which no step ends: the open bucket joins the complete ones, of which eight are kept, but for one begun on
this same event (R141);
an ARMED leak check begins a window (R142); a leak window's drop above the leak limit raises LEAK, which locks the
coordinator, a smaller one does nothing, and a new window begins (R142, R143).
In a RUNNING profile whose step waits with an ACTIVITY_LOW end in RUN, the completed bucket is tested with the newest ones
(R85): as many as the end asks for, each below the threshold, end the step (R76, R83), by a pending STEP_END switch, to the
next slot's step, or to ENDED; else the step goes on waiting.
The leak check's eight conditions; every command leaves the check OFF where they do not hold after it, and out of OFF where
they do: `updateLeak`, which statements on commands name, takes it from OFF to ARMED when they come to hold, and to OFF when
they cease (R142). -/
def Obligations.OneHourEvent : Prop :=
  (∀ s : State, s.held = false → s.time.due1h = true →
     let buckets := (s.gas.openBucket :: s.gas.buckets).take 8
     (s.gas.bucketBegunNow = false → s.seq.profile = .running → s.seq.phase = some .waiting →
       ∀ r, s.seq.current = some r → ¬EndMet r { s with gas := { s.gas with buckets := buckets } }) →
     ∃ t, exec .event1h s = .next t ∧
       t.gas.buckets = (if s.gas.bucketBegunNow then s.gas.buckets else buckets) ∧
       t.gas.openBucket = (if s.gas.bucketBegunNow then s.gas.openBucket else 0) ∧
       (∀ p f, s.gas.leak = .armed → heldPressure s.sampling.transducer = some p → s.sampling.beer.filtered = some f →
         t.sup = s.sup ∧ t.draw = s.draw ∧ t.link = s.link ∧ (leakConditions s = true → t.gas.leak = .inWindow p f)) ∧
       (∀ p0 t0 p f, s.gas.leak = .inWindow p0 t0 → heldPressure s.sampling.transducer = some p →
         s.sampling.beer.filtered = some f →
         (s.setup.leakLimit < p0 - p → hasAlarm s.sup.latched .leak = false → hasAlarm s.sup.active .leak = false →
           hasAlarm t.sup.latched .leak = true ∧ hasAlarm t.sup.active .leak = true ∧ t.draw.causes.leak = true ∧
           t.draw.state = .locked ∧ Raised .leak s t) ∧
         (p0 - p ≤ s.setup.leakLimit ∨ hasAlarm s.sup.latched .leak = true →
           t.sup = s.sup ∧ t.draw = s.draw ∧ t.link = s.link) ∧
         (leakConditions t = true → t.gas.leak = .inWindow p f)) ∧
       t.gas.state = s.gas.state ∧ t.gas.setpoint = s.gas.setpoint ∧
       t.seq = s.seq ∧ t.time = { s.time with due1h := false } ∧ t.disp = s.disp ∧ t.temp = s.temp ∧
       t.cool = s.cool ∧ t.sampling = s.sampling ∧ t.view = s.view ∧ t.setup = s.setup ∧ t.drivers = s.drivers) ∧
  (∀ (r : StepRecord) (s : State), s.held = false → s.time.due1h = true →
    s.gas.bucketBegunNow = false → s.seq.profile = .running → s.seq.phase = some .waiting → s.seq.current = some r →
    let buckets := (s.gas.openBucket :: s.gas.buckets).take 8
    r.endKind ≠ .time → EndMet r { s with gas := { s.gas with buckets := buckets } } →
    ∃ t, exec .event1h s = .next t ∧ StepEnded s t ∧ t.time = { s.time with due1h := false } ∧
      t.sampling = s.sampling ∧ t.setup = s.setup ∧ t.view = s.view ∧ t.cool = s.cool ∧ t.sup.station = .run ∧
      ((∀ start, s.seq.pendingSwitch ≠ some ⟨.stepEnd, start⟩) → nextSlot s.seq = none → t.gas.buckets = buckets)) ∧
  (∀ s : State,
    (leakConditions s = true ↔
      s.sup.station = .run ∧ s.seq.profile ≠ .idle ∧
        (handedMode s = some .carbonate ∨ handedMode s = some .serve) ∧ s.gas.state = .rest ∧
        (s.draw.state = .idle ∨ s.draw.state = .locked) ∧ s.disp.state = .idle ∧ s.sampling.keg.active = true ∧
        s.sampling.beer.state = .good) ∧
    updateLeak s = { s with gas := { s.gas with
      leak := if leakConditions s = false then .off else if s.gas.leak = .off then .armed else s.gas.leak } }) ∧
  ∀ (c : Instr) (s : State), s.held = false → (∀ p, c ≠ .powerOn p) → c ≠ .rstnHeldLow →
    ∃ t, exec c s = .next t ∧ (t.gas.leak = .off ↔ leakConditions t = false)

/-! ### Switch inputs and the flow meter -/

/-- A handle press in IDLE for which a condition of R165 gives a reason is denied: one record, no volume, the portion kept
armed, nothing handed on (R166); the press is activity event HANDLE.
The conditions of R165, each in the place the table gives it. -/
def Obligations.PressDenied : Prop :=
  (∀ (reason : DenyReason) (s : State), s.held = false → s.sampling.handle.active = true →
     s.sampling.handle.undelivered = true → s.disp.state = .idle → denialReason s = some reason →
     exec .handlePress s = .next (updateLeak
       (({ activityEvent .handle { s with
             sampling := { s.sampling with handle := { s.sampling.handle with undelivered := false } } } with
           disp := ({ s.disp with nextNumber := nextPourNumber s.disp.nextNumber } : Dispense).joinLog
             { number := s.disp.nextNumber, startMinute := s.time.uptime, duration := 0, volume := 0,
               outcome := .denied reason, temperature := s.sampling.beer.filtered,
               pressure := heldPressure s.sampling.transducer, portion := s.disp.portion } })))) ∧
  (∀ s : State,
     (s.sup.station = .safe → denialReason s = some .safe) ∧
     (s.sup.station = .setup → denialReason s = some .notServing) ∧
     (s.sup.station = .run → handedMode s ≠ some .serve → denialReason s = some .notServing) ∧
     (s.sup.station = .run → handedMode s = some .serve →
       (s.sampling.keg.active = false → denialReason s = some .noKeg) ∧
       (s.sampling.keg.active = true → s.sampling.lid.active = false → denialReason s = some .lidOpen) ∧
       (s.sampling.keg.active = true → s.sampling.lid.active = true → s.sampling.drip.active = true →
         denialReason s = some .dripFull) ∧
       (s.sampling.keg.active = true → s.sampling.lid.active = true → s.sampling.drip.active = false →
         (s.sampling.beer.state ≠ .good ∨ s.sampling.transducer.state ≠ .good → denialReason s = some .fault) ∧
         (∀ f p, s.sampling.beer.state = .good → s.sampling.transducer.state = .good →
           s.sampling.beer.filtered = some f → heldPressure s.sampling.transducer = some p →
           (s.disp.level ≤ s.setup.reserve → denialReason s = some .emptyKeg) ∧
           (s.setup.reserve < s.disp.level → s.setup.serveMax < f → denialReason s = some .warm) ∧
           (s.setup.reserve < s.disp.level → f ≤ s.setup.serveMax → p < s.setup.serveFloor →
             denialReason s = some .lowPressure) ∧
           (s.setup.reserve < s.disp.level → f ≤ s.setup.serveMax → s.setup.serveFloor ≤ p →
             denialReason s = none)))))

/-- A handle press in IDLE that passes every condition of R165 is granted (R167): FLOWING, the pour with the next number,
its readings and the armed portion, the stall timer 3 s off, TAP requested, the urgency PRIORITY (R147), POUR(START) with
the number queued (R180).
A press in TAILING sets the deferred request alone (R174); a release in FLOWING ends the pour with HANDLE (R14, R172)
and has no other effect in the other pour states. -/
def Obligations.PressGrantedOrDeferredAndRelease : Prop :=
  (∀ (f p : Int) (s : State), s.held = false → s.sampling.handle.active = true →
     s.sampling.handle.undelivered = true → s.disp.state = .idle → Serving s → s.sampling.lid.active = true → s.sampling.drip.active = false →
     s.setup.reserve < s.disp.level → s.sampling.beer.filtered = some f → f ≤ s.setup.serveMax →
     heldPressure s.sampling.transducer = some p → s.setup.serveFloor ≤ p →
     ∃ t, exec .handlePress s = .next t ∧
       t.disp = { s.disp with
         state := .flowing, pulses := 0,
         pour := some { number := s.disp.nextNumber, startMinute := s.time.uptime, temperature := some f,
                        pressure := some p, portion := s.disp.portion, reason := none, elapsed := 0 },
         nextNumber := if s.disp.nextNumber ≥ 4294967295 then 1 else s.disp.nextNumber + 1,
         portion := none, portionTimer := none, stallDelay := some 300, stallTimer := none, lowTimer := none,
         tailTimer := none } ∧
       tapPin t = s.drivers.tap.apply true ∧ t.draw.urgency = .priority ∧ Queued (.pourStart s.disp.nextNumber) s t ∧
       t.sampling = { s.sampling with handle := { s.sampling.handle with undelivered := false } } ∧
       t.setup = s.setup ∧ t.time = s.time ∧ t.view = s.view ∧ t.seq = s.seq ∧ t.temp = s.temp ∧ t.cool = s.cool ∧
       t.drivers = s.drivers ∧ t.gas = { s.gas with leak := .off } ∧ t.sup.station = .run ∧
       t.sup.active = s.sup.active ∧ t.sup.latched = s.sup.latched) ∧
  (∀ s : State, s.held = false →
     (s.sampling.handle.active = true → s.sampling.handle.undelivered = true → s.disp.state = .tailing →
       exec .handlePress s = .next (updateLeak
         { activityEvent .handle { s with
             sampling := { s.sampling with handle := { s.sampling.handle with undelivered := false } } } with
           disp := { s.disp with deferred := true } })) ∧
     (s.sampling.handle.active = false → s.sampling.handle.undelivered = true → s.disp.state ≠ .flowing →
       exec .handleRelease s = .next (updateLeak
         { s with sampling := { s.sampling with handle := { s.sampling.handle with undelivered := false } } })) ∧
     (s.sampling.handle.active = false → s.sampling.handle.undelivered = true → s.disp.state = .flowing →
       ∃ t, exec .handleRelease s = .next t ∧
         t.disp = { s.disp with
           state := .tailing, pour := s.disp.pour.map fun p => { p with reason := some .handle }, stallDelay := none,
           stallTimer := none, lowTimer := none, tailTimer := some 100 } ∧
         t.sampling = { s.sampling with handle := { s.sampling.handle with undelivered := false } } ∧ (s.drivers.tap ≠ .forcedOn → tapPin t = false) ∧
         t.sup = s.sup ∧ t.setup = s.setup ∧ t.time = s.time ∧ t.view = s.view ∧ t.seq = s.seq ∧ t.temp = s.temp ∧
         t.cool = s.cool ∧ t.drivers = s.drivers))

/-- A change of an auxiliary line that the 10 ms event has taken (R13) is delivered once (R15).
KEG_PRESENT's forms the KEG cause (R160) and, to inactive, ends a pour with NO_KEG (R172); LID_CLOSED's to inactive is
activity event LID, with what R183 has it do in RUN and with nothing outside it; LID_CLOSED's and DRIP_FULL's end no pour; and a watched line's evaluates the watch (R16), of all alarms moving WATCH alone.
EXT_STOP's changes (R15, R182): to active it raises its alarm, and in RUN the station enters SAFE with the effects of R192;
in SETUP the station stays and no block but the alarms and the watch follows; in SAFE the alarm is raised too, unless a
LEAVE_SAFE on the same event has found the change taken (R193; the model's reading, notes/assumptions/8.md). To inactive
its alarm's cause ends and the station stays.
That the 10 ms event takes the level and the row delivers the change, and that each row without a change to deliver has no
effect, are the model's choices (notes/assumptions/5.md, notes/assumptions/9.md). -/
def Obligations.LineChanges : Prop :=
  (∀ s : State, s.held = false → s.sampling.levelsTaken = true →
     let others (t : State) : Prop :=
       (∀ a : Alarm, a ≠ .watch →
         hasAlarm t.sup.active a = hasAlarm s.sup.active a ∧ hasAlarm t.sup.latched a = hasAlarm s.sup.latched a) ∧
       t.sup.station = s.sup.station ∧ t.gas = { s.gas with leak := t.gas.leak } ∧
       t.link.silent = s.link.silent ∧ t.link.bus = s.link.bus ∧ t.link.rx = s.link.rx ∧
       t.link.dropCount = s.link.dropCount ∧ t.seq = s.seq ∧ t.temp = s.temp ∧ t.cool = s.cool ∧ t.setup = s.setup ∧
       t.view = s.view ∧ t.time = s.time ∧ t.drivers = s.drivers ∧ t.ident = s.ident
     let watched (line : Nat) (t : State) : Prop :=
       (s.setup.watchSet.getLsbD line = true → (t.sampling.watch = .tripped ↔ watchMismatch t = true)) ∧
       (s.setup.watchSet.getLsbD line = false →
         t.sampling.watch = s.sampling.watch ∧ t.sup.active = s.sup.active ∧ t.sup.latched = s.sup.latched)
     (s.sampling.keg.undelivered = true →
       ∃ t, exec (.auxLineChange .kegPresent) s = .next t ∧
         t.sampling = { s.sampling with
           keg := { s.sampling.keg with undelivered := false }, watch := t.sampling.watch } ∧
         t.draw.causes.keg = !s.sampling.keg.active ∧
         (s.sampling.keg.active = false → t.draw.state = .locked) ∧
         (s.sampling.keg.active = false → s.disp.state = .flowing →
           t.disp = { s.disp with
             state := .tailing, pour := s.disp.pour.map fun p => { p with reason := some .noKeg }, stallDelay := none,
             stallTimer := none, lowTimer := none, tailTimer := some 100 }) ∧
         (s.sampling.keg.active = true ∨ s.disp.state ≠ .flowing → t.disp = s.disp) ∧ watched 0 t ∧ others t) ∧
     (s.sampling.lid.undelivered = true →
       ∃ t, exec (.auxLineChange .lidClosed) s = .next t ∧
         t.sampling = { s.sampling with
           lid := { s.sampling.lid with undelivered := false }, watch := t.sampling.watch } ∧
         (s.sampling.lid.active = false → s.sup.station = .run →
           (s.sup.quiet = false → s.setup.activitySet.getLsbD 4 = true → t.sup.idleCount = 0) ∧
           (s.sup.quiet = true → s.setup.wakeSet.getLsbD 4 = true →
             t.sup.quiet = false ∧ t.sup.idleCount = 0 ∧ (s.link.silent = false → t.link.reportCount = 0)) ∧
           (t.sup.active = s.sup.active →
             s.sup.quiet = false ∧ s.setup.activitySet.getLsbD 4 = false ∨
               s.sup.quiet = true ∧ s.setup.wakeSet.getLsbD 4 = false → t.sup = s.sup)) ∧
         (s.sampling.lid.active = true ∨ s.sup.station ≠ .run → t.sup.active = s.sup.active → t.sup = s.sup) ∧
         watched 1 t ∧ others t ∧ t.draw = s.draw ∧ t.disp = s.disp) ∧
     (s.sampling.drip.undelivered = true →
       ∃ t, exec (.auxLineChange .dripFull) s = .next t ∧
         t.sampling = { s.sampling with
           drip := { s.sampling.drip with undelivered := false }, watch := t.sampling.watch } ∧
         watched 2 t ∧ others t ∧ t.draw = s.draw ∧ t.disp = s.disp)) ∧
  (∀ s : State, s.held = false →
     let delivered (t : State) : Prop :=
       t.sampling = { s.sampling with
         ext := { s.sampling.ext with undelivered := false }, watch := t.sampling.watch }
     let otherAlarms (t : State) : Prop :=
       ∀ a : Alarm, a ≠ .watch → a ≠ .extStop →
         hasAlarm t.sup.active a = hasAlarm s.sup.active a ∧ hasAlarm t.sup.latched a = hasAlarm s.sup.latched a
     (s.sampling.ext.active = true → s.sampling.ext.undelivered = true →
       ∃ t, exec .extStopActive s = .next t ∧ delivered t ∧ t.sup.leaveSafeRefused = false ∧
         (s.sup.station ≠ .safe ∨ s.sup.leaveSafeRefused = false → hasAlarm t.sup.active .extStop = true ∧
           Raised .extStop s t ∧
           (hasAlarm s.sup.active .extStop = false → hasAlarm t.sup.latched .extStop = true)) ∧
         (s.sup.station = .safe → s.sup.leaveSafeRefused = true →
           hasAlarm t.sup.active .extStop = hasAlarm s.sup.active .extStop ∧
           hasAlarm t.sup.latched .extStop = hasAlarm s.sup.latched .extStop) ∧
         (s.sup.station = .run →
           t.sup.station = .safe ∧ t.sup.quiet = false ∧ t.temp.onTimer = none ∧ t.temp.heaterDuty = 0 ∧
           t.temp.lastDemand = 0 ∧ t.cool.openTimer = none ∧ t.cool.demandUnits = 0 ∧ t.disp.state ≠ .flowing ∧
           (t.gas.state = .rest ∨ t.gas.state = .relief ∨ t.gas.state = .sensorVent) ∧
           inletPin t = false ∧ tapPin t = false ∧ glycolPin t = false ∧ heaterPin t = false) ∧
         (s.sup.station ≠ .run →
           t.sup.station = s.sup.station ∧ otherAlarms t ∧ t.temp = s.temp ∧ t.cool = s.cool ∧ t.disp = s.disp ∧
           t.draw = s.draw ∧ t.gas = { s.gas with leak := t.gas.leak } ∧ t.drivers = s.drivers) ∧
         t.seq = s.seq ∧ t.setup = s.setup ∧ t.view = s.view ∧ t.time = s.time ∧ t.disp.level = s.disp.level ∧
         t.disp.log = s.disp.log) ∧
     (s.sampling.ext.active = false → s.sampling.ext.undelivered = true →
       ∃ t, exec .extStopInactive s = .next t ∧ delivered t ∧ otherAlarms t ∧ Ended .extStop s t ∧
         hasAlarm t.sup.active .extStop = false ∧ t.sup.station = s.sup.station ∧
         t.gas = { s.gas with leak := t.gas.leak } ∧
         (hasAlarm s.sup.latched .extStop = true → hasAlarm t.sup.latched .extStop = true) ∧
         t.seq = s.seq ∧ t.setup = s.setup ∧ t.view = s.view ∧ t.time = s.time ∧ t.disp = s.disp ∧ t.draw = s.draw ∧
         t.temp = s.temp ∧ t.cool = s.cool ∧ t.drivers = s.drivers) ∧
     (s.sampling.undelivered = false →
       (∀ line, exec (.auxLineChange line) s = .next (updateLeak s)) ∧
       exec .handlePress s = .next (updateLeak s) ∧ exec .handleRelease s = .next (updateLeak s) ∧
       exec .extStopActive s = .next (updateLeak s) ∧
       exec .extStopInactive s = .next (updateLeak s)))

/-- A flow pulse (R17, R168, R169): discarded in IDLE, counted in TAILING, in FLOWING counted and tested, a pulse that
meets both the portion and the maximum giving PORTION; in FLOWING it starts a running stall timer afresh (R170). A pulse
beside a stall timer that has run out: TimerEnds. -/
def Obligations.FlowPulseCounts : Prop :=
  ∀ s : State, s.held = false →
    (s.disp.state = .idle → exec .flowPulse s = .next (updateLeak s)) ∧
    (s.disp.state = .tailing →
      exec .flowPulse s = .next (updateLeak { s with disp := { s.disp with pulses := min 65535 (s.disp.pulses + 1) } })) ∧
    (∀ p, s.disp.state = .flowing → s.disp.pour = some p →
      let n := min 65535 (s.disp.pulses + 1)
      let volume := (n * s.setup.flowFactor + 500) / 1000
      ((∀ v, p.portion = some v → volume < v) → volume < s.setup.maxPour → s.disp.stallTimer ≠ some 0 →
        exec .flowPulse s = .next (updateLeak { s with
          disp := { s.disp with pulses := n, stallTimer := s.disp.stallTimer.map fun _ => 200 } })) ∧
      (∀ v, p.portion = some v → v ≤ volume →
        ∃ t, exec .flowPulse s = .next t ∧ t.disp = { s.disp with
          state := .tailing, pulses := n, pour := some { p with reason := some .portion }, stallDelay := none,
          stallTimer := none, lowTimer := none, tailTimer := some 100 }) ∧
      ((∀ v, p.portion = some v → volume < v) → s.setup.maxPour ≤ volume →
        ∃ t, exec .flowPulse s = .next t ∧ t.disp = { s.disp with
          state := .tailing, pulses := n, pour := some { p with reason := some .limit }, stallDelay := none,
          stallTimer := none, lowTimer := none, tailTimer := some 100 }))

/-! ### Ends of timed durations -/

/-- The duration of the current step has elapsed (R75, R76): in PAUSED nothing moves (notes/assumptions/19.md); in ENDED, and
in RUNNING where the step's end is not met, the step waits: an end of GROUP_SYNC, PANEL or STAY, and of ACTIVITY_LOW outside
RUN or without the low buckets (R85). In RUNNING a TIME end (R84), and an ACTIVITY_LOW end met at this entry to WAITING (R85),
end the step (R83): a pending STEP_END switch is taken, else the next slot's step starts, else the profile is ENDED, the step
kept, with a BAY_STATE queued. Here the new step does not end at its own start. -/
def Obligations.DurationElapses : Prop :=
  ∀ (r : StepRecord) (s : State), s.held = false → s.seq.current = some r → s.seq.phase = some .soaking →
    s.seq.count = r.duration * 60 →
    (s.seq.profile = .paused → exec .durationElapsed s = .next (updateLeak s)) ∧
    (s.seq.profile = .ended ∨ (s.seq.profile = .running ∧ ¬EndMet r s) →
      exec .durationElapsed s = .next (updateLeak { s with seq := { s.seq with phase := some .waiting } })) ∧
    (s.seq.profile = .running → EndMet r s →
      ∃ t, exec .durationElapsed s = .next t ∧ StepEnded { s with seq := { s.seq with phase := some .waiting } } t ∧
        t.cool = s.cool ∧ t.sampling = s.sampling ∧ t.setup = s.setup ∧ t.view = s.view ∧ t.time = s.time)

/-- The ends that only stop or start a timer: the heater request (R102), the GLYCOL request (R120), the pulse, on to the
settle (R134), the wait before the stall timer (R170), the portion's expiry (R175).
The end of the settle evaluates at once (R134): a GOOD pressure not above the ceiling in force (R61), in an enabled mode, starts the
next pulse when it is above setpoint plus effective band, counted in the open bucket (R132, R140), and rests when it lies
within the band.
The report timer at its interval queues a BAY_STATE and returns to 0 (R38), not in SILENT (R39), and the 1 s event of that
queueing counts no more (the mark of notes/assumptions/13.md); the idle timer at its period sets QUIET and queues a
BAY_STATE (R184, R185), in every pour state: that a pour granted since the minute was counted does not hold the expiry off
is the model's inference (notes/assumptions/15.md).
A flow pulse in FLOWING that reaches neither the portion nor the maximum does not start a stall timer that has run out (R5)
afresh: its end stays to be taken (the model's reading, notes/assumptions/5.md). -/
def Obligations.TimerEnds : Prop :=
  (∀ s : State, s.held = false →
     (s.temp.onTimer = some 0 →
       exec .heaterOnTimeEnd s = .next (updateLeak { s with temp := { s.temp with onTimer := none } })) ∧
     (s.cool.openTimer = some 0 →
       exec .glycolOpenTimeEnd s = .next (updateLeak { s with cool := { s.cool with openTimer := none } })) ∧
     (s.gas.state = .pulse → s.gas.pulseTimer = some 0 →
       exec .pulseTimerEnd s = .next (updateLeak { s with
         gas := { s.gas with state := .settle, pulseTimer := none, settleTimer := some 75 } })) ∧
     (s.disp.state = .flowing → s.disp.stallDelay = some 0 →
       exec .stallTimerStart s = .next (updateLeak { s with
         disp := { s.disp with stallDelay := none, stallTimer := some 200 } })) ∧
     (s.disp.portionTimer = some 0 →
       exec .portionExpiry s = .next (updateLeak { s with
         disp := { s.disp with portion := none, portionTimer := none } })) ∧
     (∀ p, s.disp.state = .flowing → s.disp.pour = some p → s.disp.stallTimer = some 0 →
       let n := min 65535 (s.disp.pulses + 1)
       let volume := (n * s.setup.flowFactor + 500) / 1000
       (∀ v, p.portion = some v → volume < v) → volume < s.setup.maxPour →
         exec .flowPulse s = .next (updateLeak { s with disp := { s.disp with pulses := n } }))) ∧
  (∀ (m : GasMode) (p : Int) (s : State), s.held = false → s.gas.state = .settle → s.gas.settleTimer = some 0 →
     enabledMode s = some m → goodPressure s.sampling.transducer = some p → p ≤ s.gas.ceiling →
     (s.gas.setpoint + effectiveBand s < p →
       exec .settleEnd s = .next (updateLeak { s with gas := { s.gas with
         state := .pulse, pulseTimer := some 25, settleTimer := none, openBucket := min 255 (s.gas.openBucket + 1) } })) ∧
     (s.gas.setpoint - effectiveBand s ≤ p → p ≤ s.gas.setpoint + effectiveBand s →
       exec .settleEnd s = .next (updateLeak { s with gas := { s.gas with
         state := .rest, pulseTimer := none, settleTimer := none } }))) ∧
  (∀ s : State, s.held = false →
     (s.link.silent = false → (if s.sup.quiet then 30 else 5) ≤ s.link.reportCount →
       exec .reportTimer s = .next (updateLeak { s with
         link := { (s.link.enqueue { frame := .bayState }).1 with reportCount := 0, reportBegunNow := true } })) ∧
     (s.link.silent = true → exec .reportTimer s = .next (updateLeak s)) ∧
     (s.sup.station = .run → s.sup.quiet = false → 0 < s.setup.idlePeriod → s.setup.idlePeriod ≤ s.sup.idleCount →
       exec .idleTimerExpiry s = .next (updateLeak (queueBayState { s with sup := { s.sup with quiet := true } }))))

/-- The end of the settle window (R150): below the draw limit the claim is kept, with KEEP, the keep timer and the rise
record (R153, R157); else it is given up, with RELEASE and the backoff of R151. The draw limit is the one that the claim's
examination read (R148, R61; the model's inference, notes/assumptions/34.md). What is counted against the claim, by R150's
table: the stations DRAWING, and those CLAIMING with a stricter urgency than the claim's, or with the same urgency and a
lower number.
The end of a keep period (R153): a KEEP at counts 1 to 3; at 4 the maximum hold, RELEASE and RECOVER for 1 s (R155).
The end of BACKOFF and of RECOVER (R151, R155): without the need IDLE; with it WAITING, examined at once (R148), a
permission making a claim at the present urgency (R149) where the queue has room. The permission, by R148's table: for
ROUTINE no supply suspension, which the own flag makes and the indication of every present entry, by the later refreshed of
its bay and draw parts (R158, R51), and fewer stations DRAWING than the draw limit; for PRIORITY fewer stations DRAWING with
PRIORITY. -/
def Obligations.CoordinatorTimerEnds : Prop :=
  (∀ s : State,
     let drawPart (n : Nat) : Option PeerDraw := (s.view.entry n).draw.map (·.draw)
     let draws (n : Nat) : Bool := drawPart n = some (.drawing .routine) || drawPart n = some (.drawing .priority)
     let above (n : Nat) : Bool :=
       (drawPart n = some (.claiming .priority) && s.draw.claimUrgency = .routine) ||
         (drawPart n = some (.claiming s.draw.claimUrgency) && n < s.ident.number)
     let weak (e : PeerEntry) : Prop :=
       (∃ b, e.bay = some b ∧ b.supplyWeak = true ∧ (e.draw = none ∨ e.drawLater = false)) ∨
         ∃ d, e.draw = some d ∧ d.supplyWeak = true ∧ (e.bay = none ∨ e.drawLater = true)
     let stations := List.range' 1 s.view.entries.length
     countedAgainst s = stations.countP (fun n => draws n || above n) ∧
     (s.draw.urgency = .routine →
       (mayClaim s = true ↔ s.draw.supplyWeak = false ∧ (∀ e ∈ s.view.entries, ¬weak e) ∧
         stations.countP draws < s.setup.drawLimit)) ∧
     (s.draw.urgency = .priority →
       (mayClaim s = true ↔
         stations.countP (fun n => drawPart n = some (.drawing .priority)) < s.setup.drawLimit))) ∧
  (∀ s : State, s.held = false → s.draw.state = .claiming → s.draw.settleWindow = some 0 →
     (countedAgainst s < s.draw.limit →
       exec .settleWindowEnd s = .next (updateLeak (queueFrame (.draw .keep s.draw.urgency s.draw.supplyWeak)
         { s with draw := { s.draw with
           state := .drawing, settleWindow := none, keepTimer := some 100, keepCount := 0, backoffTimer := none,
           backoffElapsed := 0, rise := (heldPressure s.sampling.transducer).toList } }))) ∧
     (s.draw.limit ≤ countedAgainst s →
       exec .settleWindowEnd s = .next (updateLeak (queueFrame (.draw .release s.draw.urgency s.draw.supplyWeak)
         { s with draw := { s.draw with
           state := .backoff, settleWindow := none, keepTimer := none, keepCount := 0,
           backoffTimer := some (if s.draw.claimUrgency = .routine then (500 + 100 * s.ident.number) / 10
             else (100 + 20 * s.ident.number) / 10),
           backoffElapsed := 0, rise := [] } })))) ∧
  (∀ s : State, s.held = false → s.draw.state = .drawing → s.draw.keepTimer = some 0 →
     (s.draw.keepCount < 3 →
       exec .keepTimerPeriod s = .next (updateLeak (queueFrame (.draw .keep s.draw.urgency s.draw.supplyWeak)
         { s with draw := { s.draw with keepCount := s.draw.keepCount + 1, keepTimer := some 100 } }))) ∧
     (3 ≤ s.draw.keepCount →
       exec .keepTimerPeriod s = .next (updateLeak (queueFrame (.draw .release s.draw.urgency s.draw.supplyWeak)
         { s with draw := { s.draw with
           state := .recover, settleWindow := none, keepTimer := none, keepCount := 0, backoffTimer := some 100,
           backoffElapsed := 0, rise := [] } })))) ∧
  (∀ (c : Instr) (s : State), s.held = false → s.draw.backoffTimer = some 0 →
     (c = .backoffEnd ∧ s.draw.state = .backoff) ∨ (c = .recoverEnd ∧ s.draw.state = .recover) →
     let leftAlone (st : DrawState) : Draw :=
       { s.draw with state := st, settleWindow := none, keepTimer := none, keepCount := 0, backoffTimer := none,
                     backoffElapsed := 0, rise := [] }
     let examined (st : DrawState) : Draw := { leftAlone st with limit := s.setup.drawLimit }
     (s.draw.need = false → exec c s = .next (updateLeak { s with draw := leftAlone .idle })) ∧
     (s.draw.need = true → mayClaim s = false →
       exec c s = .next (updateLeak { s with draw := examined .waiting })) ∧
     (s.draw.need = true → mayClaim s = true → s.link.silent = false → s.link.queue.length < 6 →
       ∃ t, exec c s = .next t ∧ t.draw = { examined .claiming with claimUrgency := s.draw.urgency } ∧
         (∃ q ∈ t.link.queue, q.frame = .draw .claim s.draw.urgency s.draw.supplyWeak ∧ q.liveClaim = true) ∧
         t.disp = s.disp ∧ t.temp = s.temp ∧ t.cool = s.cool ∧ t.seq = s.seq ∧ t.sup = s.sup ∧ t.setup = s.setup ∧
         t.sampling = s.sampling ∧ t.view = s.view ∧ t.time = s.time ∧ t.drivers = s.drivers))

/-- The stall and the low-pressure timer end FLOWING (R170, R171): a stall with EMPTY when the level less the metered
volume is at or below reserve + 200, else with STALL.
The tail's end completes the pour (R173): its record joins the log, the level falls by the volume, to 0 at the least
and with EMPTY at once, the pour state is IDLE, and POUR(END) is queued with number, volume and outcome (R180). A deferred
request whose handle has been released since is withdrawn without a record; one whose handle is still active is tested then,
and denied with a record of its own or granted (R174), with its own POUR(START). A press that its 10 ms event has completed
and the row has not delivered is a later one than the deferred one, behind a release (notes/assumptions/9.md).
A record joins the log as the newest; a full log of 32 loses its oldest and is marked wrapped; number 1 empties the
log first and clears the mark; and after 4294967295 the next number is 1 (R177). -/
def Obligations.PourTimerEnds : Prop :=
  (∀ (c : Instr) (reason : EndReason) (p : Pour) (s : State), s.held = false → s.disp.state = .flowing →
     s.disp.pour = some p →
     let left := (s.disp.level : Int) - ((s.disp.pulses * s.setup.flowFactor + 500) / 1000 : Nat)
     (c = .stallTimerEnd ∧ s.disp.stallTimer = some 0 ∧ left ≤ s.setup.reserve + 200 ∧ reason = .empty) ∨
       (c = .stallTimerEnd ∧ s.disp.stallTimer = some 0 ∧ (s.setup.reserve : Int) + 200 < left ∧ reason = .stall) ∨
       (c = .lowPressureTimerEnd ∧ s.disp.lowTimer = some 0 ∧ reason = .lowPressure) →
     ∃ t, exec c s = .next t ∧
       t.disp = { s.disp with
         state := .tailing, pour := some { p with reason := some reason }, stallDelay := none, stallTimer := none,
         lowTimer := none, tailTimer := some 100 } ∧
       (s.drivers.tap ≠ .forcedOn → tapPin t = false) ∧ t.sup = s.sup ∧ t.temp = s.temp ∧ t.cool = s.cool ∧
       t.seq = s.seq ∧ t.setup = s.setup ∧ t.sampling = s.sampling ∧ t.view = s.view ∧ t.time = s.time ∧
       t.drivers = s.drivers) ∧
  (∀ (reason : EndReason) (p : Pour) (s : State), s.held = false → s.disp.state = .tailing →
     s.disp.tailTimer = some 0 → s.disp.pour = some p → p.reason = some reason →
     (s.disp.deferred = false ∨ s.sampling.handle.active = false ∨ s.sampling.handle.undelivered = true) →
     let volume := (s.disp.pulses * s.setup.flowFactor + 500) / 1000
     ∃ t, exec .tailTimerEnd s = .next t ∧ Queued (.pourEnd p.number (min 65535 volume) (.poured reason)) s t ∧
       t.disp =
         { s.disp.joinLog
             { number := p.number, startMinute := p.startMinute, duration := min 65535 (p.elapsed / 10),
               volume := min 65535 volume, outcome := .poured reason, temperature := p.temperature,
               pressure := p.pressure, portion := p.portion } with
           level := if reason = .empty then 0 else s.disp.level - volume, state := .idle, pulses := 0, pour := none,
           tailTimer := none, deferred := false } ∧
       t.sup = s.sup ∧ t.temp = s.temp ∧ t.cool = s.cool ∧ t.seq = s.seq ∧ t.setup = s.setup ∧
       t.sampling = s.sampling ∧ t.view = s.view ∧ t.time = s.time ∧ t.drivers = s.drivers) ∧
  (∀ (reason : EndReason) (p : Pour) (s : State), s.held = false → s.disp.state = .tailing →
     s.disp.tailTimer = some 0 → s.disp.pour = some p → p.reason = some reason →
     s.disp.deferred = true → s.sampling.handle.active = true → s.sampling.handle.undelivered = false →
     let volume := (s.disp.pulses * s.setup.flowFactor + 500) / 1000
     let done : Dispense :=
       { s.disp.joinLog
           { number := p.number, startMinute := p.startMinute, duration := min 65535 (p.elapsed / 10),
             volume := min 65535 volume, outcome := .poured reason, temperature := p.temperature,
             pressure := p.pressure, portion := p.portion } with
         level := if reason = .empty then 0 else s.disp.level - volume, state := .idle, pulses := 0, pour := none,
         tailTimer := none, deferred := false }
     let temperature := s.sampling.beer.filtered
     let pressure := heldPressure s.sampling.transducer
     ∃ t, exec .tailTimerEnd s = .next t ∧ Queued (.pourEnd p.number (min 65535 volume) (.poured reason)) s t ∧
       (∀ why, denialReason { s with disp := done } = some why →
         t.disp = ({ done with nextNumber := nextPourNumber s.disp.nextNumber } : Dispense).joinLog
           { number := s.disp.nextNumber, startMinute := s.time.uptime, duration := 0, volume := 0,
             outcome := .denied why, temperature := temperature, pressure := pressure, portion := s.disp.portion }) ∧
       (denialReason { s with disp := done } = none →
         t.disp = { done with
           state := .flowing,
           pour := some { number := s.disp.nextNumber, startMinute := s.time.uptime, temperature := temperature,
                          pressure := pressure, portion := s.disp.portion, reason := none, elapsed := 0 },
           nextNumber := nextPourNumber s.disp.nextNumber, portion := none, portionTimer := none,
           stallDelay := some 300, stallTimer := none, lowTimer := none } ∧
         Queued (.pourStart s.disp.nextNumber) s t) ∧
       t.sup = s.sup ∧ t.temp = s.temp ∧ t.cool = s.cool ∧ t.seq = s.seq ∧ t.setup = s.setup ∧
       t.sampling = s.sampling ∧ t.view = s.view ∧ t.time = s.time ∧ t.drivers = s.drivers) ∧
  ((∀ (r : PourRecord) (d : Dispense),
     (r.number = 1 → d.joinLog r = { d with log := [r], wrapped := false }) ∧
     (r.number ≠ 1 → d.log.length < 32 → d.joinLog r = { d with log := d.log ++ [r] }) ∧
     (r.number ≠ 1 → 32 ≤ d.log.length → d.joinLog r = { d with log := d.log.tail ++ [r], wrapped := true })) ∧
   nextPourNumber 4294967295 = 1 ∧ ∀ n, n < 4294967295 → nextPourNumber n = n + 1)

/-! ### Cellar bus -/

/-- Queueing a frame (R28 to R30, R40): discarded in SILENT; a BAY_STATE or a DRAW takes the place of the waiting frame of
its class, the later of two; else it joins behind the frames of its own priority; a full queue loses its waiting
BAY_STATE, the later of two, to it, or drops it and sets TX_DROPPED. `queueFrame`, which the statements name, does
this of a frame, and `queueBayState` of a BAY_STATE, with which the report count returns to 0 (R38), but not in SILENT (R39),
and the mark of notes/assumptions/13.md is set. -/
def Obligations.FramesJoinTheQueue : Prop :=
  (∀ (f : Frame) (s : State),
    queueFrame f s = { s with link := (s.link.enqueue { frame := f }).1 } ∧
    (s.link.silent = true → queueBayState s = s) ∧
    (s.link.silent = false → queueBayState s =
      { s with link := { (s.link.enqueue { frame := .bayState }).1 with reportCount := 0, reportBegunNow := true } })) ∧
  ∀ (f : QFrame) (l : Link),
    (l.silent = true → l.enqueue f = (l, false)) ∧
    (l.silent = false →
      (∀ a q b, l.queue = a ++ q :: b → coalescesWith f.frame q = true → (∀ x ∈ b, coalescesWith f.frame x = false) →
        l.enqueue f = ({ l with queue := a ++ f :: b }, true)) ∧
      ((∀ x ∈ l.queue, coalescesWith f.frame x = false) → l.queue.length < 6 →
        ∀ a b, l.queue = a ++ b → (∀ x ∈ a, x.frame.priority ≤ f.frame.priority) →
          (∀ x ∈ b, f.frame.priority < x.frame.priority) →
          l.enqueue f = ({ l with queue := a ++ f :: b }, true)) ∧
      ((∀ x ∈ l.queue, coalescesWith f.frame x = false) → 6 ≤ l.queue.length →
        (∀ x ∈ l.queue, x.frame.isBayState = true → x.inFlight = true) →
        (l.enqueue f).2 = false ∧ (l.enqueue f).1.queue = l.queue ∧ (l.enqueue f).1.txDropped = true) ∧
      ((∀ x ∈ l.queue, coalescesWith f.frame x = false) → 6 ≤ l.queue.length →
        ∀ a q b, l.queue = a ++ q :: b → q.frame.isBayState = true → q.inFlight = false →
          (∀ x ∈ b, x.frame.isBayState = true → x.inFlight = true) →
          l.enqueue f = ({ l with queue := insertFrame f (a ++ b) }, true)))

/-- The bus idle again frees the receiver (R24, R32); another station's start bit on the idle bus begins a reception (R24);
and an attempt on the idle bus puts the first frame in queue order in flight with the octets it has then (R28, R38).
A frame sent leaves the queue (R27): the drop count returns to 0 and LINK_FAULT's cause ends; TX_DROPPED clears when
the frame carried it and nothing was dropped since (R30); the send of the live CLAIM starts the settle window of 200 ms
(R149), and only in CLAIMING (R162); the send of a GROUP_SYNC counts as a receipt when its group is an own one (R41). -/
def Obligations.BusEventsAndSend : Prop :=
  (∀ s : State, s.held = false → s.link.attempt = none →
     exec .busIdle s = .next (updateLeak { s with link := { s.link with bus := .idle, rx := .empty } }) ∧
     (s.link.bus = .idle →
       exec .firstStartBit s = .next (updateLeak { s with link := { s.link with bus := .receiving, rx := .filling } })) ∧
     (∀ q qs, s.link.bus = .idle → s.link.queue = q :: qs →
       exec .txAttemptStart s = .next (updateLeak { s with link := { s.link with
         queue := { q with inFlight := true } :: qs, bus := .sending,
         attempt := some { octets := frameOctets s q.frame,
                           carriesTxDropped := q.frame.isBayState && s.link.txDropped, droppedSince := false } } }))) ∧
  (∀ (a : Attempt) (q : QFrame) (before after : List QFrame) (s : State), s.held = false →
     s.link.attempt = some a → s.link.queue = before ++ q :: after → q.inFlight = true →
     (∀ x ∈ before, x.inFlight = false) →
     let sent : Link := { s.link with
       queue := before ++ after, attempt := none, bus := .busy, dropCount := 0,
       txDropped := s.link.txDropped && !(a.carriesTxDropped && !a.droppedSince) }
     (hasAlarm s.sup.active .linkFault = false →
       (q.liveClaim = false → (∀ g, q.frame ≠ .groupSync g) →
         exec .frameSent s = .next (updateLeak { s with link := sent })) ∧
       (q.liveClaim = true → (∀ g, q.frame ≠ .groupSync g) → s.draw.state = .claiming → s.draw.settleWindow = none →
         exec .frameSent s = .next (updateLeak
           { s with link := sent, draw := { s.draw with settleWindow := some 20 } })) ∧
       (q.liveClaim = true → (∀ g, q.frame ≠ .groupSync g) → s.draw.state ≠ .claiming →
         exec .frameSent s = .next (updateLeak { s with link := sent })) ∧
       (∀ g, q.liveClaim = false → q.frame = .groupSync g → inGroupSet s g = false →
         exec .frameSent s = .next (updateLeak { s with link := sent })) ∧
       (∀ g, q.liveClaim = false → q.frame = .groupSync g → inGroupSet s g = true →
         exec .frameSent s = .next (updateLeak (groupSyncAccepted g { s with link := sent })))) ∧
     (hasAlarm s.sup.active .linkFault = true → q.liveClaim = false → (∀ g, q.frame ≠ .groupSync g) →
       exec .frameSent s = .next (updateLeak (queueFrame (.alarm .linkFault false 0#4)
         { s with link := sent, sup := { s.sup with active := withoutAlarm s.sup.active .linkFault } }))))

/-- Lost arbitration, a recessive bit of the arbitration field read dominant, leaves the frame queued with its attempt
count (R25); that the recessive place 9, the stop bit between the field's two octets, counts among them is the model's choice
(notes/assumptions/23.md); a bit error, any other bit read differently, adds one to it below the fourth (R26); either way the station
goes on as a receiver. A fourth failure drops the frame, and the drop that brings the count to 3 raises LINK_FAULT
(R27). A dropped CLAIM whose window has not begun puts the coordinator back in WAITING, examined at once: it claims afresh
where the permission still holds (R149), which CoordinatorTimerEnds spells out. -/
def Obligations.AttemptsFail : Prop :=
  ∀ (a : Attempt) (q : QFrame) (before after : List QFrame) (bit : Nat) (s : State), s.held = false →
    s.link.attempt = some a → s.link.queue = before ++ q :: after → q.inFlight = true →
    (∀ x ∈ before ++ after, x.inFlight = false) →
    (bit < 15 → (wireBits a.octets)[bit]? = some true →
      exec (.arbitrationLost bit) s = .next (updateLeak { s with link := { s.link with
        queue := before ++ { q with inFlight := false } :: after, attempt := none, bus := .receiving,
        rx := .filling } })) ∧
    (isBitError a.octets bit = true → q.attempts < 3 →
      exec (.bitError bit) s = .next (updateLeak { s with link := { s.link with
        queue := before ++ { q with inFlight := false, attempts := q.attempts + 1 } :: after, attempt := none,
        bus := .receiving, rx := .filling } })) ∧
    (isBitError a.octets bit = true → 3 ≤ q.attempts → q.liveClaim = false →
      (s.link.dropCount ≠ 2 →
        exec (.bitError bit) s = .next (updateLeak { s with link := { s.link with
          queue := before ++ after, attempt := none, bus := .receiving, rx := .filling,
          dropCount := min 3 (s.link.dropCount + 1) } })) ∧
      (s.link.dropCount = 2 →
        ∃ t, exec (.bitError bit) s = .next t ∧ hasAlarm t.sup.active .linkFault = true ∧ t.link.dropCount = 3 ∧
          t.link.attempt = none ∧ t.link.bus = .receiving ∧ t.draw = s.draw ∧ t.disp = s.disp ∧ t.seq = s.seq ∧
          t.temp = s.temp ∧ t.cool = s.cool ∧ t.view = s.view)) ∧
    (isBitError a.octets bit = true → 3 ≤ q.attempts → q.liveClaim = true → s.draw.state = .claiming →
      s.draw.settleWindow = none → s.link.dropCount ≠ 2 →
      let dropped : Link := { s.link with
        queue := before ++ after, attempt := none, bus := .receiving, rx := .filling,
        dropCount := min 3 (s.link.dropCount + 1) }
      let examined (st : DrawState) : Draw :=
        { s.draw with state := st, limit := s.setup.drawLimit, settleWindow := none, keepTimer := none, keepCount := 0,
                      backoffTimer := none, backoffElapsed := 0, rise := [] }
      (mayClaim s = false →
        exec (.bitError bit) s = .next (updateLeak { s with link := dropped, draw := examined .waiting })) ∧
      (mayClaim s = true → s.link.silent = false → (before ++ after).length < 6 →
        ∃ t, exec (.bitError bit) s = .next t ∧ t.draw = { examined .claiming with claimUrgency := s.draw.urgency } ∧
          (∃ x ∈ t.link.queue, x.frame = .draw .claim s.draw.urgency s.draw.supplyWeak ∧ x.liveClaim = true ∧
            x.attempts = 0) ∧
          t.link.dropCount = min 3 (s.link.dropCount + 1) ∧ t.link.bus = .receiving ∧ t.disp = s.disp ∧
          t.seq = s.seq ∧ t.sup = s.sup ∧ t.temp = s.temp ∧ t.cool = s.cool ∧ t.view = s.view))

/-- A frame whose source is the own station number puts the station in SILENT (R40): the queue emptied (R31), DUPLICATE
raised, the coordinator LOCKED (R160), whether it comes as a frame of its class or as octets judged good (R198); in SILENT
it has no further effect. -/
def Obligations.DuplicateSilencesTheStation : Prop :=
  ∀ (c : Instr) (s : State), s.held = false → canReceive s = true →
    ((∃ h, FromTwin h s ∧ Received h c) ∨
      ∃ os w p, c = .frameDiscarded (.octets os) ∧ readFrame os = .good w p ∧ w.src ≠ 0 ∧
        w.src = s.ident.number) →
    (s.link.silent = false →
      ∃ t, exec c s = .next t ∧ t.link.silent = true ∧ t.link.queue = [] ∧ t.link.attempt = none ∧
        hasAlarm t.sup.active .duplicate = true ∧ t.draw.causes.silent = true ∧ t.draw.state = .locked ∧
        t.view = s.view ∧ t.disp = s.disp ∧ t.seq = s.seq ∧ t.temp = s.temp ∧ t.cool = s.cool ∧ t.setup = s.setup ∧
        t.sampling = s.sampling ∧ t.drivers = s.drivers ∧ t.sup.station = s.sup.station) ∧
    (s.link.silent = true → exec c s = .next (updateLeak (endReception s)))

/-- A frame that is not accepted has no effect but the end of its reception (R33), and so has one that fails its length or
its CRC, a stop bit or a length field above 16 leaving the bus ignored until the next idle (R32). Of a frame's octets this
holds for a source 0, a destination kind of 3, a destination that is not the station's, a class absent from the table, an
ALARM and a RESULT (R33, R34, R198); octets that another row takes are not discarded, the model's reading of the row
(notes/assumptions/22.md).
An accepted frame of a class from peers is discarded, also as octets, where its length is not the class's or its
destination is of a kind that the class is not taken from: BAY_STATE, DRAW, COOL_CAP and POUR to a STATION or a GROUP,
GROUP_SYNC to a STATION or to ALL (R34); a DRAW of kind 3 and a POUR of kind 2 or above (R200); and a COMMAND of fewer than
two octets (R35).
That a frame's row has no effect without a reception is the model's (notes/assumptions/5.md, notes/assumptions/10.md).
A COMMAND to the own station (R35): argument octets of the wrong number give BAD_ARGUMENT with no effect but the activity
event, and a code that names no command UNKNOWN_COMMAND; the RESULT carries the code and the tag. In SILENT a COMMAND is
acted on and its RESULT discarded (R35, R40): a `withResult` is then the part that the command came to, here and in every
statement on a command, and the queue, which SILENT keeps empty (TransmitQueueKept), stays as it was. -/
def Obligations.FramesWithoutEffect : Prop :=
  ((∀ (h : Header) (c : Instr) (s : State), Unaccepted h s → Received h c →
     exec c s = .next (updateLeak (endReception s))) ∧
   ∀ s : State, s.held = false → canReceive s = true →
     exec (.frameDiscarded .stopBitDominant) s =
       .next (updateLeak { s with link := { s.link with bus := .ignoring, rx := .empty } }) ∧
     exec (.frameDiscarded .cutOff) s =
       .next (updateLeak { s with link := { s.link with bus := .idle, rx := .empty } }) ∧
     (∀ os, readFrame os = .tooLong → exec (.frameDiscarded (.octets os)) s =
       .next (updateLeak { s with link := { s.link with bus := .ignoring, rx := .empty } })) ∧
     (∀ os, readFrame os = .broken → exec (.frameDiscarded (.octets os)) s = .next (updateLeak (endReception s))) ∧
     (∀ os w p, readFrame os = .good w p →
       w.src = 0 ∨ (w.src ≠ s.ident.number ∧
         (w.destKind = 3 ∨ (∀ d, destOf w.destKind w.destNumber = some d → destAccepted s d = false) ∨ w.cls = 0 ∨
           9 ≤ w.cls ∨ w.cls = 1 ∨ w.cls = 7)) →
       exec (.frameDiscarded (.octets os)) s = .next (updateLeak (endReception s))) ∧
     (∀ os row, judge os s = .routed row → exec (.frameDiscarded (.octets os)) s = .next (updateLeak s))) ∧
  (let untaken (k : FrameClass) (d : Dest) (p : List Byte) : Prop :=
     (k = .bayState ∧ (d ≠ .all ∨ p.length ≠ 16)) ∨
     (k = .draw ∧ (d ≠ .all ∨ p.length ≠ 1 ∨ ∃ o, p.head? = some o ∧ 192 ≤ o.toNat)) ∨
     (k = .coolCap ∧ (d ≠ .all ∨ p.length ≠ 2)) ∨
     (k = .pour ∧ (d ≠ .all ∨ p.length ≠ 8 ∨ ∃ o, p.head? = some o ∧ 2 ≤ o.toNat)) ∨
     (k = .groupSync ∧ ((∀ g, d ≠ .group g) ∨ p ≠ [])) ∨ (k = .command ∧ p.length < 2)
   (∀ (h : Header) (p : List Byte) (s : State), Accepts h s →
      let discards (c : Instr) : Prop := exec c s = .next (updateLeak (endReception s))
      (untaken .bayState h.dest p → discards (.receiveBayState h p)) ∧
      (untaken .draw h.dest p → discards (.receiveDraw h p)) ∧
      (untaken .coolCap h.dest p → discards (.receiveCoolCap h p)) ∧
      (untaken .pour h.dest p → discards (.receivePour h p)) ∧
      (untaken .groupSync h.dest p → discards (.receiveGroupSync h p))) ∧
   ∀ (k : FrameClass) (d : Dest) (os : List Byte) (w : WireHeader) (p : List Byte) (s : State), s.held = false →
     canReceive s = true → readFrame os = .good w p → w.src ≠ s.ident.number → w.cls = k.number →
     destOf w.destKind w.destNumber = some d → untaken k d p →
     exec (.frameDiscarded (.octets os)) s = .next (updateLeak (endReception s))) ∧
  (∀ (h : Header) (c : Instr) (s : State), s.held = false → s.link.bus ≠ .receiving →
     Received h c ∨ (∃ rx, c = .frameDiscarded rx) → exec c s = .next (updateLeak s)) ∧
  (∀ (h : Header) (tag : Byte) (args : List Byte) (s : State), Addressed h s →
     (∀ n : CommandName, args.length ≠ n.argLength →
       exec (n.row h tag args) s = .next (withResult h n.code tag .badArgument [] (atDispatch s))) ∧
     ∀ code : Byte, namesCommand code = false →
       exec (.unknownCommand h code tag args) s = .next (withResult h code tag .unknownCommand [] (atDispatch s))) ∧
  (∀ (h : Header) (code tag : Byte) (outcome : ResultCode) (data : List Byte) (t : State), t.link.silent = true →
     withResult h code tag outcome data t = updateLeak t) ∧
  (∀ (h : Header) (tag : Byte) (args : List Byte) (s : State), Addressed h s → LinkOk s.link → s.link.silent = true →
     (∀ n : CommandName, n ≠ .restart →
       ∃ t, exec (n.row h tag args) s = .next t ∧ t.link = { s.link with bus := .busy, rx := .empty }) ∧
     ∀ code : Byte, namesCommand code = false →
       exec (.unknownCommand h code tag args) s = .next (updateLeak (atDispatch s)))

/-- Accepted frames to ALL fill the peer view under their source (R42): a BAY_STATE the bay part (R43, R44), a DRAW the
draw part (R45), a COOL_CAP the chiller part (R47); a POUR sets or clears the pouring flag, a START being activity event
PEER_POUR (R49). The coordinator follows neither COOL_CAP nor POUR; outside WAITING it does nothing at a BAY_STATE, nor at
a DRAW but at a PRIORITY CLAIM while it draws (YieldToPriority). In WAITING an accepted BAY_STATE or DRAW is an examination
with the view so filled (R34, R53, R148): without the permission, which CoordinatorTimerEnds spells out, it goes on waiting,
and with it a claim is made at the present urgency where the queue has room (R149).
A part of a peer's entry whose lifetime has run out becomes absent, one that still runs stays, and every other part
and entry stays as it was (R46, R47, R50).
READ_VIEW answers with the entry as it stands and changes nothing, and a station outside 1 to 15 gives BAD_ARGUMENT (R54):
an entry whose part is at the end of its lifetime is still read as present (notes/assumptions/14.md), and `viewOctets` sends
0 in the urgency bit of a draw part in NONE (the model's choice, notes/assumptions/33.md). -/
def Obligations.PeersFillTheView : Prop :=
  (∀ (h : Header) (s : State), Accepts h s → h.dest = .all →
     let filled (view : PeerView) (c : Instr) : Prop :=
       let s' := { endReception s with view := view }
       let examined (st : DrawState) : Draw :=
         { s.draw with state := st, limit := s.setup.drawLimit, settleWindow := none, keepTimer := none, keepCount := 0,
                       backoffTimer := none, backoffElapsed := 0, rise := [] }
       (s.draw.state ≠ .waiting → exec c s = .next (updateLeak s')) ∧
       (s.draw.state = .waiting → mayClaim s' = false →
         exec c s = .next (updateLeak { s' with draw := { s.draw with limit := s.setup.drawLimit } })) ∧
       (s.draw.state = .waiting → mayClaim s' = true → s.link.silent = false → s.link.queue.length < 6 →
         ∃ t, exec c s = .next t ∧ t.draw = { examined .claiming with claimUrgency := s.draw.urgency } ∧
           (∃ q ∈ t.link.queue, q.frame = .draw .claim s.draw.urgency s.draw.supplyWeak ∧ q.liveClaim = true) ∧
           t.view = view ∧ t.disp = s.disp ∧ t.temp = s.temp ∧ t.cool = s.cool ∧ t.seq = s.seq ∧ t.sup = s.sup ∧
           t.setup = s.setup ∧ t.sampling = s.sampling ∧ t.time = s.time ∧ t.drivers = s.drivers)
     (∀ o0 o1 o2 o3 o4 o5 o6 o7 o8 o9 o10 o11 o12 o13 o14 o15 : Byte,
       filled (s.view.fillBay h.src
           { profile := profileOf (o0.toNat / 64), mode := gasModeOf (o0.toNat / 16 % 4), demand := o10.toNat,
             weight := o1.toNat / 4 % 4 + 1, interval := o2.toNat, supplyWeak := o11.getLsbD 3,
             gasLocked := o11.getLsbD 2, pouring := o11.getLsbD 1,
             left := if o2 = 0#8 then 1700 else if 60 < o2.toNat then 18200 else 300 * o2.toNat + 200 })
         (.receiveBayState h [o0, o1, o2, o3, o4, o5, o6, o7, o8, o9, o10, o11, o12, o13, o14, o15])) ∧
     (∀ (u : Urgency) (weak : Bool) (o : Byte), o.getLsbD 4 = weak → (if o.getLsbD 5 then .priority else .routine) = u →
       (o.toNat / 64 = 0 → u = .routine ∨ s.draw.state ≠ .drawing →
         filled (s.view.fillDraw h.src { draw := .claiming u, supplyWeak := weak, left := 100 }) (.receiveDraw h [o])) ∧
       (o.toNat / 64 = 1 →
         filled (s.view.fillDraw h.src { draw := .drawing u, supplyWeak := weak, left := 300 }) (.receiveDraw h [o])) ∧
       (o.toNat / 64 = 2 →
         filled (s.view.fillDraw h.src { draw := .notDrawing, supplyWeak := weak, left := 300 }) (.receiveDraw h [o])) ∧
       (o.toNat / 64 = 3 → exec (.receiveDraw h [o]) s = .next (updateLeak (endReception s)))) ∧
     (∀ hi lo : Byte, exec (.receiveCoolCap h [hi, lo]) s = .next (updateLeak { endReception s with
       view := (s.view.fillChiller h.src
         { capacity := min 2000 ((hi.toNat * 256 + lo.toNat) % 2048), saturated := hi.getLsbD 7, left := 1000 }) })) ∧
     (∀ o1 o2 o3 o4 o5 o6 o7 : Byte,
       exec (.receivePour h [0#8, o1, o2, o3, o4, o5, o6, o7]) s =
         .next (updateLeak (activityEvent .peerPour { endReception s with view := s.view.setPouring h.src true })) ∧
       exec (.receivePour h [1#8, o1, o2, o3, o4, o5, o6, o7]) s =
         .next (updateLeak { endReception s with view := s.view.setPouring h.src false }))) ∧
  (∀ (n : Nat) (s : State), s.held = false → s.view.entries.length = 15 → 1 ≤ n → n ≤ 15 →
     let e := s.view.entry n
     (∃ t, exec (.peerPartExpiry n .bay) s = .next t ∧
       t.view.entry n = { e with bay := e.bay.filter (0 < ·.left) } ∧ t.view.chillers = s.view.chillers ∧
       (∀ m, 1 ≤ m → m ≠ n → t.view.entry m = s.view.entry m) ∧ t.draw = s.draw ∧ t.cool = s.cool ∧ t.link = s.link) ∧
     (∃ t, exec (.peerPartExpiry n .draw) s = .next t ∧
       t.view.entry n = { e with draw := e.draw.filter (0 < ·.left) } ∧ t.view.chillers = s.view.chillers ∧
       (∀ m, 1 ≤ m → m ≠ n → t.view.entry m = s.view.entry m) ∧ t.draw = s.draw ∧ t.cool = s.cool ∧ t.link = s.link) ∧
     (∃ t, exec (.peerPartExpiry n .chiller) s = .next t ∧
       t.view.entry n = { e with chiller := e.chiller.filter (0 < ·.left) } ∧
       (ViewInv s → t.view.chillers = s.view.chillers.filter fun m => decide (m ≠ n) || (t.view.entry n).chiller.isSome) ∧
       (∀ m, 1 ≤ m → m ≠ n → t.view.entry m = s.view.entry m) ∧ t.draw = s.draw ∧ t.cool = s.cool ∧ t.link = s.link)) ∧
  (∀ (h : Header) (tag x : Byte) (s : State), Addressed h s →
     (1 ≤ x.toNat → x.toNat ≤ 15 →
       exec (.readView h tag [x]) s =
         .next (withResult h 0x40#8 tag .done (viewOctets x.toNat (s.view.entry x.toNat)) (atDispatch s))) ∧
     (x.toNat < 1 ∨ 15 < x.toNat →
       exec (.readView h tag [x]) s = .next (withResult h 0x40#8 tag .badArgument [] (atDispatch s))))

/-- A ROUTINE drawer yields to an accepted PRIORITY CLAIM (R156) when, the CLAIM entered in the view, the drawers with
itself reach the draw limit and none of ROUTINE has a higher number: RELEASE and RECOVER. One whose tests fail goes on
drawing: below the limit, or with a ROUTINE drawer of a higher number in the view; and so does a drawer of PRIORITY. The
draw limit is the one that the draw's examination read (R148, R61; the model's inference, notes/assumptions/34.md). -/
def Obligations.YieldToPriority : Prop :=
  ∀ (h : Header) (o : Byte) (s : State), Accepts h s → h.dest = .all → s.draw.state = .drawing → o.toNat / 64 = 0 →
    o.getLsbD 5 = true →
    let view := s.view.fillDraw h.src { draw := .claiming .priority, supplyWeak := o.getLsbD 4, left := 100 }
    (s.draw.urgency = .routine → s.draw.limit ≤ view.drawers.length + 1 →
      (∀ d ∈ view.drawers, d.2 = .routine → d.1 ≤ s.ident.number) →
      exec (.receiveDraw h [o]) s = .next (updateLeak (queueFrame (.draw .release .routine s.draw.supplyWeak)
        { endReception s with view := view, draw := { s.draw with
          state := .recover, settleWindow := none, keepTimer := none, keepCount := 0, backoffTimer := some 100,
          backoffElapsed := 0, rise := [] } }))) ∧
    (s.draw.urgency = .priority ∨ view.drawers.length + 1 < s.draw.limit ∨
        (∃ d ∈ view.drawers, d.2 = .routine ∧ s.ident.number < d.1) →
      exec (.receiveDraw h [o]) s = .next (updateLeak { endReception s with view := view }))

/-- An accepted GROUP_SYNC (R34, R86): a pending switch on its group is taken (R81), and the current step's end is not
acted on; with no switch pending on it a RUNNING step WAITING on the group ends (R83); in every other case it has no effect on the profile. It is activity event GROUP_SYNC. -/
def Obligations.GroupSyncActs : Prop :=
  ∀ (h : Header) (g : Nat) (s : State), Accepts h s → h.dest = .group g →
    (∀ (start : Nat) (r : StepRecord), s.seq.pendingSwitch = some ⟨.groupSync g, start⟩ →
      s.seq.slot s.seq.staged start = some r → r.kind = .soak → 0 < r.duration →
      ∃ t, exec (.receiveGroupSync h []) s = .next t ∧
        t.seq = { s.seq with
          active := s.seq.staged, pendingSwitch := none, index := start, phase := some .soaking, count := 0,
          profile := if s.seq.profile = .paused then .paused else .running } ∧
        t.temp.accumulator = r.target * 65536 ∧ t.gas.buckets = [] ∧ t.gas.openBucket ≤ 1 ∧
        (t.gas.state ≠ .pulse → t.gas.openBucket = 0) ∧ t.cool = s.cool ∧
        t.view = s.view ∧ t.setup = s.setup ∧ t.sampling = s.sampling ∧ t.disp.level = s.disp.level) ∧
    (∀ r : StepRecord, s.seq.pendingSwitch = none → s.seq.profile = .running → s.seq.phase = some .waiting →
      s.seq.current = some r → r.endKind = .groupSync g → nextSlot s.seq = none →
      ∃ t, exec (.receiveGroupSync h []) s = .next t ∧ t.seq = { s.seq with profile := .ended } ∧ t.cool = s.cool ∧
        t.temp = s.temp ∧ t.disp = s.disp ∧ t.view = s.view ∧ t.setup = s.setup ∧ t.sampling = s.sampling) ∧
    (∀ r : StepRecord, (∀ start, s.seq.pendingSwitch ≠ some ⟨.groupSync g, start⟩) → s.seq.profile = .running →
      s.seq.phase = some .waiting → s.seq.current = some r → r.endKind = .groupSync g →
      ∃ t, exec (.receiveGroupSync h []) s = .next t ∧ StepEnded s t ∧ t.cool = s.cool ∧ t.view = s.view ∧
        t.setup = s.setup ∧ t.sampling = s.sampling) ∧
    ((∀ start, s.seq.pendingSwitch ≠ some ⟨.groupSync g, start⟩) →
      (s.seq.profile ≠ .running ∨ s.seq.phase ≠ some .waiting ∨
        ∀ r, s.seq.current = some r → r.endKind ≠ .groupSync g) →
      exec (.receiveGroupSync h []) s = .next (updateLeak (activityEvent .groupSync (endReception s))))

/-! ### COMMAND frames -/

/-- The six commands taken from a GROUP or ALL (R36), without RESULT and without activity event: PAUSE_PROFILE and
RESUME_PROFILE (R88, R89), QUIET and WAKE (R186), CLEAR_SUPPLY (R159), LEAVE_SAFE (R193), each with no effect where its
block would refuse it, but that a LEAVE_SAFE refused on the event of EXT_STOP's change is noted (notes/assumptions/8.md).
That at RESUME_PROFILE the gas regulator evaluates (`changeProfile`) before a waiting step's end is tested (`chain`), the
order inside `changeProfile`, and that its evaluation may move the regulation state, which R138 calls unchanged at both
commands, are the model's choices (notes/assumptions/31.md, notes/assumptions/7.md, notes/assumptions/32.md).
A COMMAND to a GROUP or to ALL (R36) gives no RESULT and no activity event: a command that is not taken so, a wrong
length and an unknown code have no effect at all. -/
def Obligations.GroupCommands : Prop :=
  (∀ (h : Header) (tag : Byte) (s : State), Accepts h s → (∀ n, h.dest ≠ .station n) →
     let s' := endReception s
     exec (.pauseProfile h tag []) s =
       .next (updateLeak (if s.seq.profile = .running then changeProfile .paused s' else s')) ∧
     exec (.resumeProfile h tag []) s =
       .next (updateLeak (if s.seq.profile = .paused then chain chainLimit (changeProfile .running s') else s')) ∧
     exec (.quiet h tag []) s =
       .next (updateLeak (if s.sup.station = .run ∧ s.sup.quiet = false then enterQuiet s' else s')) ∧
     exec (.wake h tag []) s =
       .next (updateLeak
         (if s.sup.station ≠ .run then s' else if s.sup.quiet then leaveQuiet s'
          else { s' with sup := { s.sup with idleCount := 0 } })) ∧
     exec (.clearSupply h tag []) s =
       .next (updateLeak (endAlarm .supplyWeak { s' with draw := { s.draw with supplyWeak := false } })) ∧
     exec (.leaveSafe h tag []) s =
       .next (updateLeak
         (if s.sup.station ≠ .safe then s'
          else if s.sampling.ext.active then
            { s' with sup := { s.sup with leaveSafeRefused := s.sampling.ext.undelivered } }
          else leaveSafeState s'))) ∧
  (∀ (h : Header) (tag : Byte) (args : List Byte) (s : State), Accepts h s → (∀ n, h.dest ≠ .station n) →
     (∀ n : CommandName, n.takenByGroup = false ∨ args.length ≠ n.argLength →
       exec (n.row h tag args) s = .next (updateLeak (endReception s))) ∧
     ∀ code : Byte, exec (.unknownCommand h code tag args) s = .next (updateLeak (endReception s)))

/-- SETUP_ITEM in SETUP (R59, R60): a value of a numeric item is stored brought into its range, DONE or DONE_CLAMPED, and a
set with no member outside the item's is stored, DONE, with the code and the value stored in the RESULT; a set that names a
member outside the item's, and a code of no item, give BAD_ARGUMENT. Outside SETUP REFUSED_STATE.
A SETUP_ITEM that changes the relief ceiling or the atmosphere computes the gas setpoint afresh, or, without a target or a
temperature to compute from, brings it beneath the ceiling at once (R128); one that changes the watch reference or the watch
set evaluates the watch (R16). That a write of the value already held sets nothing in motion, where R16 and R128 say
"writes", is the model's inference (notes/assumptions/17.md). -/
def Obligations.SetupItems : Prop :=
  (∀ (h : Header) (tag code hi lo : Byte) (s : State), Addressed h s →
     (s.sup.station ≠ .setup →
       exec (.setupItem h tag [code, hi, lo]) s = .next (withResult h 0x01#8 tag .refusedState [] (atDispatch s))) ∧
     (s.sup.station = .setup → 26 ≤ code.toNat →
       exec (.setupItem h tag [code, hi, lo]) s = .next (withResult h 0x01#8 tag .badArgument [] (atDispatch s))) ∧
     (∀ (item : ItemName) (a b : Int), s.sup.station = .setup → itemNames[code.toNat]? = some item →
       item.values = .range a b →
       let v := max a (min b (signed16 hi lo))
       item ≠ .atmosphere ∧ item ≠ .reliefCeiling ∨ s.setup.get item = v →
       exec (.setupItem h tag [code, hi, lo]) s =
         .next (withResult h 0x01#8 tag (if v = signed16 hi lo then .done else .doneClamped) (code :: be16 (twos 16 v))
           { atDispatch s with setup := if s.setup.get item = v then s.setup else s.setup.put v item })) ∧
     (∀ (item : ItemName) (n : Nat), s.sup.station = .setup → itemNames[code.toNat]? = some item →
       item.values = .members n →
       (signed16 hi lo < 0 ∨ (2 : Int) ^ n ≤ signed16 hi lo →
         exec (.setupItem h tag [code, hi, lo]) s = .next (withResult h 0x01#8 tag .badArgument [] (atDispatch s))) ∧
       (0 ≤ signed16 hi lo → signed16 hi lo < (2 : Int) ^ n →
         item ≠ .watchReference ∧ item ≠ .watchSet ∨ s.setup.get item = signed16 hi lo →
         exec (.setupItem h tag [code, hi, lo]) s =
           .next (withResult h 0x01#8 tag .done [code, hi, lo]
             { atDispatch s with setup := s.setup.put (signed16 hi lo) item }))) ∧
     (s.sup.station = .setup → code = 21#8 →
       let x := signed16 hi lo
       let v : Int := if x ≤ 0 then 0 else if x < 10 then 10 else if 240 < x then 240 else x
       exec (.setupItem h tag [21#8, hi, lo]) s =
         .next (withResult h 0x01#8 tag (if v = x then .done else .doneClamped) (21#8 :: be16 (twos 16 v))
           { atDispatch s with setup := { s.setup with idlePeriod := v.toNat } }))) ∧
  (∀ (h : Header) (tag hi lo : Byte) (s : State), Addressed h s → s.sup.station = .setup →
     let x := signed16 hi lo
     let code (v : Int) : ResultCode := if v = x then .done else .doneClamped
     let computes : Prop := handedTarget s ≠ none ∧ s.sampling.beer.filtered ≠ none
     (let v := max 1000 (min 3500 x)
      let s' := { atDispatch s with setup := { s.setup with reliefCeiling := v } }
      v ≠ s.setup.reliefCeiling →
      (computes → exec (.setupItem h tag [12#8, hi, lo]) s =
        .next (withResult h 0x01#8 tag (code v) (12#8 :: be16 (twos 16 v)) (computeSetpoint s'))) ∧
      (¬computes → exec (.setupItem h tag [12#8, hi, lo]) s =
        .next (withResult h 0x01#8 tag (code v) (12#8 :: be16 (twos 16 v)) { s' with gas := { s.gas with
          setpoint := max 50 (min (v - 200) s.gas.setpoint),
          limitedHigh := s.gas.limitedHigh || decide (v - 200 < s.gas.setpoint) } }))) ∧
     (let v := max 800 (min 1100 x)
      let s' := { atDispatch s with setup := { s.setup with atmosphere := v } }
      v ≠ s.setup.atmosphere →
      (computes → exec (.setupItem h tag [11#8, hi, lo]) s =
        .next (withResult h 0x01#8 tag (code v) (11#8 :: be16 (twos 16 v)) (computeSetpoint s'))) ∧
      (¬computes → 50 ≤ s.gas.setpoint → s.gas.setpoint ≤ s.setup.reliefCeiling - 200 →
        exec (.setupItem h tag [11#8, hi, lo]) s =
          .next (withResult h 0x01#8 tag (code v) (11#8 :: be16 (twos 16 v)) s'))) ∧
     (∀ item : Byte, item = 24#8 ∨ item = 25#8 → s.sampling.levelsTaken = true → hi = 0#8 → lo.toNat < 16 →
       let set := lo.setWidth 4
       let setup := if item = 24#8 then { s.setup with watchReference := set } else { s.setup with watchSet := set }
       setup ≠ s.setup →
       ∃ w, (w.sampling.watch = .tripped ↔ watchMismatch w = true) ∧
         exec (.setupItem h tag [item, hi, lo]) s = .next (withResult h 0x01#8 tag .done [item, hi, lo] w) ∧
         w.setup = setup ∧ w.sampling = { s.sampling with watch := w.sampling.watch } ∧
         (∀ a : Alarm, a ≠ .watch →
           hasAlarm w.sup.active a = hasAlarm s.sup.active a ∧ hasAlarm w.sup.latched a = hasAlarm s.sup.latched a) ∧
         w.sup.station = .setup ∧ w.gas = s.gas ∧ w.draw = s.draw ∧ w.disp = s.disp ∧ w.seq = s.seq ∧
         w.temp = s.temp ∧ w.cool = s.cool ∧ w.drivers = s.drivers))

/-- START in SETUP (R62): with the serve floor at or above the relief ceiling less 200 BAD_ARGUMENT and no effect; else
RUN, every output in FUNCTION, a forced INLET's need ended, the setpoint computed (R63), on into SAFE with EXT_STOP active
(R64). Outside SETUP REFUSED_STATE. -/
def Obligations.Start : Prop :=
  ∀ (h : Header) (tag : Byte) (s : State), Addressed h s →
    (s.sup.station ≠ .setup →
      exec (.start h tag []) s = .next (withResult h 0x02#8 tag .refusedState [] (atDispatch s))) ∧
    (s.sup.station = .setup → s.setup.reliefCeiling - 200 ≤ s.setup.serveFloor →
      exec (.start h tag []) s = .next (withResult h 0x02#8 tag .badArgument [] (atDispatch s))) ∧
    (s.sup.station = .setup → s.setup.serveFloor < s.setup.reliefCeiling - 200 →
      ∃ t, exec (.start h tag []) s = .next t ∧
        t.sup.station = (if s.sampling.ext.active then .safe else .run) ∧ t.drivers = {} ∧
        (s.sampling.ext.active = false → t.sup.idleCount = 0) ∧
        (s.drivers.inlet = .forcedOn → s.gas.state ≠ .topping → t.gas.state ≠ .topping → t.draw.need = false) ∧
        t.gas.setpoint = (computeSetpoint s).gas.setpoint ∧ t.gas.limitedLow = (computeSetpoint s).gas.limitedLow ∧
        t.gas.limitedHigh = (computeSetpoint s).gas.limitedHigh ∧ t.setup = s.setup ∧ t.seq = s.seq ∧ t.view = s.view ∧
        t.sampling = s.sampling ∧ t.time = s.time ∧ t.disp.level = s.disp.level ∧ t.disp.log = s.disp.log)

/-- FORCE_OUTPUT in SETUP (R21): off forces any output off; on forces the output on and its partner off; TAP on, HEATER on
without a heater, a sixth output and a third value give BAD_ARGUMENT, and INLET on in RELIEF or SENSOR_VENT REFUSED_STATE,
as outside SETUP. A forced INLET presents its need (R22, R146). INLET off and VENT on take INLET out of FORCED_ON, and its
need ends: a claim or a draw is released, a wait, a backoff or a recovery ends, and LOCKED stays (R22, R146); INLET on again
presents nothing new. -/
def Obligations.ForceOutput : Prop :=
  ∀ (h : Header) (tag : Byte) (s : State), Addressed h s →
    let refused (out value : Byte) (code : ResultCode) : Prop :=
      exec (.forceOutput h tag [out, value]) s = .next (withResult h 0x04#8 tag code [] (atDispatch s))
    let forces (out value : Byte) (x : Drivers) : Prop :=
      exec (.forceOutput h tag [out, value]) s =
        .next (withResult h 0x04#8 tag .done [] { atDispatch s with drivers := x })
    (∀ out value, s.sup.station ≠ .setup → refused out value .refusedState) ∧
    (s.sup.station = .setup →
      (∀ out value, 5 ≤ out.toNat → refused out value .badArgument) ∧
      (∀ out value, out.toNat < 5 → 2 ≤ value.toNat → refused out value .badArgument) ∧
      refused 2#8 1#8 .badArgument ∧ (s.ident.heaterFitted = false → refused 4#8 1#8 .badArgument) ∧
      (safetyVent s = true → refused 0#8 1#8 .refusedState) ∧
      forces 1#8 0#8 { s.drivers with vent := .forcedOff } ∧ forces 2#8 0#8 { s.drivers with tap := .forcedOff } ∧
      forces 3#8 0#8 { s.drivers with glycol := .forcedOff } ∧ forces 4#8 0#8 { s.drivers with heater := .forcedOff } ∧
      forces 3#8 1#8 { s.drivers with glycol := .forcedOn, heater := .forcedOff } ∧
      (s.ident.heaterFitted = true → forces 4#8 1#8 { s.drivers with heater := .forcedOn, glycol := .forcedOff }) ∧
      (∀ (out value : Byte) (x : Drivers),
        (out = 0#8 ∧ value = 0#8 ∧ x = { s.drivers with inlet := .forcedOff }) ∨
          (out = 1#8 ∧ value = 1#8 ∧ x = { s.drivers with vent := .forcedOn, inlet := .forcedOff }) →
        let noNeed (st : DrawState) : Draw :=
          { s.draw with state := st, need := false, settleWindow := none, keepTimer := none, keepCount := 0,
                        backoffTimer := none, backoffElapsed := 0, rise := [] }
        (s.drivers.inlet ≠ .forcedOn ∨ s.draw.need = false → forces out value x) ∧
        (s.drivers.inlet = .forcedOn → s.draw.need = true →
          (s.draw.state = .claiming ∨ s.draw.state = .drawing →
            exec (.forceOutput h tag [out, value]) s = .next (withResult h 0x04#8 tag .done []
              (queueFrame (.draw .release s.draw.urgency s.draw.supplyWeak)
                { atDispatch s with drivers := x, draw := noNeed .idle }))) ∧
          (s.draw.state = .waiting ∨ s.draw.state = .backoff ∨ s.draw.state = .recover →
            exec (.forceOutput h tag [out, value]) s = .next (withResult h 0x04#8 tag .done []
              { atDispatch s with drivers := x, draw := noNeed .idle })) ∧
          (s.draw.state = .idle ∨ s.draw.state = .locked →
            exec (.forceOutput h tag [out, value]) s = .next (withResult h 0x04#8 tag .done []
              { atDispatch s with drivers := x, draw := { s.draw with need := false } })))) ∧
      (s.drivers.inlet = .forcedOn → safetyVent s = false →
        forces 0#8 1#8 { s.drivers with vent := .forcedOff }) ∧
      (safetyVent s = false →
        ∃ t, exec (.forceOutput h tag [0#8, 1#8]) s = .next t ∧
          t.drivers = { s.drivers with inlet := .forcedOn, vent := .forcedOff } ∧
          (s.drivers.inlet ≠ .forcedOn → t.draw.need = true) ∧ t.gas.state = s.gas.state ∧ t.disp = s.disp ∧
          t.setup = s.setup ∧ t.seq = s.seq))

/-- WRITE_STEP (R71): an index above 11 BAD_ARGUMENT, a pending switch BUSY, then a record of kind 0, EMPTY whatever its other
octets hold (R202), and a legal record's octets are stored in the staged bank alone, DONE; a RAMP of rate 0 and an ACTIVITY_LOW outside SPUND give BAD_ARGUMENT; any
other record is stored with each field brought into its range, DONE_CLAMPED where one was outside, and fields that its kind,
end or gas mode does not carry absent.
SWITCH_BANK (R80): a source of no name, a start step above 11 or EMPTY in the staged bank, a group outside 1 to 4 give
BAD_ARGUMENT; NONE discards a pending switch; STEP_END in RUNNING and PAUSED, and GROUP_SYNC in every profile state, are
held pending, DONE_REPLACED over another (R82). -/
def Obligations.BankCommands : Prop :=
  (∀ (h : Header) (tag index : Byte) (record : List Byte) (s : State), Addressed h s → record.length = 12 →
     (11 < index.toNat →
       exec (.writeStep h tag (index :: record)) s = .next (withResult h 0x10#8 tag .badArgument [] (atDispatch s))) ∧
     (index.toNat ≤ 11 → s.seq.pendingSwitch.isSome = true →
       exec (.writeStep h tag (index :: record)) s = .next (withResult h 0x10#8 tag .busy [] (atDispatch s))) ∧
     (index.toNat ≤ 11 → s.seq.pendingSwitch = none →
       (∀ r : Option StepRecord, (∀ x, r = some x → x.Legal) →
         exec (.writeStep h tag (index :: stepOctets r)) s = .next (withResult h 0x10#8 tag .done []
           { atDispatch s with seq :=
               if s.seq.active = .a then { s.seq with bankB := s.seq.bankB.set index.toNat r }
               else { s.seq with bankA := s.seq.bankA.set index.toNat r } })) ∧
       (record.head?.map (fun o => o.toNat / 64) = some 0 →
         exec (.writeStep h tag (index :: record)) s = .next (withResult h 0x10#8 tag .done []
           { atDispatch s with seq :=
               if s.seq.active = .a then { s.seq with bankB := s.seq.bankB.set index.toNat none }
               else { s.seq with bankA := s.seq.bankA.set index.toNat none } })) ∧
       (∀ x : RawStep, rawStep record = some x →
         x.undefinedField = true ∨ (x.kind = 2 ∧ x.rate = 0) ∨ (x.ending = 1 ∧ x.mode ≠ 1) → x.kind ≠ 0 →
         exec (.writeStep h tag (index :: record)) s =
           .next (withResult h 0x10#8 tag .badArgument [] (atDispatch s))) ∧
       (∀ x : RawStep, rawStep record = some x → x.undefinedField = false → x.kind ≠ 0 →
         (x.kind = 2 → x.rate ≠ 0) → (x.ending = 1 → x.mode = 1) →
         let target := max (-64) (min 512 x.target)
         let rate := max 1 (min 1024 x.rate)
         let duration := min 999 x.duration
         let hours := max 1 (min 8 x.p7)
         let volumes := max 100 (min 400 x.carbonation)
         let weight := max 1 (min 4 x.weight)
         let r : StepRecord :=
           { kind := if x.kind = 1 then .soak else .ramp rate, target := target, duration := duration,
             endKind := if x.ending = 0 then .time else if x.ending = 1 then .activityLow hours x.p8
               else if x.ending = 2 then .groupSync x.p7 else if x.ending = 3 then .panel else .stay,
             gas := if x.mode = 0 then .openKeg else if x.mode = 1 then .spund volumes
               else if x.mode = 2 then .carbonate volumes else .serve volumes,
             weight := weight, syncOut := if x.sync = 0 then none else some x.sync }
         let kept : Prop :=
           target = x.target ∧ duration = x.duration ∧ weight = x.weight ∧ (x.kind = 2 → rate = x.rate) ∧
             (x.ending = 1 → hours = x.p7) ∧ (x.mode ≠ 0 → volumes = x.carbonation)
         let stored : State := { atDispatch s with seq :=
           if s.seq.active = .a then { s.seq with bankB := s.seq.bankB.set index.toNat (some r) }
           else { s.seq with bankA := s.seq.bankA.set index.toNat (some r) } }
         (kept → exec (.writeStep h tag (index :: record)) s = .next (withResult h 0x10#8 tag .done [] stored)) ∧
         (¬kept →
           exec (.writeStep h tag (index :: record)) s = .next (withResult h 0x10#8 tag .doneClamped [] stored))))) ∧
  (∀ (h : Header) (tag source start group : Byte) (s : State), Addressed h s →
     (3 < source.toNat ∨
         (source ≠ 0#8 ∧ (11 < start.toNat ∨ s.seq.slot s.seq.staged start.toNat = none ∨
           (source = 3#8 ∧ (group.toNat < 1 ∨ 4 < group.toNat)))) →
       exec (.switchBank h tag [source, start, group]) s =
         .next (withResult h 0x12#8 tag .badArgument [] (atDispatch s))) ∧
     exec (.switchBank h tag [0#8, start, group]) s =
       .next (withResult h 0x12#8 tag .done [] { atDispatch s with seq := { s.seq with pendingSwitch := none } }) ∧
     (start.toNat ≤ 11 → s.seq.slot s.seq.staged start.toNat ≠ none →
       (s.seq.profile = .running ∨ s.seq.profile = .paused →
         exec (.switchBank h tag [2#8, start, group]) s =
           .next (withResult h 0x12#8 tag (if s.seq.pendingSwitch = none then .done else .doneReplaced) []
             { atDispatch s with seq := { s.seq with pendingSwitch := some ⟨.stepEnd, start.toNat⟩ } })) ∧
       (1 ≤ group.toNat → group.toNat ≤ 4 →
         exec (.switchBank h tag [3#8, start, group]) s =
           .next (withResult h 0x12#8 tag (if s.seq.pendingSwitch = none then .done else .doneReplaced) []
             { atDispatch s with
               seq := { s.seq with pendingSwitch := some ⟨.groupSync group.toNat, start.toNat⟩ } }))))

/-- READ_STEP and READ_POUR answer with what the bank and the log hold and change nothing (R72, R178, R203); a bank or an
index or an offset that does not exist gives BAD_ARGUMENT. READ_VIEW: PeersFillTheView. -/
def Obligations.ReadingsChangeNothing : Prop :=
  ∀ (h : Header) (tag x y : Byte) (s : State), Addressed h s →
    (x.toNat < 2 → y.toNat ≤ 11 →
      exec (.readStep h tag [x, y]) s = .next (withResult h 0x11#8 tag .done
        (byte (x.toNat * 128 + (if (if x = 0#8 then Bank.a else .b) = s.seq.active then 64 else 0) + y.toNat) ::
          stepOctets (s.seq.slot (if x = 0#8 then .a else .b) y.toNat)) (atDispatch s))) ∧
    (2 ≤ x.toNat ∨ 11 < y.toNat →
      exec (.readStep h tag [x, y]) s = .next (withResult h 0x11#8 tag .badArgument [] (atDispatch s))) ∧
    (∀ r, s.disp.log[x.toNat % 128]? = some r →
      exec (.readPour h tag [x]) s = .next (withResult h 0x32#8 tag .done
        (if 128 ≤ x.toNat then pourPart1 r else pourPart0 s.disp r) (atDispatch s))) ∧
    (s.disp.log.length ≤ x.toNat % 128 →
      exec (.readPour h tag [x]) s = .next (withResult h 0x32#8 tag .badArgument [] (atDispatch s)))

/-- A switch taken at once, by IMMEDIATE or, in IDLE and ENDED, by STEP_END (R82), and a step ended by ADVANCE (R83, R87), by a
pending STEP_END switch, the next slot or ENDED: the step start's index and phase
(R77), the setpoint accumulator by the new step's kind (R94), the activity ring cleared (R141), the profile state kept in
PAUSED and else RUNNING (R81). The gas setpoint is computed from the new step's carbonation target (R77, R128), and stands
without one or without a temperature. The sync-out GROUP_SYNC is queued (R79). Here the new step does not end at its own
start. -/
def Obligations.StepStarts : Prop :=
  ∀ (h : Header) (tag start group : Byte) (r : StepRecord) (s : State), Addressed h s → 0 < r.duration →
    (∀ source : Byte, source = 1#8 ∨ (source = 2#8 ∧ (s.seq.profile = .idle ∨ s.seq.profile = .ended)) →
      start.toNat ≤ 11 → s.seq.slot s.seq.staged start.toNat = some r →
      ∃ t, exec (.switchBank h tag [source, start, group]) s = .next t ∧ StepStarted r s t ∧ t.seq.active = s.seq.staged ∧
        t.seq.pendingSwitch = none ∧ t.seq.index = start.toNat ∧
        t.seq.profile = (if s.seq.profile = .paused then .paused else .running)) ∧
    (s.seq.profile = .running ∨ s.seq.profile = .paused →
      ∃ t, exec (.advance h tag []) s = .next t ∧ StepEnded s t)

/-- ADVANCE with no next step makes the profile ENDED (R83); PAUSE_PROFILE in RUNNING and RESUME_PROFILE in PAUSED change
the profile state (R88, R89), the step, its phase, its count and its setpoint as they stood; in the other profile states
REFUSED_STATE (R87 to R89). At a RESUME_PROFILE in WAITING the end is tested at once (R89): one that is met, a TIME end or in
RUN an ACTIVITY_LOW with its low buckets (R85), ends the step (R83); that the gas regulator evaluates before that test is
the model's choice (notes/assumptions/31.md).
STOP_PROFILE (R90): IDLE at index 0 with no phase, no count and no pending switch; the window withdrawn (R106), a pour
in FLOWING ended, the banks, the setpoint accumulator and the gas setpoint as they stood; TOPPING, PULSE, SETTLE and
VENT_OPEN left (R138). -/
def Obligations.ProfileCommands : Prop :=
  (∀ (h : Header) (tag : Byte) (s : State), Addressed h s →
     let becomes (c : Instr) (p : ProfileState) : Prop :=
       ∃ t, exec c s = .next t ∧ t.seq = { s.seq with profile := p } ∧ t.temp = s.temp ∧ t.cool = s.cool ∧
         t.disp = s.disp ∧ t.view = s.view ∧ t.setup = s.setup ∧ t.sampling = s.sampling ∧
         t.gas.setpoint = s.gas.setpoint ∧ t.gas.buckets = s.gas.buckets ∧ t.sup.station = s.sup.station
     (s.seq.profile = .running ∨ s.seq.profile = .paused → (∀ n, s.seq.pendingSwitch ≠ some ⟨.stepEnd, n⟩) →
       nextSlot s.seq = none → becomes (.advance h tag []) .ended) ∧
     (s.seq.profile = .idle ∨ s.seq.profile = .ended →
       exec (.advance h tag []) s = .next (withResult h 0x13#8 tag .refusedState [] (atDispatch s))) ∧
     (s.seq.profile = .running → becomes (.pauseProfile h tag []) .paused) ∧
     (s.seq.profile ≠ .running →
       exec (.pauseProfile h tag []) s = .next (withResult h 0x14#8 tag .refusedState [] (atDispatch s))) ∧
     (s.seq.profile = .paused →
       s.seq.phase ≠ some .waiting ∨ (∃ r, s.seq.current = some r ∧ ¬EndMet r s) →
       becomes (.resumeProfile h tag []) .running) ∧
     (∀ r, s.seq.profile = .paused → s.seq.phase = some .waiting → s.seq.current = some r → EndMet r s →
       ∃ t, exec (.resumeProfile h tag []) s = .next t ∧ StepEnded { s with seq := { s.seq with profile := .running } } t ∧
         t.cool = s.cool ∧ t.view = s.view ∧ t.setup = s.setup ∧ t.sampling = s.sampling) ∧
     (s.seq.profile ≠ .paused →
       exec (.resumeProfile h tag []) s = .next (withResult h 0x15#8 tag .refusedState [] (atDispatch s)))) ∧
  (∀ (h : Header) (tag : Byte) (s : State), Addressed h s →
     ∃ t, exec (.stopProfile h tag []) s = .next t ∧ t.seq.profile = .idle ∧ t.seq.pendingSwitch = none ∧
       (s.seq.profile ≠ .idle →
         t.seq = { s.seq with profile := .idle, index := 0, phase := none, count := 0, pendingSwitch := none } ∧
         t.temp.onTimer = none ∧ t.temp.heaterDuty = 0 ∧ t.temp.lastDemand = 0 ∧ t.cool.openTimer = none ∧
         t.cool.demandUnits = 0 ∧ t.disp.state ≠ .flowing ∧
         (t.gas.state = .rest ∨ t.gas.state = .relief ∨ t.gas.state = .sensorVent)) ∧
       (s.seq.profile = .idle →
         t.seq = { s.seq with pendingSwitch := none } ∧ t.temp = s.temp ∧ t.cool = s.cool ∧ t.disp = s.disp ∧
         t.draw = s.draw) ∧
       t.temp.accumulator = s.temp.accumulator ∧ t.temp.integral = s.temp.integral ∧
       t.gas.setpoint = s.gas.setpoint ∧ t.cool.lastGrant = s.cool.lastGrant ∧ t.view = s.view ∧ t.setup = s.setup ∧
       t.sampling = s.sampling ∧ t.disp.level = s.disp.level ∧ t.disp.log = s.disp.log ∧
       t.sup.station = s.sup.station)

/-- SET_LEVEL (R176), ARM_PORTION (R175) and DROP_POURS (R179): values brought into range, requests displaced and a level
asked for during a pour have the outcomes of their tables, with the value stored in the RESULT; every other state stays. -/
def Obligations.KegCommands : Prop :=
  ∀ (h : Header) (tag hi lo : Byte) (s : State), Addressed h s →
    let n := hi.toNat * 256 + lo.toNat
    (s.disp.state ≠ .idle →
      exec (.setLevel h tag [hi, lo]) s = .next (withResult h 0x30#8 tag .busy [] (atDispatch s))) ∧
    (s.disp.state = .idle →
      exec (.setLevel h tag [hi, lo]) s =
        .next (withResult h 0x30#8 tag (if n ≤ 20000 then .done else .doneClamped) (be16 (min 20000 n))
          { atDispatch s with disp := { s.disp with level := min 20000 n } })) ∧
    (n = 0 →
      exec (.armPortion h tag [hi, lo]) s = .next (withResult h 0x31#8 tag .done (be16 0)
        { atDispatch s with disp := { s.disp with portion := none, portionTimer := none } })) ∧
    (n ≠ 0 →
      let v := max 30 (min 1000 n)
      exec (.armPortion h tag [hi, lo]) s = .next (withResult h 0x31#8 tag
        (if v ≠ n then .doneClamped else if s.disp.portion = none then .done else .doneReplaced) (be16 v)
        { atDispatch s with disp := { s.disp with portion := some v, portionTimer := some 6000 } })) ∧
    (let removed := min lo.toNat s.disp.log.length
     exec (.dropPours h tag [lo]) s = .next (withResult h 0x33#8 tag
       (if s.disp.log.length < lo.toNat then .doneClamped else .done)
       [byte removed, byte (s.disp.log.length - removed)]
       { atDispatch s with disp := { s.disp with log := s.disp.log.drop removed, wrapped := false } }))

/-- CLEAR_SUPPLY clears the own flag and ends SUPPLY_WEAK's cause (R159); QUIET and WAKE have the rows of R186; all three
give DONE, but for a QUIET outside RUN, which gives REFUSED_STATE. The activity event of the command comes first (R35).
LEAVE_SAFE (R193): outside SAFE, and with EXT_STOP active, REFUSED_STATE, in SAFE with a change of the line on the same
event noted for its alarm (notes/assumptions/8.md); else RUN, the idle timer at 0, profile, levels
and log as they stood, and the gas regulator evaluated at once (R138): from REST the mode tests, VENT_OPEN in OPEN.
R183's table, for each of the six activity events by its place in the two sets: none in SETUP and SAFE; in RUN with QUIET
clear one in the activity set restarts the idle timer at 0; in QUIET one in the wake set clears QUIET, restarts the idle
timer and queues a BAY_STATE; any other has no effect. Every statement that names `activityEvent` or `atDispatch` says this
of its event. -/
def Obligations.SupplyQuietWakeAndLeaveSafe : Prop :=
  (∀ (e : Activity) (place : Nat) (s : State),
     (e, place) ∈ [(.handle, 0), (.peerPour, 1), (.command, 2), (.groupSync, 3), (.lid, 4), (.alarm, 5)] →
     (s.sup.station ≠ .run → activityEvent e s = s) ∧
     (s.sup.station = .run → s.sup.quiet = false →
       (s.setup.activitySet.getLsbD place = true →
         activityEvent e s = { s with sup := { s.sup with idleCount := 0 } }) ∧
       (s.setup.activitySet.getLsbD place = false → activityEvent e s = s)) ∧
     (s.sup.station = .run → s.sup.quiet = true →
       (s.setup.wakeSet.getLsbD place = true →
         activityEvent e s = queueBayState { s with sup := { s.sup with quiet := false, idleCount := 0 } }) ∧
       (s.setup.wakeSet.getLsbD place = false → activityEvent e s = s))) ∧
  (∀ (h : Header) (tag : Byte) (s : State), Addressed h s →
     let s' := atDispatch s
     exec (.clearSupply h tag []) s = .next (withResult h 0x20#8 tag .done []
       (endAlarm .supplyWeak { s' with draw := { s.draw with supplyWeak := false } })) ∧
     (s.sup.station ≠ .run →
       exec (.quiet h tag []) s = .next (withResult h 0x50#8 tag .refusedState [] s') ∧
       exec (.wake h tag []) s = .next (withResult h 0x51#8 tag .done [] s')) ∧
     (s.sup.station = .run →
       let t := if s'.sup.quiet then s' else enterQuiet s'
       exec (.quiet h tag []) s = .next (withResult h 0x50#8 tag .done [] t) ∧
       t.sup = { s'.sup with quiet := true } ∧
       (s'.sup.quiet = false → s.link.silent = false → t.link.reportCount = 0) ∧ t.draw = s'.draw ∧
       t.disp = s'.disp ∧ t.seq = s'.seq ∧ t.temp = s'.temp ∧ t.cool = s'.cool ∧
       ∃ t, exec (.wake h tag []) s = .next t ∧ t.sup.quiet = false ∧ t.sup.idleCount = 0 ∧ t.sup.station = .run ∧
         t.sup.active = s.sup.active ∧ t.sup.latched = s.sup.latched ∧ t.draw = s.draw ∧ t.disp = s.disp ∧
         t.seq = s.seq ∧ t.temp = s.temp ∧ t.cool = s.cool)) ∧
  (∀ (h : Header) (tag : Byte) (s : State), Addressed h s →
     (s.sup.station ≠ .safe →
       exec (.leaveSafe h tag []) s = .next (withResult h 0x53#8 tag .refusedState [] (atDispatch s))) ∧
     (s.sup.station = .safe → s.sampling.ext.active = true →
       let s' := atDispatch s
       exec (.leaveSafe h tag []) s = .next (withResult h 0x53#8 tag .refusedState []
         { s' with sup := { s'.sup with leaveSafeRefused := s.sampling.ext.undelivered } })) ∧
     (s.sup.station = .safe → s.sampling.ext.active = false →
       ∃ t, exec (.leaveSafe h tag []) s = .next t ∧ t.sup.station = .run ∧ t.sup.idleCount = 0 ∧
         t.seq = s.seq ∧ t.temp = s.temp ∧ t.cool = s.cool ∧ t.disp = s.disp ∧ t.setup = s.setup ∧
         t.sampling = s.sampling ∧ t.view = s.view ∧ t.time = s.time ∧ t.gas.setpoint = s.gas.setpoint ∧
         (∀ (m : GasMode) (p : Int), s.gas.state = .rest → goodPressure s.sampling.transducer = some p →
           p ≤ s.gas.ceiling → handedMode s = some m →
           let band := if s.sup.quiet then 2 * s.setup.band else s.setup.band
           (m = .openKeg → t.gas.state = .ventOpen ∧ ventPin t = s.drivers.vent.apply true) ∧
           (m ≠ .openKeg → s.gas.setpoint + band < p → t.gas.state = .pulse) ∧
           (m = .carbonate ∨ m = .serve → p ≤ s.gas.setpoint + band → p < s.gas.setpoint - band →
             t.gas.state = .topping ∧ t.draw.need = true) ∧
           (m ≠ .openKeg → p ≤ s.gas.setpoint + band → s.gas.setpoint - band ≤ p ∨ m = .spund →
             t.gas.state = .rest))))

/-- CLEAR_ALARMS (R190): a set outside the eleven BAD_ARGUMENT; else the latches of the named alarms whose cause has ended
clear, an active one's stays, DUPLICATE's stays, LEAK's clears with its cause and its lockout, and the RESULT carries both
sets as they stand after. The order in which its frames join the queue, held in `clearLatches`, is the model's choice
(notes/assumptions/12.md).
A raising (R188) of an alarm that is not active makes it active and latched, queues ALARM(raised), for a new latch a BAY_STATE,
and is activity event ALARM; a cause's end (R189) of one that is active makes it inactive, its latch standing, and queues
ALARM(cleared); each leaves every other alarm as it was, and an alarm raised while active or ended while inactive changes
nothing. The order of a raising's frames is the model's choice (notes/assumptions/12.md). -/
def Obligations.ClearAlarms : Prop :=
  (∀ (a : Alarm) (lines : BitVec 4) (s : State),
    (hasAlarm s.sup.active a = true → raiseAlarm a s lines = s) ∧
    (hasAlarm s.sup.active a = false →
      let sets := { s.sup with active := withAlarm s.sup.active a, latched := withAlarm s.sup.latched a }
      let told := queueFrame (.alarm a true lines) { s with sup := sets }
      raiseAlarm a s lines =
        activityEvent .alarm (if hasAlarm s.sup.latched a then told else queueBayState told)) ∧
    (hasAlarm s.sup.active a = false → endAlarm a s = s) ∧
    (hasAlarm s.sup.active a = true →
      endAlarm a s = queueFrame (.alarm a false 0#4)
        { s with sup := { s.sup with active := withoutAlarm s.sup.active a } })) ∧
  (∀ (x : AlarmSet) (a b : Alarm),
    (hasAlarm (withAlarm x a) b = true ↔ b = a ∨ hasAlarm x b = true) ∧
    (hasAlarm (withoutAlarm x a) b = true ↔ b ≠ a ∧ hasAlarm x b = true)) ∧
  ∀ (h : Header) (tag hi lo : Byte) (s : State), Addressed h s →
    (8 ≤ hi.toNat →
      exec (.clearAlarms h tag [hi, lo]) s = .next (withResult h 0x52#8 tag .badArgument [] (atDispatch s))) ∧
    (hi.toNat < 8 →
      let named (a : Alarm) : Bool := (hi ++ lo).getLsbD a.code
      let t := clearLatches ((hi ++ lo).setWidth 11) (atDispatch s)
      exec (.clearAlarms h tag [hi, lo]) s = .next (withResult h 0x52#8 tag .done
          (be16 t.sup.active.toNat ++ be16 t.sup.latched.toNat) t) ∧
        (∀ a : Alarm, a ≠ .leak → hasAlarm t.sup.active a = hasAlarm s.sup.active a) ∧
        (∀ a : Alarm, a ≠ .leak → a ≠ .duplicate →
          hasAlarm t.sup.latched a = (hasAlarm s.sup.latched a && !(named a && !hasAlarm s.sup.active a))) ∧
        hasAlarm t.sup.latched .duplicate = hasAlarm s.sup.latched .duplicate ∧
        (named .leak = true → hasAlarm t.sup.latched .leak = false ∧
          (hasAlarm s.sup.latched .leak = true → hasAlarm t.sup.active .leak = false ∧ t.draw.causes.leak = false)) ∧
        (named .leak = false →
          hasAlarm t.sup.latched .leak = hasAlarm s.sup.latched .leak ∧
          hasAlarm t.sup.active .leak = hasAlarm s.sup.active .leak ∧ t.draw = s.draw) ∧
        t.sup.station = s.sup.station ∧ t.gas = s.gas ∧ t.disp = s.disp ∧ t.seq = s.seq ∧ t.temp = s.temp ∧
        t.cool = s.cool ∧ t.sampling = s.sampling ∧ t.view = s.view ∧ t.setup = s.setup ∧ t.drivers = s.drivers)
end

