-- ==== Sys2Proof/Laws/State.lean ====
section
/-! SUPPORT. Every field after every one-block update, so that no later proof unfolds a record update. -/

namespace Sys2Proof.Machine.State


@[simp] theorem mapSup_pending (f : Supervisor → Supervisor) (s : State) : (s.mapSup f).pending = s.pending := rfl
@[simp] theorem mapSup_held (f : Supervisor → Supervisor) (s : State) : (s.mapSup f).held = s.held := rfl
@[simp] theorem mapSup_ident (f : Supervisor → Supervisor) (s : State) : (s.mapSup f).ident = s.ident := rfl
@[simp] theorem mapSup_time (f : Supervisor → Supervisor) (s : State) : (s.mapSup f).time = s.time := rfl
@[simp] theorem mapSup_setup (f : Supervisor → Supervisor) (s : State) : (s.mapSup f).setup = s.setup := rfl
@[simp] theorem mapSup_sup (f : Supervisor → Supervisor) (s : State) : (s.mapSup f).sup = f s.sup := rfl
@[simp] theorem mapSup_sampling (f : Supervisor → Supervisor) (s : State) : (s.mapSup f).sampling = s.sampling := rfl
@[simp] theorem mapSup_drivers (f : Supervisor → Supervisor) (s : State) : (s.mapSup f).drivers = s.drivers := rfl
@[simp] theorem mapSup_link (f : Supervisor → Supervisor) (s : State) : (s.mapSup f).link = s.link := rfl
@[simp] theorem mapSup_view (f : Supervisor → Supervisor) (s : State) : (s.mapSup f).view = s.view := rfl
@[simp] theorem mapSup_seq (f : Supervisor → Supervisor) (s : State) : (s.mapSup f).seq = s.seq := rfl
@[simp] theorem mapSup_temp (f : Supervisor → Supervisor) (s : State) : (s.mapSup f).temp = s.temp := rfl
@[simp] theorem mapSup_cool (f : Supervisor → Supervisor) (s : State) : (s.mapSup f).cool = s.cool := rfl
@[simp] theorem mapSup_gas (f : Supervisor → Supervisor) (s : State) : (s.mapSup f).gas = s.gas := rfl
@[simp] theorem mapSup_draw (f : Supervisor → Supervisor) (s : State) : (s.mapSup f).draw = s.draw := rfl
@[simp] theorem mapSup_disp (f : Supervisor → Supervisor) (s : State) : (s.mapSup f).disp = s.disp := rfl

@[simp] theorem mapSampling_pending (f : Sampling → Sampling) (s : State) : (s.mapSampling f).pending = s.pending := rfl
@[simp] theorem mapSampling_held (f : Sampling → Sampling) (s : State) : (s.mapSampling f).held = s.held := rfl
@[simp] theorem mapSampling_ident (f : Sampling → Sampling) (s : State) : (s.mapSampling f).ident = s.ident := rfl
@[simp] theorem mapSampling_time (f : Sampling → Sampling) (s : State) : (s.mapSampling f).time = s.time := rfl
@[simp] theorem mapSampling_setup (f : Sampling → Sampling) (s : State) : (s.mapSampling f).setup = s.setup := rfl
@[simp] theorem mapSampling_sup (f : Sampling → Sampling) (s : State) : (s.mapSampling f).sup = s.sup := rfl
@[simp] theorem mapSampling_sampling (f : Sampling → Sampling) (s : State) : (s.mapSampling f).sampling = f s.sampling := rfl
@[simp] theorem mapSampling_drivers (f : Sampling → Sampling) (s : State) : (s.mapSampling f).drivers = s.drivers := rfl
@[simp] theorem mapSampling_link (f : Sampling → Sampling) (s : State) : (s.mapSampling f).link = s.link := rfl
@[simp] theorem mapSampling_view (f : Sampling → Sampling) (s : State) : (s.mapSampling f).view = s.view := rfl
@[simp] theorem mapSampling_seq (f : Sampling → Sampling) (s : State) : (s.mapSampling f).seq = s.seq := rfl
@[simp] theorem mapSampling_temp (f : Sampling → Sampling) (s : State) : (s.mapSampling f).temp = s.temp := rfl
@[simp] theorem mapSampling_cool (f : Sampling → Sampling) (s : State) : (s.mapSampling f).cool = s.cool := rfl
@[simp] theorem mapSampling_gas (f : Sampling → Sampling) (s : State) : (s.mapSampling f).gas = s.gas := rfl
@[simp] theorem mapSampling_draw (f : Sampling → Sampling) (s : State) : (s.mapSampling f).draw = s.draw := rfl
@[simp] theorem mapSampling_disp (f : Sampling → Sampling) (s : State) : (s.mapSampling f).disp = s.disp := rfl

@[simp] theorem mapDrivers_pending (f : Drivers → Drivers) (s : State) : (s.mapDrivers f).pending = s.pending := rfl
@[simp] theorem mapDrivers_held (f : Drivers → Drivers) (s : State) : (s.mapDrivers f).held = s.held := rfl
@[simp] theorem mapDrivers_ident (f : Drivers → Drivers) (s : State) : (s.mapDrivers f).ident = s.ident := rfl
@[simp] theorem mapDrivers_time (f : Drivers → Drivers) (s : State) : (s.mapDrivers f).time = s.time := rfl
@[simp] theorem mapDrivers_setup (f : Drivers → Drivers) (s : State) : (s.mapDrivers f).setup = s.setup := rfl
@[simp] theorem mapDrivers_sup (f : Drivers → Drivers) (s : State) : (s.mapDrivers f).sup = s.sup := rfl
@[simp] theorem mapDrivers_sampling (f : Drivers → Drivers) (s : State) : (s.mapDrivers f).sampling = s.sampling := rfl
@[simp] theorem mapDrivers_drivers (f : Drivers → Drivers) (s : State) : (s.mapDrivers f).drivers = f s.drivers := rfl
@[simp] theorem mapDrivers_link (f : Drivers → Drivers) (s : State) : (s.mapDrivers f).link = s.link := rfl
@[simp] theorem mapDrivers_view (f : Drivers → Drivers) (s : State) : (s.mapDrivers f).view = s.view := rfl
@[simp] theorem mapDrivers_seq (f : Drivers → Drivers) (s : State) : (s.mapDrivers f).seq = s.seq := rfl
@[simp] theorem mapDrivers_temp (f : Drivers → Drivers) (s : State) : (s.mapDrivers f).temp = s.temp := rfl
@[simp] theorem mapDrivers_cool (f : Drivers → Drivers) (s : State) : (s.mapDrivers f).cool = s.cool := rfl
@[simp] theorem mapDrivers_gas (f : Drivers → Drivers) (s : State) : (s.mapDrivers f).gas = s.gas := rfl
@[simp] theorem mapDrivers_draw (f : Drivers → Drivers) (s : State) : (s.mapDrivers f).draw = s.draw := rfl
@[simp] theorem mapDrivers_disp (f : Drivers → Drivers) (s : State) : (s.mapDrivers f).disp = s.disp := rfl

@[simp] theorem mapLink_pending (f : Link → Link) (s : State) : (s.mapLink f).pending = s.pending := rfl
@[simp] theorem mapLink_held (f : Link → Link) (s : State) : (s.mapLink f).held = s.held := rfl
@[simp] theorem mapLink_ident (f : Link → Link) (s : State) : (s.mapLink f).ident = s.ident := rfl
@[simp] theorem mapLink_time (f : Link → Link) (s : State) : (s.mapLink f).time = s.time := rfl
@[simp] theorem mapLink_setup (f : Link → Link) (s : State) : (s.mapLink f).setup = s.setup := rfl
@[simp] theorem mapLink_sup (f : Link → Link) (s : State) : (s.mapLink f).sup = s.sup := rfl
@[simp] theorem mapLink_sampling (f : Link → Link) (s : State) : (s.mapLink f).sampling = s.sampling := rfl
@[simp] theorem mapLink_drivers (f : Link → Link) (s : State) : (s.mapLink f).drivers = s.drivers := rfl
@[simp] theorem mapLink_link (f : Link → Link) (s : State) : (s.mapLink f).link = f s.link := rfl
@[simp] theorem mapLink_view (f : Link → Link) (s : State) : (s.mapLink f).view = s.view := rfl
@[simp] theorem mapLink_seq (f : Link → Link) (s : State) : (s.mapLink f).seq = s.seq := rfl
@[simp] theorem mapLink_temp (f : Link → Link) (s : State) : (s.mapLink f).temp = s.temp := rfl
@[simp] theorem mapLink_cool (f : Link → Link) (s : State) : (s.mapLink f).cool = s.cool := rfl
@[simp] theorem mapLink_gas (f : Link → Link) (s : State) : (s.mapLink f).gas = s.gas := rfl
@[simp] theorem mapLink_draw (f : Link → Link) (s : State) : (s.mapLink f).draw = s.draw := rfl
@[simp] theorem mapLink_disp (f : Link → Link) (s : State) : (s.mapLink f).disp = s.disp := rfl

@[simp] theorem mapView_pending (f : PeerView → PeerView) (s : State) : (s.mapView f).pending = s.pending := rfl
@[simp] theorem mapView_held (f : PeerView → PeerView) (s : State) : (s.mapView f).held = s.held := rfl
@[simp] theorem mapView_ident (f : PeerView → PeerView) (s : State) : (s.mapView f).ident = s.ident := rfl
@[simp] theorem mapView_time (f : PeerView → PeerView) (s : State) : (s.mapView f).time = s.time := rfl
@[simp] theorem mapView_setup (f : PeerView → PeerView) (s : State) : (s.mapView f).setup = s.setup := rfl
@[simp] theorem mapView_sup (f : PeerView → PeerView) (s : State) : (s.mapView f).sup = s.sup := rfl
@[simp] theorem mapView_sampling (f : PeerView → PeerView) (s : State) : (s.mapView f).sampling = s.sampling := rfl
@[simp] theorem mapView_drivers (f : PeerView → PeerView) (s : State) : (s.mapView f).drivers = s.drivers := rfl
@[simp] theorem mapView_link (f : PeerView → PeerView) (s : State) : (s.mapView f).link = s.link := rfl
@[simp] theorem mapView_view (f : PeerView → PeerView) (s : State) : (s.mapView f).view = f s.view := rfl
@[simp] theorem mapView_seq (f : PeerView → PeerView) (s : State) : (s.mapView f).seq = s.seq := rfl
@[simp] theorem mapView_temp (f : PeerView → PeerView) (s : State) : (s.mapView f).temp = s.temp := rfl
@[simp] theorem mapView_cool (f : PeerView → PeerView) (s : State) : (s.mapView f).cool = s.cool := rfl
@[simp] theorem mapView_gas (f : PeerView → PeerView) (s : State) : (s.mapView f).gas = s.gas := rfl
@[simp] theorem mapView_draw (f : PeerView → PeerView) (s : State) : (s.mapView f).draw = s.draw := rfl
@[simp] theorem mapView_disp (f : PeerView → PeerView) (s : State) : (s.mapView f).disp = s.disp := rfl

@[simp] theorem mapSeq_pending (f : Sequencer → Sequencer) (s : State) : (s.mapSeq f).pending = s.pending := rfl
@[simp] theorem mapSeq_held (f : Sequencer → Sequencer) (s : State) : (s.mapSeq f).held = s.held := rfl
@[simp] theorem mapSeq_ident (f : Sequencer → Sequencer) (s : State) : (s.mapSeq f).ident = s.ident := rfl
@[simp] theorem mapSeq_time (f : Sequencer → Sequencer) (s : State) : (s.mapSeq f).time = s.time := rfl
@[simp] theorem mapSeq_setup (f : Sequencer → Sequencer) (s : State) : (s.mapSeq f).setup = s.setup := rfl
@[simp] theorem mapSeq_sup (f : Sequencer → Sequencer) (s : State) : (s.mapSeq f).sup = s.sup := rfl
@[simp] theorem mapSeq_sampling (f : Sequencer → Sequencer) (s : State) : (s.mapSeq f).sampling = s.sampling := rfl
@[simp] theorem mapSeq_drivers (f : Sequencer → Sequencer) (s : State) : (s.mapSeq f).drivers = s.drivers := rfl
@[simp] theorem mapSeq_link (f : Sequencer → Sequencer) (s : State) : (s.mapSeq f).link = s.link := rfl
@[simp] theorem mapSeq_view (f : Sequencer → Sequencer) (s : State) : (s.mapSeq f).view = s.view := rfl
@[simp] theorem mapSeq_seq (f : Sequencer → Sequencer) (s : State) : (s.mapSeq f).seq = f s.seq := rfl
@[simp] theorem mapSeq_temp (f : Sequencer → Sequencer) (s : State) : (s.mapSeq f).temp = s.temp := rfl
@[simp] theorem mapSeq_cool (f : Sequencer → Sequencer) (s : State) : (s.mapSeq f).cool = s.cool := rfl
@[simp] theorem mapSeq_gas (f : Sequencer → Sequencer) (s : State) : (s.mapSeq f).gas = s.gas := rfl
@[simp] theorem mapSeq_draw (f : Sequencer → Sequencer) (s : State) : (s.mapSeq f).draw = s.draw := rfl
@[simp] theorem mapSeq_disp (f : Sequencer → Sequencer) (s : State) : (s.mapSeq f).disp = s.disp := rfl

@[simp] theorem mapTemp_pending (f : Temperature → Temperature) (s : State) : (s.mapTemp f).pending = s.pending := rfl
@[simp] theorem mapTemp_held (f : Temperature → Temperature) (s : State) : (s.mapTemp f).held = s.held := rfl
@[simp] theorem mapTemp_ident (f : Temperature → Temperature) (s : State) : (s.mapTemp f).ident = s.ident := rfl
@[simp] theorem mapTemp_time (f : Temperature → Temperature) (s : State) : (s.mapTemp f).time = s.time := rfl
@[simp] theorem mapTemp_setup (f : Temperature → Temperature) (s : State) : (s.mapTemp f).setup = s.setup := rfl
@[simp] theorem mapTemp_sup (f : Temperature → Temperature) (s : State) : (s.mapTemp f).sup = s.sup := rfl
@[simp] theorem mapTemp_sampling (f : Temperature → Temperature) (s : State) : (s.mapTemp f).sampling = s.sampling := rfl
@[simp] theorem mapTemp_drivers (f : Temperature → Temperature) (s : State) : (s.mapTemp f).drivers = s.drivers := rfl
@[simp] theorem mapTemp_link (f : Temperature → Temperature) (s : State) : (s.mapTemp f).link = s.link := rfl
@[simp] theorem mapTemp_view (f : Temperature → Temperature) (s : State) : (s.mapTemp f).view = s.view := rfl
@[simp] theorem mapTemp_seq (f : Temperature → Temperature) (s : State) : (s.mapTemp f).seq = s.seq := rfl
@[simp] theorem mapTemp_temp (f : Temperature → Temperature) (s : State) : (s.mapTemp f).temp = f s.temp := rfl
@[simp] theorem mapTemp_cool (f : Temperature → Temperature) (s : State) : (s.mapTemp f).cool = s.cool := rfl
@[simp] theorem mapTemp_gas (f : Temperature → Temperature) (s : State) : (s.mapTemp f).gas = s.gas := rfl
@[simp] theorem mapTemp_draw (f : Temperature → Temperature) (s : State) : (s.mapTemp f).draw = s.draw := rfl
@[simp] theorem mapTemp_disp (f : Temperature → Temperature) (s : State) : (s.mapTemp f).disp = s.disp := rfl

@[simp] theorem mapCool_pending (f : Cooling → Cooling) (s : State) : (s.mapCool f).pending = s.pending := rfl
@[simp] theorem mapCool_held (f : Cooling → Cooling) (s : State) : (s.mapCool f).held = s.held := rfl
@[simp] theorem mapCool_ident (f : Cooling → Cooling) (s : State) : (s.mapCool f).ident = s.ident := rfl
@[simp] theorem mapCool_time (f : Cooling → Cooling) (s : State) : (s.mapCool f).time = s.time := rfl
@[simp] theorem mapCool_setup (f : Cooling → Cooling) (s : State) : (s.mapCool f).setup = s.setup := rfl
@[simp] theorem mapCool_sup (f : Cooling → Cooling) (s : State) : (s.mapCool f).sup = s.sup := rfl
@[simp] theorem mapCool_sampling (f : Cooling → Cooling) (s : State) : (s.mapCool f).sampling = s.sampling := rfl
@[simp] theorem mapCool_drivers (f : Cooling → Cooling) (s : State) : (s.mapCool f).drivers = s.drivers := rfl
@[simp] theorem mapCool_link (f : Cooling → Cooling) (s : State) : (s.mapCool f).link = s.link := rfl
@[simp] theorem mapCool_view (f : Cooling → Cooling) (s : State) : (s.mapCool f).view = s.view := rfl
@[simp] theorem mapCool_seq (f : Cooling → Cooling) (s : State) : (s.mapCool f).seq = s.seq := rfl
@[simp] theorem mapCool_temp (f : Cooling → Cooling) (s : State) : (s.mapCool f).temp = s.temp := rfl
@[simp] theorem mapCool_cool (f : Cooling → Cooling) (s : State) : (s.mapCool f).cool = f s.cool := rfl
@[simp] theorem mapCool_gas (f : Cooling → Cooling) (s : State) : (s.mapCool f).gas = s.gas := rfl
@[simp] theorem mapCool_draw (f : Cooling → Cooling) (s : State) : (s.mapCool f).draw = s.draw := rfl
@[simp] theorem mapCool_disp (f : Cooling → Cooling) (s : State) : (s.mapCool f).disp = s.disp := rfl

@[simp] theorem mapGas_pending (f : Gas → Gas) (s : State) : (s.mapGas f).pending = s.pending := rfl
@[simp] theorem mapGas_held (f : Gas → Gas) (s : State) : (s.mapGas f).held = s.held := rfl
@[simp] theorem mapGas_ident (f : Gas → Gas) (s : State) : (s.mapGas f).ident = s.ident := rfl
@[simp] theorem mapGas_time (f : Gas → Gas) (s : State) : (s.mapGas f).time = s.time := rfl
@[simp] theorem mapGas_setup (f : Gas → Gas) (s : State) : (s.mapGas f).setup = s.setup := rfl
@[simp] theorem mapGas_sup (f : Gas → Gas) (s : State) : (s.mapGas f).sup = s.sup := rfl
@[simp] theorem mapGas_sampling (f : Gas → Gas) (s : State) : (s.mapGas f).sampling = s.sampling := rfl
@[simp] theorem mapGas_drivers (f : Gas → Gas) (s : State) : (s.mapGas f).drivers = s.drivers := rfl
@[simp] theorem mapGas_link (f : Gas → Gas) (s : State) : (s.mapGas f).link = s.link := rfl
@[simp] theorem mapGas_view (f : Gas → Gas) (s : State) : (s.mapGas f).view = s.view := rfl
@[simp] theorem mapGas_seq (f : Gas → Gas) (s : State) : (s.mapGas f).seq = s.seq := rfl
@[simp] theorem mapGas_temp (f : Gas → Gas) (s : State) : (s.mapGas f).temp = s.temp := rfl
@[simp] theorem mapGas_cool (f : Gas → Gas) (s : State) : (s.mapGas f).cool = s.cool := rfl
@[simp] theorem mapGas_gas (f : Gas → Gas) (s : State) : (s.mapGas f).gas = f s.gas := rfl
@[simp] theorem mapGas_draw (f : Gas → Gas) (s : State) : (s.mapGas f).draw = s.draw := rfl
@[simp] theorem mapGas_disp (f : Gas → Gas) (s : State) : (s.mapGas f).disp = s.disp := rfl

@[simp] theorem mapDraw_pending (f : Draw → Draw) (s : State) : (s.mapDraw f).pending = s.pending := rfl
@[simp] theorem mapDraw_held (f : Draw → Draw) (s : State) : (s.mapDraw f).held = s.held := rfl
@[simp] theorem mapDraw_ident (f : Draw → Draw) (s : State) : (s.mapDraw f).ident = s.ident := rfl
@[simp] theorem mapDraw_time (f : Draw → Draw) (s : State) : (s.mapDraw f).time = s.time := rfl
@[simp] theorem mapDraw_setup (f : Draw → Draw) (s : State) : (s.mapDraw f).setup = s.setup := rfl
@[simp] theorem mapDraw_sup (f : Draw → Draw) (s : State) : (s.mapDraw f).sup = s.sup := rfl
@[simp] theorem mapDraw_sampling (f : Draw → Draw) (s : State) : (s.mapDraw f).sampling = s.sampling := rfl
@[simp] theorem mapDraw_drivers (f : Draw → Draw) (s : State) : (s.mapDraw f).drivers = s.drivers := rfl
@[simp] theorem mapDraw_link (f : Draw → Draw) (s : State) : (s.mapDraw f).link = s.link := rfl
@[simp] theorem mapDraw_view (f : Draw → Draw) (s : State) : (s.mapDraw f).view = s.view := rfl
@[simp] theorem mapDraw_seq (f : Draw → Draw) (s : State) : (s.mapDraw f).seq = s.seq := rfl
@[simp] theorem mapDraw_temp (f : Draw → Draw) (s : State) : (s.mapDraw f).temp = s.temp := rfl
@[simp] theorem mapDraw_cool (f : Draw → Draw) (s : State) : (s.mapDraw f).cool = s.cool := rfl
@[simp] theorem mapDraw_gas (f : Draw → Draw) (s : State) : (s.mapDraw f).gas = s.gas := rfl
@[simp] theorem mapDraw_draw (f : Draw → Draw) (s : State) : (s.mapDraw f).draw = f s.draw := rfl
@[simp] theorem mapDraw_disp (f : Draw → Draw) (s : State) : (s.mapDraw f).disp = s.disp := rfl

@[simp] theorem mapDisp_pending (f : Dispense → Dispense) (s : State) : (s.mapDisp f).pending = s.pending := rfl
@[simp] theorem mapDisp_held (f : Dispense → Dispense) (s : State) : (s.mapDisp f).held = s.held := rfl
@[simp] theorem mapDisp_ident (f : Dispense → Dispense) (s : State) : (s.mapDisp f).ident = s.ident := rfl
@[simp] theorem mapDisp_time (f : Dispense → Dispense) (s : State) : (s.mapDisp f).time = s.time := rfl
@[simp] theorem mapDisp_setup (f : Dispense → Dispense) (s : State) : (s.mapDisp f).setup = s.setup := rfl
@[simp] theorem mapDisp_sup (f : Dispense → Dispense) (s : State) : (s.mapDisp f).sup = s.sup := rfl
@[simp] theorem mapDisp_sampling (f : Dispense → Dispense) (s : State) : (s.mapDisp f).sampling = s.sampling := rfl
@[simp] theorem mapDisp_drivers (f : Dispense → Dispense) (s : State) : (s.mapDisp f).drivers = s.drivers := rfl
@[simp] theorem mapDisp_link (f : Dispense → Dispense) (s : State) : (s.mapDisp f).link = s.link := rfl
@[simp] theorem mapDisp_view (f : Dispense → Dispense) (s : State) : (s.mapDisp f).view = s.view := rfl
@[simp] theorem mapDisp_seq (f : Dispense → Dispense) (s : State) : (s.mapDisp f).seq = s.seq := rfl
@[simp] theorem mapDisp_temp (f : Dispense → Dispense) (s : State) : (s.mapDisp f).temp = s.temp := rfl
@[simp] theorem mapDisp_cool (f : Dispense → Dispense) (s : State) : (s.mapDisp f).cool = s.cool := rfl
@[simp] theorem mapDisp_gas (f : Dispense → Dispense) (s : State) : (s.mapDisp f).gas = s.gas := rfl
@[simp] theorem mapDisp_draw (f : Dispense → Dispense) (s : State) : (s.mapDisp f).draw = s.draw := rfl
@[simp] theorem mapDisp_disp (f : Dispense → Dispense) (s : State) : (s.mapDisp f).disp = f s.disp := rfl

@[simp] theorem mapTime_pending (f : TimeBase → TimeBase) (s : State) : (s.mapTime f).pending = s.pending := rfl
@[simp] theorem mapTime_held (f : TimeBase → TimeBase) (s : State) : (s.mapTime f).held = s.held := rfl
@[simp] theorem mapTime_ident (f : TimeBase → TimeBase) (s : State) : (s.mapTime f).ident = s.ident := rfl
@[simp] theorem mapTime_time (f : TimeBase → TimeBase) (s : State) : (s.mapTime f).time = f s.time := rfl
@[simp] theorem mapTime_setup (f : TimeBase → TimeBase) (s : State) : (s.mapTime f).setup = s.setup := rfl
@[simp] theorem mapTime_sup (f : TimeBase → TimeBase) (s : State) : (s.mapTime f).sup = s.sup := rfl
@[simp] theorem mapTime_sampling (f : TimeBase → TimeBase) (s : State) : (s.mapTime f).sampling = s.sampling := rfl
@[simp] theorem mapTime_drivers (f : TimeBase → TimeBase) (s : State) : (s.mapTime f).drivers = s.drivers := rfl
@[simp] theorem mapTime_link (f : TimeBase → TimeBase) (s : State) : (s.mapTime f).link = s.link := rfl
@[simp] theorem mapTime_view (f : TimeBase → TimeBase) (s : State) : (s.mapTime f).view = s.view := rfl
@[simp] theorem mapTime_seq (f : TimeBase → TimeBase) (s : State) : (s.mapTime f).seq = s.seq := rfl
@[simp] theorem mapTime_temp (f : TimeBase → TimeBase) (s : State) : (s.mapTime f).temp = s.temp := rfl
@[simp] theorem mapTime_cool (f : TimeBase → TimeBase) (s : State) : (s.mapTime f).cool = s.cool := rfl
@[simp] theorem mapTime_gas (f : TimeBase → TimeBase) (s : State) : (s.mapTime f).gas = s.gas := rfl
@[simp] theorem mapTime_draw (f : TimeBase → TimeBase) (s : State) : (s.mapTime f).draw = s.draw := rfl
@[simp] theorem mapTime_disp (f : TimeBase → TimeBase) (s : State) : (s.mapTime f).disp = s.disp := rfl

@[simp] theorem mapSetup_pending (f : SetupItems → SetupItems) (s : State) : (s.mapSetup f).pending = s.pending := rfl
@[simp] theorem mapSetup_held (f : SetupItems → SetupItems) (s : State) : (s.mapSetup f).held = s.held := rfl
@[simp] theorem mapSetup_ident (f : SetupItems → SetupItems) (s : State) : (s.mapSetup f).ident = s.ident := rfl
@[simp] theorem mapSetup_time (f : SetupItems → SetupItems) (s : State) : (s.mapSetup f).time = s.time := rfl
@[simp] theorem mapSetup_setup (f : SetupItems → SetupItems) (s : State) : (s.mapSetup f).setup = f s.setup := rfl
@[simp] theorem mapSetup_sup (f : SetupItems → SetupItems) (s : State) : (s.mapSetup f).sup = s.sup := rfl
@[simp] theorem mapSetup_sampling (f : SetupItems → SetupItems) (s : State) : (s.mapSetup f).sampling = s.sampling := rfl
@[simp] theorem mapSetup_drivers (f : SetupItems → SetupItems) (s : State) : (s.mapSetup f).drivers = s.drivers := rfl
@[simp] theorem mapSetup_link (f : SetupItems → SetupItems) (s : State) : (s.mapSetup f).link = s.link := rfl
@[simp] theorem mapSetup_view (f : SetupItems → SetupItems) (s : State) : (s.mapSetup f).view = s.view := rfl
@[simp] theorem mapSetup_seq (f : SetupItems → SetupItems) (s : State) : (s.mapSetup f).seq = s.seq := rfl
@[simp] theorem mapSetup_temp (f : SetupItems → SetupItems) (s : State) : (s.mapSetup f).temp = s.temp := rfl
@[simp] theorem mapSetup_cool (f : SetupItems → SetupItems) (s : State) : (s.mapSetup f).cool = s.cool := rfl
@[simp] theorem mapSetup_gas (f : SetupItems → SetupItems) (s : State) : (s.mapSetup f).gas = s.gas := rfl
@[simp] theorem mapSetup_draw (f : SetupItems → SetupItems) (s : State) : (s.mapSetup f).draw = s.draw := rfl
@[simp] theorem mapSetup_disp (f : SetupItems → SetupItems) (s : State) : (s.mapSetup f).disp = s.disp := rfl

end Sys2Proof.Machine.State
end

