-- ==== Sys2Proof/Laws/Link.lean ====
section
/-! SUPPORT. The transmit queue: what joining, coalescing and eviction keep (R28 to R30). -/

namespace Sys2Proof.Machine

theorem insertFrame_length (f : QFrame) (q : List QFrame) : (insertFrame f q).length = q.length + 1 := by
  induction q with
  | nil => rfl
  | cons a q ih => unfold insertFrame; split <;> simp [ih]

theorem mem_insertFrame (f x : QFrame) (q : List QFrame) : x ∈ insertFrame f q ↔ x = f ∨ x ∈ q := by
  induction q with
  | nil => simp [insertFrame]
  | cons a q ih => unfold insertFrame; split <;> simp [ih]; tauto

theorem insertFrame_sorted (f : QFrame) (q : List QFrame)
    (h : (q.map (·.frame.priority)).Pairwise (· ≤ ·)) :
    ((insertFrame f q).map (·.frame.priority)).Pairwise (· ≤ ·) := by
  induction q with
  | nil => simp [insertFrame]
  | cons a q ih =>
    simp only [List.map_cons, List.pairwise_cons, List.mem_map, forall_exists_index, and_imp,
      forall_apply_eq_imp_iff₂] at h
    unfold insertFrame
    split
    · next hlt =>
      simp only [List.map_cons, List.pairwise_cons, List.mem_cons, List.mem_map, forall_eq_or_imp,
        forall_exists_index, and_imp, forall_apply_eq_imp_iff₂]
      exact ⟨⟨by omega, fun x hx => by have := h.1 x hx; omega⟩, h⟩
    · next hge =>
      simp only [List.map_cons, List.pairwise_cons, List.mem_map, forall_exists_index, and_imp,
        forall_apply_eq_imp_iff₂, mem_insertFrame]
      refine ⟨fun x hx => ?_, ih h.2⟩
      rcases hx with rfl | hx
      · omega
      · exact h.1 x hx

/-- What `replaceLast` can do: one picked frame gives way to `f`, in its place. -/
theorem replaceLast_some (p : QFrame → Bool) (f : QFrame) (q q' : List QFrame) (h : replaceLast p f q = some q') :
    ∃ a o b, q = a ++ o :: b ∧ q' = a ++ f :: b ∧ p o = true := by
  induction q generalizing q' with
  | nil => simp [replaceLast] at h
  | cons x q ih =>
    unfold replaceLast at h
    split at h
    · next q₂ hq =>
      obtain ⟨a, o, b, rfl, rfl, hp⟩ := ih _ hq
      obtain rfl := Option.some.inj h
      exact ⟨x :: a, o, b, rfl, rfl, hp⟩
    · split at h
      · next hp =>
        obtain rfl := Option.some.inj h
        exact ⟨[], x, q, rfl, rfl, hp⟩
      · cases h

/-- What `removeLast` can do: one picked frame leaves. -/
theorem removeLast_some (p : QFrame → Bool) (q q' : List QFrame) (h : removeLast p q = some q') :
    ∃ a o b, q = a ++ o :: b ∧ q' = a ++ b ∧ p o = true := by
  induction q generalizing q' with
  | nil => simp [removeLast] at h
  | cons x q ih =>
    unfold removeLast at h
    split at h
    · next q₂ hq =>
      obtain ⟨a, o, b, rfl, rfl, hp⟩ := ih _ hq
      obtain rfl := Option.some.inj h
      exact ⟨x :: a, o, b, rfl, rfl, hp⟩
    · split at h
      · next hp =>
        obtain rfl := Option.some.inj h
        exact ⟨[], x, q, rfl, rfl, hp⟩
      · cases h

/-- Frames that coalesce have one priority (R23, R29). -/
theorem coalescesWith_priority (f : Frame) (q : QFrame) (h : coalescesWith f q = true) :
    q.frame.priority = f.priority := by
  obtain ⟨g, n, i, l⟩ := q
  cases f <;> cases g <;> simp_all [coalescesWith, Frame.isBayState, Frame.isDraw, Frame.priority, Frame.frameClass]

/-- Queueing keeps the order and the bounds of the queue. -/
theorem enqueue_queueOk (f : QFrame) (l : Link) (hf : f.attempts < 4) (h : QueueOk l.queue) :
    QueueOk (l.enqueue f).1.queue := by
  obtain ⟨h6, hs, ha⟩ := h
  unfold Link.enqueue
  split
  · exact ⟨h6, hs, ha⟩
  split
  · next q hq =>
    obtain ⟨a, o, b, hl, rfl, hp⟩ := replaceLast_some _ _ _ _ hq
    have := coalescesWith_priority _ _ hp
    rw [hl] at h6 hs ha
    refine ⟨by simpa using h6, ?_, ?_⟩
    · simpa [this] using hs
    · intro x hx
      simp only [List.mem_append, List.mem_cons] at hx
      rcases hx with hx | rfl | hx
      · exact ha x (by simp [hx])
      · exact hf
      · exact ha x (by simp [hx])
  split
  · next hlt =>
    refine ⟨?_, insertFrame_sorted _ _ hs, ?_⟩
    · simp only [insertFrame_length, queueLimit] at *; omega
    · intro x hx
      rcases (mem_insertFrame _ _ _).1 hx with rfl | hx
      exacts [hf, ha x hx]
  split
  · next q hq =>
    obtain ⟨a, o, b, hl, rfl, -⟩ := removeLast_some _ _ _ hq
    rw [hl] at h6 hs ha
    refine ⟨?_, insertFrame_sorted _ _ ?_, ?_⟩
    · simp only [insertFrame_length, List.length_append, List.length_cons] at *; omega
    · refine hs.sublist ?_
      simp
    · intro x hx
      rcases (mem_insertFrame _ _ _).1 hx with rfl | hx
      · exact hf
      · exact ha x (by simp only [List.mem_append, List.mem_cons] at *; tauto)
  · exact ⟨h6, hs, ha⟩

/-- Queueing leaves every field but the queue, TX_DROPPED and the attempt's mark. -/
@[simp] theorem enqueue_frame (f : QFrame) (l : Link) :
    (l.enqueue f).1.silent = l.silent ∧ (l.enqueue f).1.dropCount = l.dropCount ∧
      (l.enqueue f).1.reportCount = l.reportCount ∧ (l.enqueue f).1.reportBegunNow = l.reportBegunNow ∧
      (l.enqueue f).1.bus = l.bus ∧ (l.enqueue f).1.rx = l.rx ∧
      (l.enqueue f).1.attempt.isSome = l.attempt.isSome := by
  unfold Link.enqueue
  repeat' split
  all_goals simp

/-- A BAY_STATE queued for cadence or for a change: in SILENT nothing; else the queue takes or refuses it, and the report
count begins anew (R38, R39). -/
theorem queueBayState_link (s : State) :
    (queueBayState s).link =
      if s.link.silent then s.link
      else { (s.link.enqueue { frame := .bayState }).1 with reportCount := 0, reportBegunNow := true } := by
  unfold queueBayState
  split <;> simp

/-- Queueing a frame leaves which frames are in flight (R28). -/
theorem enqueue_inFlight (f : QFrame) (l : Link) (hf : f.inFlight = false) :
    ((l.enqueue f).1.queue.filter (·.inFlight)).length = (l.queue.filter (·.inFlight)).length := by
  have hi : ∀ q, ((insertFrame f q).filter (·.inFlight)).length = (q.filter (·.inFlight)).length := by
    intro q
    induction q with
    | nil => simp [insertFrame, hf]
    | cons a q ih =>
      unfold insertFrame
      split
      · simp [List.filter_cons, hf]
      · simp only [List.filter_cons]; split <;> simp [ih]
  unfold Link.enqueue
  split
  · rfl
  split
  · next q hq =>
    obtain ⟨a, o, b, hl, rfl, hp⟩ := replaceLast_some _ _ _ _ hq
    rw [hl]
    have ho : o.inFlight = false := by
      simp only [coalescesWith, Bool.and_eq_true, Bool.not_eq_true'] at hp; exact hp.1
    simp [List.filter_append, hf, ho]
  split
  · exact hi _
  split
  · next q hq =>
    obtain ⟨a, o, b, hl, rfl, hp⟩ := removeLast_some _ _ _ hq
    rw [hi, hl]
    have ho : o.inFlight = false := by
      simp only [Bool.and_eq_true, Bool.not_eq_true'] at hp; exact hp.2
    simp [List.filter_append, ho]
  · rfl

/-- In SILENT the queue takes nothing (R40). -/
theorem enqueue_silent (f : QFrame) (l : Link) (h : l.silent = true) : l.enqueue f = (l, false) := by
  simp [Link.enqueue, h]

/-- Queueing keeps the link controller's invariant. -/
theorem enqueue_linkOk (f : QFrame) (l : Link) (hf : f.attempts < 4) (hi : f.inFlight = false) (h : LinkOk l) :
    LinkOk (l.enqueue f).1 := by
  obtain ⟨h1, h2, h3, h4, h5⟩ := h
  refine ⟨enqueue_queueOk f l hf h1, ?_, ?_, ?_, ?_⟩
  · intro hs
    simp only [enqueue_frame] at hs
    rw [enqueue_silent f l hs]; exact h2 hs
  · rw [enqueue_inFlight f l hi]; simpa using h3
  · simpa using h4
  · simpa using h5

end Sys2Proof.Machine
end

