-- ==== Sys2Proof/Laws/Frames.lean ====
section
/-! SUPPORT. What each shared operation of the coordinator, the dispense unit, the supervisor and the gas regulator leaves unchanged. -/

namespace Sys2Proof.Machine

@[simp] theorem queueFrame_frame (f : Frame) (s : State) :
    (queueFrame f s).pending = s.pending ∧ (queueFrame f s).held = s.held ∧ (queueFrame f s).ident = s.ident ∧ (queueFrame f s).time = s.time ∧ (queueFrame f s).setup = s.setup ∧ (queueFrame f s).sup = s.sup ∧ (queueFrame f s).sampling = s.sampling ∧ (queueFrame f s).drivers = s.drivers ∧ (queueFrame f s).view = s.view ∧ (queueFrame f s).seq = s.seq ∧ (queueFrame f s).temp = s.temp ∧ (queueFrame f s).cool = s.cool ∧ (queueFrame f s).gas = s.gas ∧ (queueFrame f s).draw = s.draw ∧ (queueFrame f s).disp = s.disp := by
  simp [queueFrame]

@[simp] theorem queueBayState_frame (s : State) :
    (queueBayState s).pending = s.pending ∧ (queueBayState s).held = s.held ∧ (queueBayState s).ident = s.ident ∧ (queueBayState s).time = s.time ∧ (queueBayState s).setup = s.setup ∧ (queueBayState s).sup = s.sup ∧ (queueBayState s).sampling = s.sampling ∧ (queueBayState s).drivers = s.drivers ∧ (queueBayState s).view = s.view ∧ (queueBayState s).seq = s.seq ∧ (queueBayState s).temp = s.temp ∧ (queueBayState s).cool = s.cool ∧ (queueBayState s).gas = s.gas ∧ (queueBayState s).draw = s.draw ∧ (queueBayState s).disp = s.disp := by
  unfold queueBayState
  (repeat' split) <;> simp

@[simp] theorem leaveQuiet_frame (s : State) :
    (leaveQuiet s).pending = s.pending ∧ (leaveQuiet s).held = s.held ∧ (leaveQuiet s).ident = s.ident ∧ (leaveQuiet s).time = s.time ∧ (leaveQuiet s).setup = s.setup ∧ (leaveQuiet s).sampling = s.sampling ∧ (leaveQuiet s).drivers = s.drivers ∧ (leaveQuiet s).view = s.view ∧ (leaveQuiet s).seq = s.seq ∧ (leaveQuiet s).temp = s.temp ∧ (leaveQuiet s).cool = s.cool ∧ (leaveQuiet s).gas = s.gas ∧ (leaveQuiet s).draw = s.draw ∧ (leaveQuiet s).disp = s.disp := by
  simp [leaveQuiet]

@[simp] theorem enterQuiet_frame (s : State) :
    (enterQuiet s).pending = s.pending ∧ (enterQuiet s).held = s.held ∧ (enterQuiet s).ident = s.ident ∧ (enterQuiet s).time = s.time ∧ (enterQuiet s).setup = s.setup ∧ (enterQuiet s).sampling = s.sampling ∧ (enterQuiet s).drivers = s.drivers ∧ (enterQuiet s).view = s.view ∧ (enterQuiet s).seq = s.seq ∧ (enterQuiet s).temp = s.temp ∧ (enterQuiet s).cool = s.cool ∧ (enterQuiet s).gas = s.gas ∧ (enterQuiet s).draw = s.draw ∧ (enterQuiet s).disp = s.disp := by
  simp [enterQuiet]

@[simp] theorem activityEvent_frame (e : Activity) (s : State) :
    (activityEvent e s).pending = s.pending ∧ (activityEvent e s).held = s.held ∧ (activityEvent e s).ident = s.ident ∧ (activityEvent e s).time = s.time ∧ (activityEvent e s).setup = s.setup ∧ (activityEvent e s).sampling = s.sampling ∧ (activityEvent e s).drivers = s.drivers ∧ (activityEvent e s).view = s.view ∧ (activityEvent e s).seq = s.seq ∧ (activityEvent e s).temp = s.temp ∧ (activityEvent e s).cool = s.cool ∧ (activityEvent e s).gas = s.gas ∧ (activityEvent e s).draw = s.draw ∧ (activityEvent e s).disp = s.disp := by
  unfold activityEvent
  (repeat' split) <;> simp

@[simp] theorem raiseAlarm_frame (a : Alarm) (s : State) (l : BitVec 4) :
    (raiseAlarm a s l).pending = s.pending ∧ (raiseAlarm a s l).held = s.held ∧ (raiseAlarm a s l).ident = s.ident ∧ (raiseAlarm a s l).time = s.time ∧ (raiseAlarm a s l).setup = s.setup ∧ (raiseAlarm a s l).sampling = s.sampling ∧ (raiseAlarm a s l).drivers = s.drivers ∧ (raiseAlarm a s l).view = s.view ∧ (raiseAlarm a s l).seq = s.seq ∧ (raiseAlarm a s l).temp = s.temp ∧ (raiseAlarm a s l).cool = s.cool ∧ (raiseAlarm a s l).gas = s.gas ∧ (raiseAlarm a s l).draw = s.draw ∧ (raiseAlarm a s l).disp = s.disp := by
  unfold raiseAlarm
  dsimp only
  (repeat' split) <;> simp

@[simp] theorem endAlarm_frame (a : Alarm) (s : State) :
    (endAlarm a s).pending = s.pending ∧ (endAlarm a s).held = s.held ∧ (endAlarm a s).ident = s.ident ∧ (endAlarm a s).time = s.time ∧ (endAlarm a s).setup = s.setup ∧ (endAlarm a s).sampling = s.sampling ∧ (endAlarm a s).drivers = s.drivers ∧ (endAlarm a s).view = s.view ∧ (endAlarm a s).seq = s.seq ∧ (endAlarm a s).temp = s.temp ∧ (endAlarm a s).cool = s.cool ∧ (endAlarm a s).gas = s.gas ∧ (endAlarm a s).draw = s.draw ∧ (endAlarm a s).disp = s.disp := by
  unfold endAlarm
  (repeat' split) <;> simp

@[simp] theorem evaluateWatch_frame (s : State) :
    (evaluateWatch s).pending = s.pending ∧ (evaluateWatch s).held = s.held ∧ (evaluateWatch s).ident = s.ident ∧ (evaluateWatch s).time = s.time ∧ (evaluateWatch s).setup = s.setup ∧ (evaluateWatch s).drivers = s.drivers ∧ (evaluateWatch s).view = s.view ∧ (evaluateWatch s).seq = s.seq ∧ (evaluateWatch s).temp = s.temp ∧ (evaluateWatch s).cool = s.cool ∧ (evaluateWatch s).gas = s.gas ∧ (evaluateWatch s).draw = s.draw ∧ (evaluateWatch s).disp = s.disp := by
  unfold evaluateWatch
  (repeat' split) <;> simp

@[simp] theorem queueDraw_frame (k : DrawKind) (s : State) :
    (queueDraw k s).pending = s.pending ∧ (queueDraw k s).held = s.held ∧ (queueDraw k s).ident = s.ident ∧ (queueDraw k s).time = s.time ∧ (queueDraw k s).setup = s.setup ∧ (queueDraw k s).sup = s.sup ∧ (queueDraw k s).sampling = s.sampling ∧ (queueDraw k s).drivers = s.drivers ∧ (queueDraw k s).view = s.view ∧ (queueDraw k s).seq = s.seq ∧ (queueDraw k s).temp = s.temp ∧ (queueDraw k s).cool = s.cool ∧ (queueDraw k s).gas = s.gas ∧ (queueDraw k s).draw = s.draw ∧ (queueDraw k s).disp = s.disp := by
  simp [queueDraw]

@[simp] theorem makeClaim_frame (s : State) :
    (makeClaim s).pending = s.pending ∧ (makeClaim s).held = s.held ∧ (makeClaim s).ident = s.ident ∧ (makeClaim s).time = s.time ∧ (makeClaim s).setup = s.setup ∧ (makeClaim s).sup = s.sup ∧ (makeClaim s).sampling = s.sampling ∧ (makeClaim s).drivers = s.drivers ∧ (makeClaim s).view = s.view ∧ (makeClaim s).seq = s.seq ∧ (makeClaim s).temp = s.temp ∧ (makeClaim s).cool = s.cool ∧ (makeClaim s).gas = s.gas ∧ (makeClaim s).disp = s.disp := by
  unfold makeClaim
  dsimp only
  (repeat' split) <;> simp

@[simp] theorem examine_frame (s : State) :
    (examine s).pending = s.pending ∧ (examine s).held = s.held ∧ (examine s).ident = s.ident ∧ (examine s).time = s.time ∧ (examine s).setup = s.setup ∧ (examine s).sup = s.sup ∧ (examine s).sampling = s.sampling ∧ (examine s).drivers = s.drivers ∧ (examine s).view = s.view ∧ (examine s).seq = s.seq ∧ (examine s).temp = s.temp ∧ (examine s).cool = s.cool ∧ (examine s).gas = s.gas ∧ (examine s).disp = s.disp := by
  unfold examine
  dsimp only
  (repeat' split) <;> simp

@[simp] theorem enterWaiting_frame (s : State) :
    (enterWaiting s).pending = s.pending ∧ (enterWaiting s).held = s.held ∧ (enterWaiting s).ident = s.ident ∧ (enterWaiting s).time = s.time ∧ (enterWaiting s).setup = s.setup ∧ (enterWaiting s).sup = s.sup ∧ (enterWaiting s).sampling = s.sampling ∧ (enterWaiting s).drivers = s.drivers ∧ (enterWaiting s).view = s.view ∧ (enterWaiting s).seq = s.seq ∧ (enterWaiting s).temp = s.temp ∧ (enterWaiting s).cool = s.cool ∧ (enterWaiting s).gas = s.gas ∧ (enterWaiting s).disp = s.disp := by
  simp [enterWaiting]

@[simp] theorem needArrives_frame (s : State) :
    (needArrives s).pending = s.pending ∧ (needArrives s).held = s.held ∧ (needArrives s).ident = s.ident ∧ (needArrives s).time = s.time ∧ (needArrives s).setup = s.setup ∧ (needArrives s).sup = s.sup ∧ (needArrives s).sampling = s.sampling ∧ (needArrives s).drivers = s.drivers ∧ (needArrives s).view = s.view ∧ (needArrives s).seq = s.seq ∧ (needArrives s).temp = s.temp ∧ (needArrives s).cool = s.cool ∧ (needArrives s).gas = s.gas ∧ (needArrives s).disp = s.disp := by
  unfold needArrives
  dsimp only
  (repeat' split) <;> simp

@[simp] theorem needEnds_frame (s : State) :
    (needEnds s).pending = s.pending ∧ (needEnds s).held = s.held ∧ (needEnds s).ident = s.ident ∧ (needEnds s).time = s.time ∧ (needEnds s).setup = s.setup ∧ (needEnds s).sup = s.sup ∧ (needEnds s).sampling = s.sampling ∧ (needEnds s).drivers = s.drivers ∧ (needEnds s).view = s.view ∧ (needEnds s).seq = s.seq ∧ (needEnds s).temp = s.temp ∧ (needEnds s).cool = s.cool ∧ (needEnds s).gas = s.gas ∧ (needEnds s).disp = s.disp := by
  unfold needEnds
  dsimp only
  (repeat' split) <;> simp

@[simp] theorem releaseToRecover_frame (s : State) :
    (releaseToRecover s).pending = s.pending ∧ (releaseToRecover s).held = s.held ∧ (releaseToRecover s).ident = s.ident ∧ (releaseToRecover s).time = s.time ∧ (releaseToRecover s).setup = s.setup ∧ (releaseToRecover s).sup = s.sup ∧ (releaseToRecover s).sampling = s.sampling ∧ (releaseToRecover s).drivers = s.drivers ∧ (releaseToRecover s).view = s.view ∧ (releaseToRecover s).seq = s.seq ∧ (releaseToRecover s).temp = s.temp ∧ (releaseToRecover s).cool = s.cool ∧ (releaseToRecover s).gas = s.gas ∧ (releaseToRecover s).disp = s.disp := by
  simp [releaseToRecover]

@[simp] theorem giveUp_frame (s : State) :
    (giveUp s).pending = s.pending ∧ (giveUp s).held = s.held ∧ (giveUp s).ident = s.ident ∧ (giveUp s).time = s.time ∧ (giveUp s).setup = s.setup ∧ (giveUp s).sup = s.sup ∧ (giveUp s).sampling = s.sampling ∧ (giveUp s).drivers = s.drivers ∧ (giveUp s).view = s.view ∧ (giveUp s).seq = s.seq ∧ (giveUp s).temp = s.temp ∧ (giveUp s).cool = s.cool ∧ (giveUp s).gas = s.gas ∧ (giveUp s).disp = s.disp := by
  simp [giveUp]

@[simp] theorem keepClaim_frame (s : State) :
    (keepClaim s).pending = s.pending ∧ (keepClaim s).held = s.held ∧ (keepClaim s).ident = s.ident ∧ (keepClaim s).time = s.time ∧ (keepClaim s).setup = s.setup ∧ (keepClaim s).sup = s.sup ∧ (keepClaim s).sampling = s.sampling ∧ (keepClaim s).drivers = s.drivers ∧ (keepClaim s).view = s.view ∧ (keepClaim s).seq = s.seq ∧ (keepClaim s).temp = s.temp ∧ (keepClaim s).cool = s.cool ∧ (keepClaim s).gas = s.gas ∧ (keepClaim s).disp = s.disp := by
  simp [keepClaim]

@[simp] theorem contendAgain_frame (s : State) :
    (contendAgain s).pending = s.pending ∧ (contendAgain s).held = s.held ∧ (contendAgain s).ident = s.ident ∧ (contendAgain s).time = s.time ∧ (contendAgain s).setup = s.setup ∧ (contendAgain s).sup = s.sup ∧ (contendAgain s).sampling = s.sampling ∧ (contendAgain s).drivers = s.drivers ∧ (contendAgain s).view = s.view ∧ (contendAgain s).seq = s.seq ∧ (contendAgain s).temp = s.temp ∧ (contendAgain s).cool = s.cool ∧ (contendAgain s).gas = s.gas ∧ (contendAgain s).disp = s.disp := by
  unfold contendAgain
  (repeat' split) <;> simp

@[simp] theorem shortenBackoff_frame (s : State) :
    (shortenBackoff s).pending = s.pending ∧ (shortenBackoff s).held = s.held ∧ (shortenBackoff s).ident = s.ident ∧ (shortenBackoff s).time = s.time ∧ (shortenBackoff s).setup = s.setup ∧ (shortenBackoff s).sup = s.sup ∧ (shortenBackoff s).sampling = s.sampling ∧ (shortenBackoff s).drivers = s.drivers ∧ (shortenBackoff s).view = s.view ∧ (shortenBackoff s).seq = s.seq ∧ (shortenBackoff s).temp = s.temp ∧ (shortenBackoff s).cool = s.cool ∧ (shortenBackoff s).gas = s.gas ∧ (shortenBackoff s).disp = s.disp := by
  unfold shortenBackoff
  dsimp only
  (repeat' split) <;> simp

@[simp] theorem formUrgency_frame (s : State) :
    (formUrgency s).pending = s.pending ∧ (formUrgency s).held = s.held ∧ (formUrgency s).ident = s.ident ∧ (formUrgency s).time = s.time ∧ (formUrgency s).setup = s.setup ∧ (formUrgency s).sup = s.sup ∧ (formUrgency s).sampling = s.sampling ∧ (formUrgency s).drivers = s.drivers ∧ (formUrgency s).view = s.view ∧ (formUrgency s).seq = s.seq ∧ (formUrgency s).temp = s.temp ∧ (formUrgency s).cool = s.cool ∧ (formUrgency s).gas = s.gas ∧ (formUrgency s).disp = s.disp := by
  unfold formUrgency
  dsimp only
  (repeat' split) <;> simp

@[simp] theorem enterLocked_frame (s : State) :
    (enterLocked s).pending = s.pending ∧ (enterLocked s).held = s.held ∧ (enterLocked s).ident = s.ident ∧ (enterLocked s).time = s.time ∧ (enterLocked s).setup = s.setup ∧ (enterLocked s).sup = s.sup ∧ (enterLocked s).sampling = s.sampling ∧ (enterLocked s).drivers = s.drivers ∧ (enterLocked s).view = s.view ∧ (enterLocked s).seq = s.seq ∧ (enterLocked s).temp = s.temp ∧ (enterLocked s).cool = s.cool ∧ (enterLocked s).gas = s.gas ∧ (enterLocked s).disp = s.disp := by
  unfold enterLocked
  (repeat' split) <;> simp

@[simp] theorem updateLockouts_frame (s : State) :
    (updateLockouts s).pending = s.pending ∧ (updateLockouts s).held = s.held ∧ (updateLockouts s).ident = s.ident ∧ (updateLockouts s).time = s.time ∧ (updateLockouts s).setup = s.setup ∧ (updateLockouts s).sup = s.sup ∧ (updateLockouts s).sampling = s.sampling ∧ (updateLockouts s).drivers = s.drivers ∧ (updateLockouts s).view = s.view ∧ (updateLockouts s).seq = s.seq ∧ (updateLockouts s).temp = s.temp ∧ (updateLockouts s).cool = s.cool ∧ (updateLockouts s).gas = s.gas ∧ (updateLockouts s).disp = s.disp := by
  unfold updateLockouts
  dsimp only
  (repeat' split) <;> simp

@[simp] theorem supplyTest_frame (s : State) :
    (supplyTest s).pending = s.pending ∧ (supplyTest s).held = s.held ∧ (supplyTest s).ident = s.ident ∧ (supplyTest s).time = s.time ∧ (supplyTest s).setup = s.setup ∧ (supplyTest s).sampling = s.sampling ∧ (supplyTest s).drivers = s.drivers ∧ (supplyTest s).view = s.view ∧ (supplyTest s).seq = s.seq ∧ (supplyTest s).temp = s.temp ∧ (supplyTest s).cool = s.cool ∧ (supplyTest s).gas = s.gas ∧ (supplyTest s).disp = s.disp := by
  unfold supplyTest
  dsimp only
  (repeat' split) <;> simp

@[simp] theorem decideClaim_frame (s : State) :
    (decideClaim s).pending = s.pending ∧ (decideClaim s).held = s.held ∧ (decideClaim s).ident = s.ident ∧ (decideClaim s).time = s.time ∧ (decideClaim s).setup = s.setup ∧ (decideClaim s).sup = s.sup ∧ (decideClaim s).sampling = s.sampling ∧ (decideClaim s).drivers = s.drivers ∧ (decideClaim s).view = s.view ∧ (decideClaim s).seq = s.seq ∧ (decideClaim s).temp = s.temp ∧ (decideClaim s).cool = s.cool ∧ (decideClaim s).gas = s.gas ∧ (decideClaim s).disp = s.disp := by
  unfold decideClaim
  (repeat' split) <;> simp

@[simp] theorem keepPeriod_frame (s : State) :
    (keepPeriod s).pending = s.pending ∧ (keepPeriod s).held = s.held ∧ (keepPeriod s).ident = s.ident ∧ (keepPeriod s).time = s.time ∧ (keepPeriod s).setup = s.setup ∧ (keepPeriod s).sup = s.sup ∧ (keepPeriod s).sampling = s.sampling ∧ (keepPeriod s).drivers = s.drivers ∧ (keepPeriod s).view = s.view ∧ (keepPeriod s).seq = s.seq ∧ (keepPeriod s).temp = s.temp ∧ (keepPeriod s).cool = s.cool ∧ (keepPeriod s).gas = s.gas ∧ (keepPeriod s).disp = s.disp := by
  unfold keepPeriod
  (repeat' split) <;> simp

@[simp] theorem claimSent_frame (s : State) :
    (claimSent s).pending = s.pending ∧ (claimSent s).held = s.held ∧ (claimSent s).ident = s.ident ∧ (claimSent s).time = s.time ∧ (claimSent s).setup = s.setup ∧ (claimSent s).sup = s.sup ∧ (claimSent s).sampling = s.sampling ∧ (claimSent s).drivers = s.drivers ∧ (claimSent s).link = s.link ∧ (claimSent s).view = s.view ∧ (claimSent s).seq = s.seq ∧ (claimSent s).temp = s.temp ∧ (claimSent s).cool = s.cool ∧ (claimSent s).gas = s.gas ∧ (claimSent s).disp = s.disp := by
  unfold claimSent
  (repeat' split) <;> simp

@[simp] theorem claimDropped_frame (s : State) :
    (claimDropped s).pending = s.pending ∧ (claimDropped s).held = s.held ∧ (claimDropped s).ident = s.ident ∧ (claimDropped s).time = s.time ∧ (claimDropped s).setup = s.setup ∧ (claimDropped s).sup = s.sup ∧ (claimDropped s).sampling = s.sampling ∧ (claimDropped s).drivers = s.drivers ∧ (claimDropped s).view = s.view ∧ (claimDropped s).seq = s.seq ∧ (claimDropped s).temp = s.temp ∧ (claimDropped s).cool = s.cool ∧ (claimDropped s).gas = s.gas ∧ (claimDropped s).disp = s.disp := by
  unfold claimDropped
  (repeat' split) <;> simp

@[simp] theorem pourStateChanged_frame (s : State) :
    (pourStateChanged s).pending = s.pending ∧ (pourStateChanged s).held = s.held ∧ (pourStateChanged s).ident = s.ident ∧ (pourStateChanged s).time = s.time ∧ (pourStateChanged s).setup = s.setup ∧ (pourStateChanged s).sup = s.sup ∧ (pourStateChanged s).sampling = s.sampling ∧ (pourStateChanged s).drivers = s.drivers ∧ (pourStateChanged s).view = s.view ∧ (pourStateChanged s).seq = s.seq ∧ (pourStateChanged s).temp = s.temp ∧ (pourStateChanged s).cool = s.cool ∧ (pourStateChanged s).gas = s.gas ∧ (pourStateChanged s).disp = s.disp := by
  simp [pourStateChanged]

@[simp] theorem denyPour_frame (r : DenyReason) (s : State) :
    (denyPour r s).pending = s.pending ∧ (denyPour r s).held = s.held ∧ (denyPour r s).ident = s.ident ∧ (denyPour r s).time = s.time ∧ (denyPour r s).setup = s.setup ∧ (denyPour r s).sup = s.sup ∧ (denyPour r s).sampling = s.sampling ∧ (denyPour r s).drivers = s.drivers ∧ (denyPour r s).link = s.link ∧ (denyPour r s).view = s.view ∧ (denyPour r s).seq = s.seq ∧ (denyPour r s).temp = s.temp ∧ (denyPour r s).cool = s.cool ∧ (denyPour r s).gas = s.gas ∧ (denyPour r s).draw = s.draw := by
  simp [denyPour]

@[simp] theorem grantPour_frame (s : State) :
    (grantPour s).pending = s.pending ∧ (grantPour s).held = s.held ∧ (grantPour s).ident = s.ident ∧ (grantPour s).time = s.time ∧ (grantPour s).setup = s.setup ∧ (grantPour s).sampling = s.sampling ∧ (grantPour s).drivers = s.drivers ∧ (grantPour s).view = s.view ∧ (grantPour s).seq = s.seq ∧ (grantPour s).temp = s.temp ∧ (grantPour s).cool = s.cool ∧ (grantPour s).gas = s.gas := by
  simp [grantPour]

@[simp] theorem requestPour_frame (s : State) :
    (requestPour s).pending = s.pending ∧ (requestPour s).held = s.held ∧ (requestPour s).ident = s.ident ∧ (requestPour s).time = s.time ∧ (requestPour s).setup = s.setup ∧ (requestPour s).sampling = s.sampling ∧ (requestPour s).drivers = s.drivers ∧ (requestPour s).view = s.view ∧ (requestPour s).seq = s.seq ∧ (requestPour s).temp = s.temp ∧ (requestPour s).cool = s.cool ∧ (requestPour s).gas = s.gas := by
  unfold requestPour
  (repeat' split) <;> simp

@[simp] theorem endFlowing_frame (r : EndReason) (s : State) :
    (endFlowing r s).pending = s.pending ∧ (endFlowing r s).held = s.held ∧ (endFlowing r s).ident = s.ident ∧ (endFlowing r s).time = s.time ∧ (endFlowing r s).setup = s.setup ∧ (endFlowing r s).sup = s.sup ∧ (endFlowing r s).sampling = s.sampling ∧ (endFlowing r s).drivers = s.drivers ∧ (endFlowing r s).view = s.view ∧ (endFlowing r s).seq = s.seq ∧ (endFlowing r s).temp = s.temp ∧ (endFlowing r s).cool = s.cool ∧ (endFlowing r s).gas = s.gas := by
  unfold endFlowing
  (repeat' split) <;> simp

@[simp] theorem takeDeferred_frame (s : State) :
    (takeDeferred s).pending = s.pending ∧ (takeDeferred s).held = s.held ∧ (takeDeferred s).ident = s.ident ∧ (takeDeferred s).time = s.time ∧ (takeDeferred s).setup = s.setup ∧ (takeDeferred s).sampling = s.sampling ∧ (takeDeferred s).drivers = s.drivers ∧ (takeDeferred s).view = s.view ∧ (takeDeferred s).seq = s.seq ∧ (takeDeferred s).temp = s.temp ∧ (takeDeferred s).cool = s.cool ∧ (takeDeferred s).gas = s.gas := by
  unfold takeDeferred
  dsimp only
  (repeat' split) <;> simp

@[simp] theorem completePour_frame (s : State) :
    (completePour s).pending = s.pending ∧ (completePour s).held = s.held ∧ (completePour s).ident = s.ident ∧ (completePour s).time = s.time ∧ (completePour s).setup = s.setup ∧ (completePour s).sampling = s.sampling ∧ (completePour s).drivers = s.drivers ∧ (completePour s).view = s.view ∧ (completePour s).seq = s.seq ∧ (completePour s).temp = s.temp ∧ (completePour s).cool = s.cool ∧ (completePour s).gas = s.gas := by
  unfold completePour
  (repeat' split) <;> simp

@[simp] theorem flowPulse_frame (s : State) :
    (flowPulse s).pending = s.pending ∧ (flowPulse s).held = s.held ∧ (flowPulse s).ident = s.ident ∧ (flowPulse s).time = s.time ∧ (flowPulse s).setup = s.setup ∧ (flowPulse s).sup = s.sup ∧ (flowPulse s).sampling = s.sampling ∧ (flowPulse s).drivers = s.drivers ∧ (flowPulse s).view = s.view ∧ (flowPulse s).seq = s.seq ∧ (flowPulse s).temp = s.temp ∧ (flowPulse s).cool = s.cool ∧ (flowPulse s).gas = s.gas := by
  unfold flowPulse
  dsimp only
  (repeat' split) <;> simp

@[simp] theorem stallEnd_frame (s : State) :
    (stallEnd s).pending = s.pending ∧ (stallEnd s).held = s.held ∧ (stallEnd s).ident = s.ident ∧ (stallEnd s).time = s.time ∧ (stallEnd s).setup = s.setup ∧ (stallEnd s).sup = s.sup ∧ (stallEnd s).sampling = s.sampling ∧ (stallEnd s).drivers = s.drivers ∧ (stallEnd s).view = s.view ∧ (stallEnd s).seq = s.seq ∧ (stallEnd s).temp = s.temp ∧ (stallEnd s).cool = s.cool ∧ (stallEnd s).gas = s.gas := by
  unfold stallEnd
  (repeat' split) <;> simp

@[simp] theorem lowPressureTest_frame (s : State) :
    (lowPressureTest s).pending = s.pending ∧ (lowPressureTest s).held = s.held ∧ (lowPressureTest s).ident = s.ident ∧ (lowPressureTest s).time = s.time ∧ (lowPressureTest s).setup = s.setup ∧ (lowPressureTest s).sup = s.sup ∧ (lowPressureTest s).sampling = s.sampling ∧ (lowPressureTest s).drivers = s.drivers ∧ (lowPressureTest s).link = s.link ∧ (lowPressureTest s).view = s.view ∧ (lowPressureTest s).seq = s.seq ∧ (lowPressureTest s).temp = s.temp ∧ (lowPressureTest s).cool = s.cool ∧ (lowPressureTest s).gas = s.gas ∧ (lowPressureTest s).draw = s.draw := by
  unfold lowPressureTest
  (repeat' split) <;> simp

@[simp] theorem computeSetpoint_frame (s : State) :
    (computeSetpoint s).pending = s.pending ∧ (computeSetpoint s).held = s.held ∧ (computeSetpoint s).ident = s.ident ∧ (computeSetpoint s).time = s.time ∧ (computeSetpoint s).setup = s.setup ∧ (computeSetpoint s).sup = s.sup ∧ (computeSetpoint s).sampling = s.sampling ∧ (computeSetpoint s).drivers = s.drivers ∧ (computeSetpoint s).link = s.link ∧ (computeSetpoint s).view = s.view ∧ (computeSetpoint s).seq = s.seq ∧ (computeSetpoint s).temp = s.temp ∧ (computeSetpoint s).cool = s.cool ∧ (computeSetpoint s).draw = s.draw ∧ (computeSetpoint s).disp = s.disp := by
  unfold computeSetpoint
  (repeat' split) <;> simp

@[simp] theorem refitSetpoint_frame (s : State) :
    (refitSetpoint s).pending = s.pending ∧ (refitSetpoint s).held = s.held ∧ (refitSetpoint s).ident = s.ident ∧ (refitSetpoint s).time = s.time ∧ (refitSetpoint s).setup = s.setup ∧ (refitSetpoint s).sup = s.sup ∧ (refitSetpoint s).sampling = s.sampling ∧ (refitSetpoint s).drivers = s.drivers ∧ (refitSetpoint s).link = s.link ∧ (refitSetpoint s).view = s.view ∧ (refitSetpoint s).seq = s.seq ∧ (refitSetpoint s).temp = s.temp ∧ (refitSetpoint s).cool = s.cool ∧ (refitSetpoint s).draw = s.draw ∧ (refitSetpoint s).disp = s.disp := by
  unfold refitSetpoint
  (repeat' split) <;> simp

@[simp] theorem dropForcedInlet_frame (s : State) :
    (dropForcedInlet s).pending = s.pending ∧ (dropForcedInlet s).held = s.held ∧ (dropForcedInlet s).ident = s.ident ∧ (dropForcedInlet s).time = s.time ∧ (dropForcedInlet s).setup = s.setup ∧ (dropForcedInlet s).sup = s.sup ∧ (dropForcedInlet s).sampling = s.sampling ∧ (dropForcedInlet s).view = s.view ∧ (dropForcedInlet s).seq = s.seq ∧ (dropForcedInlet s).temp = s.temp ∧ (dropForcedInlet s).cool = s.cool ∧ (dropForcedInlet s).gas = s.gas ∧ (dropForcedInlet s).disp = s.disp := by
  unfold dropForcedInlet
  (repeat' split) <;> simp

@[simp] theorem leaveGas_frame (g : GasState) (s : State) :
    (leaveGas g s).pending = s.pending ∧ (leaveGas g s).held = s.held ∧ (leaveGas g s).ident = s.ident ∧ (leaveGas g s).time = s.time ∧ (leaveGas g s).setup = s.setup ∧ (leaveGas g s).sampling = s.sampling ∧ (leaveGas g s).drivers = s.drivers ∧ (leaveGas g s).view = s.view ∧ (leaveGas g s).seq = s.seq ∧ (leaveGas g s).temp = s.temp ∧ (leaveGas g s).cool = s.cool ∧ (leaveGas g s).gas = s.gas ∧ (leaveGas g s).disp = s.disp := by
  unfold leaveGas
  (repeat' split) <;> simp

@[simp] theorem enterGas_frame (g : GasState) (s : State) :
    (enterGas g s).pending = s.pending ∧ (enterGas g s).held = s.held ∧ (enterGas g s).ident = s.ident ∧ (enterGas g s).time = s.time ∧ (enterGas g s).setup = s.setup ∧ (enterGas g s).sampling = s.sampling ∧ (enterGas g s).view = s.view ∧ (enterGas g s).seq = s.seq ∧ (enterGas g s).temp = s.temp ∧ (enterGas g s).cool = s.cool ∧ (enterGas g s).gas = s.gas ∧ (enterGas g s).disp = s.disp := by
  unfold enterGas
  (repeat' split) <;> simp

@[simp] theorem moveGas_frame (g : GasState) (s : State) :
    (moveGas g s).pending = s.pending ∧ (moveGas g s).held = s.held ∧ (moveGas g s).ident = s.ident ∧ (moveGas g s).time = s.time ∧ (moveGas g s).setup = s.setup ∧ (moveGas g s).sampling = s.sampling ∧ (moveGas g s).view = s.view ∧ (moveGas g s).seq = s.seq ∧ (moveGas g s).temp = s.temp ∧ (moveGas g s).cool = s.cool ∧ (moveGas g s).disp = s.disp := by
  unfold moveGas
  (repeat' split) <;> simp

@[simp] theorem evaluateGas_frame (s : State) :
    (evaluateGas s).pending = s.pending ∧ (evaluateGas s).held = s.held ∧ (evaluateGas s).ident = s.ident ∧ (evaluateGas s).time = s.time ∧ (evaluateGas s).setup = s.setup ∧ (evaluateGas s).sampling = s.sampling ∧ (evaluateGas s).view = s.view ∧ (evaluateGas s).seq = s.seq ∧ (evaluateGas s).temp = s.temp ∧ (evaluateGas s).cool = s.cool ∧ (evaluateGas s).disp = s.disp := by
  simp [evaluateGas]

@[simp] theorem pulseEnd_frame (s : State) :
    (pulseEnd s).pending = s.pending ∧ (pulseEnd s).held = s.held ∧ (pulseEnd s).ident = s.ident ∧ (pulseEnd s).time = s.time ∧ (pulseEnd s).setup = s.setup ∧ (pulseEnd s).sup = s.sup ∧ (pulseEnd s).sampling = s.sampling ∧ (pulseEnd s).drivers = s.drivers ∧ (pulseEnd s).link = s.link ∧ (pulseEnd s).view = s.view ∧ (pulseEnd s).seq = s.seq ∧ (pulseEnd s).temp = s.temp ∧ (pulseEnd s).cool = s.cool ∧ (pulseEnd s).draw = s.draw ∧ (pulseEnd s).disp = s.disp := by
  simp [pulseEnd]

@[simp] theorem settleEnd_frame (s : State) :
    (settleEnd s).pending = s.pending ∧ (settleEnd s).held = s.held ∧ (settleEnd s).ident = s.ident ∧ (settleEnd s).time = s.time ∧ (settleEnd s).setup = s.setup ∧ (settleEnd s).sampling = s.sampling ∧ (settleEnd s).view = s.view ∧ (settleEnd s).seq = s.seq ∧ (settleEnd s).temp = s.temp ∧ (settleEnd s).cool = s.cool ∧ (settleEnd s).disp = s.disp := by
  simp [settleEnd]

@[simp] theorem takeUpMode_frame (m : Option GasMode) (s : State) :
    (takeUpMode m s).pending = s.pending ∧ (takeUpMode m s).held = s.held ∧ (takeUpMode m s).ident = s.ident ∧ (takeUpMode m s).time = s.time ∧ (takeUpMode m s).setup = s.setup ∧ (takeUpMode m s).sampling = s.sampling ∧ (takeUpMode m s).view = s.view ∧ (takeUpMode m s).seq = s.seq ∧ (takeUpMode m s).temp = s.temp ∧ (takeUpMode m s).cool = s.cool ∧ (takeUpMode m s).disp = s.disp := by
  unfold takeUpMode
  (repeat' split) <;> simp

@[simp] theorem updateLeak_frame (s : State) :
    (updateLeak s).pending = s.pending ∧ (updateLeak s).held = s.held ∧ (updateLeak s).ident = s.ident ∧ (updateLeak s).time = s.time ∧ (updateLeak s).setup = s.setup ∧ (updateLeak s).sup = s.sup ∧ (updateLeak s).sampling = s.sampling ∧ (updateLeak s).drivers = s.drivers ∧ (updateLeak s).link = s.link ∧ (updateLeak s).view = s.view ∧ (updateLeak s).seq = s.seq ∧ (updateLeak s).temp = s.temp ∧ (updateLeak s).cool = s.cool ∧ (updateLeak s).draw = s.draw ∧ (updateLeak s).disp = s.disp := by
  simp [updateLeak]

@[simp] theorem leakDrift_frame (t : Int) (s : State) :
    (leakDrift t s).pending = s.pending ∧ (leakDrift t s).held = s.held ∧ (leakDrift t s).ident = s.ident ∧ (leakDrift t s).time = s.time ∧ (leakDrift t s).setup = s.setup ∧ (leakDrift t s).sup = s.sup ∧ (leakDrift t s).sampling = s.sampling ∧ (leakDrift t s).drivers = s.drivers ∧ (leakDrift t s).link = s.link ∧ (leakDrift t s).view = s.view ∧ (leakDrift t s).seq = s.seq ∧ (leakDrift t s).temp = s.temp ∧ (leakDrift t s).cool = s.cool ∧ (leakDrift t s).draw = s.draw ∧ (leakDrift t s).disp = s.disp := by
  unfold leakDrift
  (repeat' split) <;> simp

@[simp] theorem leakHour_frame (s : State) :
    (leakHour s).pending = s.pending ∧ (leakHour s).held = s.held ∧ (leakHour s).ident = s.ident ∧ (leakHour s).time = s.time ∧ (leakHour s).setup = s.setup ∧ (leakHour s).sampling = s.sampling ∧ (leakHour s).drivers = s.drivers ∧ (leakHour s).view = s.view ∧ (leakHour s).seq = s.seq ∧ (leakHour s).temp = s.temp ∧ (leakHour s).cool = s.cool ∧ (leakHour s).disp = s.disp := by
  unfold leakHour
  dsimp only
  (repeat' split) <;> simp

@[simp] theorem completeBucket_frame (s : State) :
    (completeBucket s).pending = s.pending ∧ (completeBucket s).held = s.held ∧ (completeBucket s).ident = s.ident ∧ (completeBucket s).time = s.time ∧ (completeBucket s).setup = s.setup ∧ (completeBucket s).sup = s.sup ∧ (completeBucket s).sampling = s.sampling ∧ (completeBucket s).drivers = s.drivers ∧ (completeBucket s).link = s.link ∧ (completeBucket s).view = s.view ∧ (completeBucket s).seq = s.seq ∧ (completeBucket s).temp = s.temp ∧ (completeBucket s).cool = s.cool ∧ (completeBucket s).draw = s.draw ∧ (completeBucket s).disp = s.disp := by
  simp [completeBucket]

@[simp] theorem clearRing_frame (s : State) :
    (clearRing s).pending = s.pending ∧ (clearRing s).held = s.held ∧ (clearRing s).ident = s.ident ∧ (clearRing s).time = s.time ∧ (clearRing s).setup = s.setup ∧ (clearRing s).sup = s.sup ∧ (clearRing s).sampling = s.sampling ∧ (clearRing s).drivers = s.drivers ∧ (clearRing s).link = s.link ∧ (clearRing s).view = s.view ∧ (clearRing s).seq = s.seq ∧ (clearRing s).temp = s.temp ∧ (clearRing s).cool = s.cool ∧ (clearRing s).draw = s.draw ∧ (clearRing s).disp = s.disp := by
  simp [clearRing]

end Sys2Proof.Machine
end

