-- ==== Sys2Proof/Laws/StationFrames.lean ====
section
/-! SUPPORT. What each shared operation of the sequencer, the regulators, the sampling unit and the station leaves unchanged. -/

namespace Sys2Proof.Machine

@[simp] theorem formShare_frame (d : Nat) (s : State) :
    (formShare d s).pending = s.pending ∧ (formShare d s).held = s.held ∧ (formShare d s).ident = s.ident ∧ (formShare d s).time = s.time ∧ (formShare d s).setup = s.setup ∧ (formShare d s).sup = s.sup ∧ (formShare d s).sampling = s.sampling ∧ (formShare d s).drivers = s.drivers ∧ (formShare d s).link = s.link ∧ (formShare d s).view = s.view ∧ (formShare d s).seq = s.seq ∧ (formShare d s).temp = s.temp ∧ (formShare d s).gas = s.gas ∧ (formShare d s).draw = s.draw ∧ (formShare d s).disp = s.disp := by
  simp [formShare]

@[simp] theorem formWindow_frame (s : State) :
    (formWindow s).pending = s.pending ∧ (formWindow s).held = s.held ∧ (formWindow s).ident = s.ident ∧ (formWindow s).time = s.time ∧ (formWindow s).setup = s.setup ∧ (formWindow s).sup = s.sup ∧ (formWindow s).sampling = s.sampling ∧ (formWindow s).drivers = s.drivers ∧ (formWindow s).link = s.link ∧ (formWindow s).view = s.view ∧ (formWindow s).seq = s.seq ∧ (formWindow s).gas = s.gas ∧ (formWindow s).draw = s.draw ∧ (formWindow s).disp = s.disp := by
  unfold formWindow
  (repeat' split) <;> simp

@[simp] theorem withdrawWindow_frame (s : State) :
    (withdrawWindow s).pending = s.pending ∧ (withdrawWindow s).held = s.held ∧ (withdrawWindow s).ident = s.ident ∧ (withdrawWindow s).time = s.time ∧ (withdrawWindow s).setup = s.setup ∧ (withdrawWindow s).sup = s.sup ∧ (withdrawWindow s).sampling = s.sampling ∧ (withdrawWindow s).drivers = s.drivers ∧ (withdrawWindow s).link = s.link ∧ (withdrawWindow s).view = s.view ∧ (withdrawWindow s).seq = s.seq ∧ (withdrawWindow s).gas = s.gas ∧ (withdrawWindow s).draw = s.draw ∧ (withdrawWindow s).disp = s.disp := by
  simp [withdrawWindow]

@[simp] theorem jacketLimitTest_frame (f : Int) (s : State) :
    (jacketLimitTest f s).pending = s.pending ∧ (jacketLimitTest f s).held = s.held ∧ (jacketLimitTest f s).ident = s.ident ∧ (jacketLimitTest f s).time = s.time ∧ (jacketLimitTest f s).setup = s.setup ∧ (jacketLimitTest f s).sampling = s.sampling ∧ (jacketLimitTest f s).drivers = s.drivers ∧ (jacketLimitTest f s).view = s.view ∧ (jacketLimitTest f s).seq = s.seq ∧ (jacketLimitTest f s).cool = s.cool ∧ (jacketLimitTest f s).gas = s.gas ∧ (jacketLimitTest f s).draw = s.draw ∧ (jacketLimitTest f s).disp = s.disp := by
  unfold jacketLimitTest
  (repeat' split) <;> simp

@[simp] theorem beginStep_frame (m : Option GasMode) (i : Nat) (r : StepRecord) (s : State) :
    (beginStep m i r s).pending = s.pending ∧ (beginStep m i r s).held = s.held ∧ (beginStep m i r s).ident = s.ident ∧ (beginStep m i r s).time = s.time ∧ (beginStep m i r s).setup = s.setup ∧ (beginStep m i r s).sampling = s.sampling ∧ (beginStep m i r s).view = s.view ∧ (beginStep m i r s).cool = s.cool := by
  unfold beginStep
  dsimp only
  (repeat' split) <;> simp

@[simp] theorem takeSwitch_frame (n : Nat) (s : State) :
    (takeSwitch n s).pending = s.pending ∧ (takeSwitch n s).held = s.held ∧ (takeSwitch n s).ident = s.ident ∧ (takeSwitch n s).time = s.time ∧ (takeSwitch n s).setup = s.setup ∧ (takeSwitch n s).sampling = s.sampling ∧ (takeSwitch n s).view = s.view ∧ (takeSwitch n s).cool = s.cool := by
  unfold takeSwitch
  (repeat' split) <;> simp

@[simp] theorem changeProfile_frame (p : ProfileState) (s : State) :
    (changeProfile p s).pending = s.pending ∧ (changeProfile p s).held = s.held ∧ (changeProfile p s).ident = s.ident ∧ (changeProfile p s).time = s.time ∧ (changeProfile p s).setup = s.setup ∧ (changeProfile p s).sampling = s.sampling ∧ (changeProfile p s).view = s.view ∧ (changeProfile p s).temp = s.temp ∧ (changeProfile p s).cool = s.cool ∧ (changeProfile p s).disp = s.disp := by
  simp [changeProfile]

@[simp] theorem endStep_frame (s : State) :
    (endStep s).pending = s.pending ∧ (endStep s).held = s.held ∧ (endStep s).ident = s.ident ∧ (endStep s).time = s.time ∧ (endStep s).setup = s.setup ∧ (endStep s).sampling = s.sampling ∧ (endStep s).view = s.view ∧ (endStep s).cool = s.cool := by
  unfold endStep
  (repeat' split) <;> simp

@[simp] theorem chain_frame (n : Nat) (s : State) :
    (chain n s).pending = s.pending ∧ (chain n s).held = s.held ∧ (chain n s).ident = s.ident ∧ (chain n s).time = s.time ∧ (chain n s).setup = s.setup ∧ (chain n s).sampling = s.sampling ∧ (chain n s).view = s.view ∧ (chain n s).cool = s.cool := by
  induction n generalizing s with
  | zero => simp [chain]
  | succ n ih => unfold chain; split <;> simp [ih]

@[simp] theorem endStepChain_frame (s : State) :
    (endStepChain s).pending = s.pending ∧ (endStepChain s).held = s.held ∧ (endStepChain s).ident = s.ident ∧ (endStepChain s).time = s.time ∧ (endStepChain s).setup = s.setup ∧ (endStepChain s).sampling = s.sampling ∧ (endStepChain s).view = s.view ∧ (endStepChain s).cool = s.cool := by
  simp [endStepChain]

@[simp] theorem takeSwitchChain_frame (n : Nat) (s : State) :
    (takeSwitchChain n s).pending = s.pending ∧ (takeSwitchChain n s).held = s.held ∧ (takeSwitchChain n s).ident = s.ident ∧ (takeSwitchChain n s).time = s.time ∧ (takeSwitchChain n s).setup = s.setup ∧ (takeSwitchChain n s).sampling = s.sampling ∧ (takeSwitchChain n s).view = s.view ∧ (takeSwitchChain n s).cool = s.cool := by
  simp [takeSwitchChain]

@[simp] theorem elapseDuration_frame (s : State) :
    (elapseDuration s).pending = s.pending ∧ (elapseDuration s).held = s.held ∧ (elapseDuration s).ident = s.ident ∧ (elapseDuration s).time = s.time ∧ (elapseDuration s).setup = s.setup ∧ (elapseDuration s).sampling = s.sampling ∧ (elapseDuration s).view = s.view ∧ (elapseDuration s).cool = s.cool := by
  unfold elapseDuration
  (repeat' split) <;> simp

@[simp] theorem targetReached_frame (s : State) :
    (targetReached s).pending = s.pending ∧ (targetReached s).held = s.held ∧ (targetReached s).ident = s.ident ∧ (targetReached s).time = s.time ∧ (targetReached s).setup = s.setup ∧ (targetReached s).sampling = s.sampling ∧ (targetReached s).view = s.view ∧ (targetReached s).cool = s.cool := by
  unfold targetReached
  (repeat' split) <;> simp

@[simp] theorem countMinute_frame (s : State) :
    (countMinute s).pending = s.pending ∧ (countMinute s).held = s.held ∧ (countMinute s).ident = s.ident ∧ (countMinute s).time = s.time ∧ (countMinute s).setup = s.setup ∧ (countMinute s).sup = s.sup ∧ (countMinute s).sampling = s.sampling ∧ (countMinute s).drivers = s.drivers ∧ (countMinute s).link = s.link ∧ (countMinute s).view = s.view ∧ (countMinute s).temp = s.temp ∧ (countMinute s).cool = s.cool ∧ (countMinute s).gas = s.gas ∧ (countMinute s).draw = s.draw ∧ (countMinute s).disp = s.disp := by
  unfold countMinute
  (repeat' split) <;> simp

@[simp] theorem groupSyncAtSequencer_frame (g : Nat) (s : State) :
    (groupSyncAtSequencer g s).pending = s.pending ∧ (groupSyncAtSequencer g s).held = s.held ∧ (groupSyncAtSequencer g s).ident = s.ident ∧ (groupSyncAtSequencer g s).time = s.time ∧ (groupSyncAtSequencer g s).setup = s.setup ∧ (groupSyncAtSequencer g s).sampling = s.sampling ∧ (groupSyncAtSequencer g s).view = s.view ∧ (groupSyncAtSequencer g s).cool = s.cool := by
  unfold groupSyncAtSequencer
  (repeat' split) <;> simp

@[simp] theorem groupSyncAccepted_frame (g : Nat) (s : State) :
    (groupSyncAccepted g s).pending = s.pending ∧ (groupSyncAccepted g s).held = s.held ∧ (groupSyncAccepted g s).ident = s.ident ∧ (groupSyncAccepted g s).time = s.time ∧ (groupSyncAccepted g s).setup = s.setup ∧ (groupSyncAccepted g s).sampling = s.sampling ∧ (groupSyncAccepted g s).view = s.view ∧ (groupSyncAccepted g s).cool = s.cool := by
  simp [groupSyncAccepted]

@[simp] theorem bucketCompleted_frame (s : State) :
    (bucketCompleted s).pending = s.pending ∧ (bucketCompleted s).held = s.held ∧ (bucketCompleted s).ident = s.ident ∧ (bucketCompleted s).time = s.time ∧ (bucketCompleted s).setup = s.setup ∧ (bucketCompleted s).sampling = s.sampling ∧ (bucketCompleted s).view = s.view ∧ (bucketCompleted s).cool = s.cool := by
  simp [bucketCompleted]

@[simp] theorem stationChanged_frame (s : State) :
    (stationChanged s).pending = s.pending ∧ (stationChanged s).held = s.held ∧ (stationChanged s).ident = s.ident ∧ (stationChanged s).time = s.time ∧ (stationChanged s).setup = s.setup ∧ (stationChanged s).sampling = s.sampling ∧ (stationChanged s).view = s.view ∧ (stationChanged s).seq = s.seq ∧ (stationChanged s).temp = s.temp ∧ (stationChanged s).cool = s.cool ∧ (stationChanged s).disp = s.disp := by
  simp [stationChanged]

@[simp] theorem enterSafe_frame (s : State) :
    (enterSafe s).pending = s.pending ∧ (enterSafe s).held = s.held ∧ (enterSafe s).ident = s.ident ∧ (enterSafe s).time = s.time ∧ (enterSafe s).setup = s.setup ∧ (enterSafe s).sampling = s.sampling ∧ (enterSafe s).view = s.view ∧ (enterSafe s).seq = s.seq := by
  simp [enterSafe]

@[simp] theorem startStation_frame (s : State) :
    (startStation s).pending = s.pending ∧ (startStation s).held = s.held ∧ (startStation s).ident = s.ident ∧ (startStation s).time = s.time ∧ (startStation s).setup = s.setup ∧ (startStation s).sampling = s.sampling ∧ (startStation s).view = s.view ∧ (startStation s).seq = s.seq := by
  unfold startStation
  dsimp only
  (repeat' split) <;> simp

@[simp] theorem leaveSafeState_frame (s : State) :
    (leaveSafeState s).pending = s.pending ∧ (leaveSafeState s).held = s.held ∧ (leaveSafeState s).ident = s.ident ∧ (leaveSafeState s).time = s.time ∧ (leaveSafeState s).setup = s.setup ∧ (leaveSafeState s).sampling = s.sampling ∧ (leaveSafeState s).view = s.view ∧ (leaveSafeState s).seq = s.seq ∧ (leaveSafeState s).temp = s.temp ∧ (leaveSafeState s).cool = s.cool ∧ (leaveSafeState s).disp = s.disp := by
  simp [leaveSafeState]

@[simp] theorem raisePresentExtStop_frame (s : State) :
    (raisePresentExtStop s).pending = s.pending ∧ (raisePresentExtStop s).held = s.held ∧ (raisePresentExtStop s).ident = s.ident ∧ (raisePresentExtStop s).time = s.time ∧ (raisePresentExtStop s).setup = s.setup ∧ (raisePresentExtStop s).sampling = s.sampling ∧ (raisePresentExtStop s).drivers = s.drivers ∧ (raisePresentExtStop s).view = s.view ∧ (raisePresentExtStop s).seq = s.seq ∧ (raisePresentExtStop s).temp = s.temp ∧ (raisePresentExtStop s).cool = s.cool ∧ (raisePresentExtStop s).gas = s.gas ∧ (raisePresentExtStop s).draw = s.draw ∧ (raisePresentExtStop s).disp = s.disp := by
  unfold raisePresentExtStop
  (repeat' split) <;> simp

@[simp] theorem duplicateHeard_frame (s : State) :
    (duplicateHeard s).pending = s.pending ∧ (duplicateHeard s).held = s.held ∧ (duplicateHeard s).ident = s.ident ∧ (duplicateHeard s).time = s.time ∧ (duplicateHeard s).setup = s.setup ∧ (duplicateHeard s).sampling = s.sampling ∧ (duplicateHeard s).drivers = s.drivers ∧ (duplicateHeard s).view = s.view ∧ (duplicateHeard s).seq = s.seq ∧ (duplicateHeard s).temp = s.temp ∧ (duplicateHeard s).cool = s.cool ∧ (duplicateHeard s).gas = s.gas ∧ (duplicateHeard s).disp = s.disp := by
  unfold duplicateHeard
  (repeat' split) <;> simp

@[simp] theorem beerSample_frame (n : Nat) (s : State) :
    (beerSample n s).pending = s.pending ∧ (beerSample n s).held = s.held ∧ (beerSample n s).ident = s.ident ∧ (beerSample n s).time = s.time ∧ (beerSample n s).setup = s.setup ∧ (beerSample n s).drivers = s.drivers ∧ (beerSample n s).view = s.view ∧ (beerSample n s).seq = s.seq := by
  unfold beerSample
  dsimp only
  (repeat' split) <;> simp

@[simp] theorem jacketSample_frame (n : Nat) (s : State) :
    (jacketSample n s).pending = s.pending ∧ (jacketSample n s).held = s.held ∧ (jacketSample n s).ident = s.ident ∧ (jacketSample n s).time = s.time ∧ (jacketSample n s).setup = s.setup ∧ (jacketSample n s).drivers = s.drivers ∧ (jacketSample n s).view = s.view ∧ (jacketSample n s).seq = s.seq ∧ (jacketSample n s).cool = s.cool ∧ (jacketSample n s).gas = s.gas ∧ (jacketSample n s).draw = s.draw ∧ (jacketSample n s).disp = s.disp := by
  unfold jacketSample
  dsimp only
  (repeat' split) <;> simp

@[simp] theorem pressureSample_frame (n : Nat) (s : State) :
    (pressureSample n s).pending = s.pending ∧ (pressureSample n s).held = s.held ∧ (pressureSample n s).ident = s.ident ∧ (pressureSample n s).time = s.time ∧ (pressureSample n s).setup = s.setup ∧ (pressureSample n s).drivers = s.drivers ∧ (pressureSample n s).view = s.view ∧ (pressureSample n s).seq = s.seq ∧ (pressureSample n s).temp = s.temp ∧ (pressureSample n s).cool = s.cool ∧ (pressureSample n s).gas = s.gas := by
  unfold pressureSample
  dsimp only
  (repeat' split) <;> simp

@[simp] theorem firstReading_frame (p : SwitchPins) (s : State) :
    (firstReading p s).pending = s.pending ∧ (firstReading p s).held = s.held ∧ (firstReading p s).ident = s.ident ∧ (firstReading p s).time = s.time ∧ (firstReading p s).setup = s.setup ∧ (firstReading p s).drivers = s.drivers ∧ (firstReading p s).view = s.view ∧ (firstReading p s).seq = s.seq ∧ (firstReading p s).temp = s.temp ∧ (firstReading p s).cool = s.cool ∧ (firstReading p s).gas = s.gas ∧ (firstReading p s).disp = s.disp := by
  simp [firstReading]

@[simp] theorem laterReading_frame (p : SwitchPins) (s : State) :
    (laterReading p s).pending = s.pending ∧ (laterReading p s).held = s.held ∧ (laterReading p s).ident = s.ident ∧ (laterReading p s).time = s.time ∧ (laterReading p s).setup = s.setup ∧ (laterReading p s).sup = s.sup ∧ (laterReading p s).drivers = s.drivers ∧ (laterReading p s).link = s.link ∧ (laterReading p s).view = s.view ∧ (laterReading p s).seq = s.seq ∧ (laterReading p s).temp = s.temp ∧ (laterReading p s).cool = s.cool ∧ (laterReading p s).gas = s.gas ∧ (laterReading p s).draw = s.draw ∧ (laterReading p s).disp = s.disp := by
  simp [laterReading]

@[simp] theorem lineChanged_frame (n : Nat) (s : State) :
    (lineChanged n s).pending = s.pending ∧ (lineChanged n s).held = s.held ∧ (lineChanged n s).ident = s.ident ∧ (lineChanged n s).time = s.time ∧ (lineChanged n s).setup = s.setup ∧ (lineChanged n s).drivers = s.drivers ∧ (lineChanged n s).view = s.view ∧ (lineChanged n s).seq = s.seq ∧ (lineChanged n s).temp = s.temp ∧ (lineChanged n s).cool = s.cool ∧ (lineChanged n s).gas = s.gas ∧ (lineChanged n s).draw = s.draw ∧ (lineChanged n s).disp = s.disp := by
  unfold lineChanged
  (repeat' split) <;> simp

@[simp] theorem countDurations_frame (s : State) :
    (countDurations s).pending = s.pending ∧ (countDurations s).held = s.held ∧ (countDurations s).ident = s.ident ∧ (countDurations s).time = s.time ∧ (countDurations s).setup = s.setup ∧ (countDurations s).sup = s.sup ∧ (countDurations s).sampling = s.sampling ∧ (countDurations s).drivers = s.drivers ∧ (countDurations s).link = { s.link with reportBegunNow := false } ∧ (countDurations s).seq = s.seq := by
  simp [countDurations]

@[simp] theorem endReception_frame (s : State) :
    (endReception s).pending = s.pending ∧ (endReception s).held = s.held ∧ (endReception s).ident = s.ident ∧ (endReception s).time = s.time ∧ (endReception s).setup = s.setup ∧ (endReception s).sup = s.sup ∧ (endReception s).sampling = s.sampling ∧ (endReception s).drivers = s.drivers ∧ (endReception s).view = s.view ∧ (endReception s).seq = s.seq ∧ (endReception s).temp = s.temp ∧ (endReception s).cool = s.cool ∧ (endReception s).gas = s.gas ∧ (endReception s).draw = s.draw ∧ (endReception s).disp = s.disp := by
  simp [endReception]

@[simp] theorem drawHeard_frame (k : DrawKind) (u : Urgency) (s : State) :
    (drawHeard k u s).pending = s.pending ∧ (drawHeard k u s).held = s.held ∧ (drawHeard k u s).ident = s.ident ∧ (drawHeard k u s).time = s.time ∧ (drawHeard k u s).setup = s.setup ∧ (drawHeard k u s).sup = s.sup ∧ (drawHeard k u s).sampling = s.sampling ∧ (drawHeard k u s).drivers = s.drivers ∧ (drawHeard k u s).view = s.view ∧ (drawHeard k u s).seq = s.seq ∧ (drawHeard k u s).temp = s.temp ∧ (drawHeard k u s).cool = s.cool ∧ (drawHeard k u s).gas = s.gas ∧ (drawHeard k u s).disp = s.disp := by
  unfold drawHeard
  (repeat' split) <;> simp

@[simp] theorem discardFrame_frame (r : Reception) (s : State) :
    (discardFrame r s).pending = s.pending ∧ (discardFrame r s).held = s.held ∧ (discardFrame r s).ident = s.ident ∧ (discardFrame r s).time = s.time ∧ (discardFrame r s).setup = s.setup ∧ (discardFrame r s).sampling = s.sampling ∧ (discardFrame r s).drivers = s.drivers ∧ (discardFrame r s).view = s.view ∧ (discardFrame r s).seq = s.seq ∧ (discardFrame r s).temp = s.temp ∧ (discardFrame r s).cool = s.cool ∧ (discardFrame r s).gas = s.gas ∧ (discardFrame r s).disp = s.disp := by
  unfold discardFrame
  (repeat' split) <;> simp

end Sys2Proof.Machine
end

