-- ==== Sys2Proof/Laws/Parts.lean ====
section
/-! SUPPORT. What the shared operations leave unchanged within a block they touch. -/

namespace Sys2Proof.Machine

@[simp] theorem queueFrame_silent (f : Frame) (s : State) :
    (queueFrame f s).link.silent = s.link.silent := by
  simp [queueFrame]

@[simp] theorem queueBayState_silent (s : State) :
    (queueBayState s).link.silent = s.link.silent := by
  unfold queueBayState
  (repeat' split) <;> simp

@[simp] theorem leaveQuiet_silent (s : State) :
    (leaveQuiet s).link.silent = s.link.silent := by
  simp [leaveQuiet]

@[simp] theorem enterQuiet_silent (s : State) :
    (enterQuiet s).link.silent = s.link.silent := by
  simp [enterQuiet]

@[simp] theorem activityEvent_silent (e : Activity) (s : State) :
    (activityEvent e s).link.silent = s.link.silent := by
  unfold activityEvent
  (repeat' split) <;> simp

@[simp] theorem raiseAlarm_silent (a : Alarm) (s : State) (l : BitVec 4) :
    (raiseAlarm a s l).link.silent = s.link.silent := by
  unfold raiseAlarm
  dsimp only
  (repeat' split) <;> simp

@[simp] theorem endAlarm_silent (a : Alarm) (s : State) :
    (endAlarm a s).link.silent = s.link.silent := by
  unfold endAlarm
  (repeat' split) <;> simp

@[simp] theorem evaluateWatch_silent (s : State) :
    (evaluateWatch s).link.silent = s.link.silent := by
  unfold evaluateWatch
  (repeat' split) <;> simp

@[simp] theorem queueDraw_silent (k : DrawKind) (s : State) :
    (queueDraw k s).link.silent = s.link.silent := by
  simp [queueDraw]

@[simp] theorem makeClaim_silent (s : State) :
    (makeClaim s).link.silent = s.link.silent := by
  unfold makeClaim
  dsimp only
  (repeat' split) <;> simp

@[simp] theorem examine_silent (s : State) :
    (examine s).link.silent = s.link.silent := by
  unfold examine
  dsimp only
  (repeat' split) <;> simp

@[simp] theorem enterWaiting_silent (s : State) :
    (enterWaiting s).link.silent = s.link.silent := by
  simp [enterWaiting]

@[simp] theorem needArrives_silent (s : State) :
    (needArrives s).link.silent = s.link.silent := by
  unfold needArrives
  dsimp only
  (repeat' split) <;> simp

@[simp] theorem needEnds_silent (s : State) :
    (needEnds s).link.silent = s.link.silent := by
  unfold needEnds
  dsimp only
  (repeat' split) <;> simp

@[simp] theorem releaseToRecover_silent (s : State) :
    (releaseToRecover s).link.silent = s.link.silent := by
  simp [releaseToRecover]

@[simp] theorem giveUp_silent (s : State) :
    (giveUp s).link.silent = s.link.silent := by
  simp [giveUp]

@[simp] theorem keepClaim_silent (s : State) :
    (keepClaim s).link.silent = s.link.silent := by
  simp [keepClaim]

@[simp] theorem contendAgain_silent (s : State) :
    (contendAgain s).link.silent = s.link.silent := by
  unfold contendAgain
  (repeat' split) <;> simp

@[simp] theorem shortenBackoff_silent (s : State) :
    (shortenBackoff s).link.silent = s.link.silent := by
  unfold shortenBackoff
  dsimp only
  (repeat' split) <;> simp

@[simp] theorem formUrgency_silent (s : State) :
    (formUrgency s).link.silent = s.link.silent := by
  unfold formUrgency
  dsimp only
  (repeat' split) <;> simp

@[simp] theorem enterLocked_silent (s : State) :
    (enterLocked s).link.silent = s.link.silent := by
  unfold enterLocked
  (repeat' split) <;> simp

@[simp] theorem updateLockouts_silent (s : State) :
    (updateLockouts s).link.silent = s.link.silent := by
  unfold updateLockouts
  dsimp only
  (repeat' split) <;> simp

@[simp] theorem supplyTest_silent (s : State) :
    (supplyTest s).link.silent = s.link.silent := by
  unfold supplyTest
  dsimp only
  (repeat' split) <;> simp

@[simp] theorem decideClaim_silent (s : State) :
    (decideClaim s).link.silent = s.link.silent := by
  unfold decideClaim
  (repeat' split) <;> simp

@[simp] theorem keepPeriod_silent (s : State) :
    (keepPeriod s).link.silent = s.link.silent := by
  unfold keepPeriod
  (repeat' split) <;> simp

@[simp] theorem claimDropped_silent (s : State) :
    (claimDropped s).link.silent = s.link.silent := by
  unfold claimDropped
  (repeat' split) <;> simp

@[simp] theorem pourStateChanged_silent (s : State) :
    (pourStateChanged s).link.silent = s.link.silent := by
  simp [pourStateChanged]

@[simp] theorem grantPour_silent (s : State) :
    (grantPour s).link.silent = s.link.silent := by
  simp [grantPour]

@[simp] theorem requestPour_silent (s : State) :
    (requestPour s).link.silent = s.link.silent := by
  unfold requestPour
  (repeat' split) <;> simp

@[simp] theorem endFlowing_silent (r : EndReason) (s : State) :
    (endFlowing r s).link.silent = s.link.silent := by
  unfold endFlowing
  (repeat' split) <;> simp

@[simp] theorem takeDeferred_silent (s : State) :
    (takeDeferred s).link.silent = s.link.silent := by
  unfold takeDeferred
  dsimp only
  (repeat' split) <;> simp

@[simp] theorem completePour_silent (s : State) :
    (completePour s).link.silent = s.link.silent := by
  unfold completePour
  (repeat' split) <;> simp

@[simp] theorem flowPulse_silent (s : State) :
    (flowPulse s).link.silent = s.link.silent := by
  unfold flowPulse
  dsimp only
  (repeat' split) <;> simp

@[simp] theorem stallEnd_silent (s : State) :
    (stallEnd s).link.silent = s.link.silent := by
  unfold stallEnd
  (repeat' split) <;> simp

@[simp] theorem dropForcedInlet_silent (s : State) :
    (dropForcedInlet s).link.silent = s.link.silent := by
  unfold dropForcedInlet
  (repeat' split) <;> simp

@[simp] theorem leaveGas_silent (g : GasState) (s : State) :
    (leaveGas g s).link.silent = s.link.silent := by
  unfold leaveGas
  (repeat' split) <;> simp

@[simp] theorem enterGas_silent (g : GasState) (s : State) :
    (enterGas g s).link.silent = s.link.silent := by
  unfold enterGas
  (repeat' split) <;> simp

@[simp] theorem moveGas_silent (g : GasState) (s : State) :
    (moveGas g s).link.silent = s.link.silent := by
  unfold moveGas
  (repeat' split) <;> simp

@[simp] theorem evaluateGas_silent (s : State) :
    (evaluateGas s).link.silent = s.link.silent := by
  simp [evaluateGas]

@[simp] theorem settleEnd_silent (s : State) :
    (settleEnd s).link.silent = s.link.silent := by
  simp [settleEnd]

@[simp] theorem takeUpMode_silent (m : Option GasMode) (s : State) :
    (takeUpMode m s).link.silent = s.link.silent := by
  unfold takeUpMode
  (repeat' split) <;> simp

@[simp] theorem leakHour_silent (s : State) :
    (leakHour s).link.silent = s.link.silent := by
  unfold leakHour
  dsimp only
  (repeat' split) <;> simp

@[simp] theorem jacketLimitTest_silent (f : Int) (s : State) :
    (jacketLimitTest f s).link.silent = s.link.silent := by
  unfold jacketLimitTest
  (repeat' split) <;> simp

@[simp] theorem beginStep_silent (m : Option GasMode) (i : Nat) (r : StepRecord) (s : State) :
    (beginStep m i r s).link.silent = s.link.silent := by
  unfold beginStep
  dsimp only
  (repeat' split) <;> simp

@[simp] theorem takeSwitch_silent (n : Nat) (s : State) :
    (takeSwitch n s).link.silent = s.link.silent := by
  unfold takeSwitch
  (repeat' split) <;> simp

@[simp] theorem changeProfile_silent (p : ProfileState) (s : State) :
    (changeProfile p s).link.silent = s.link.silent := by
  simp [changeProfile]

@[simp] theorem endStep_silent (s : State) :
    (endStep s).link.silent = s.link.silent := by
  unfold endStep
  (repeat' split) <;> simp

@[simp] theorem chain_silent (n : Nat) (s : State) :
    (chain n s).link.silent = s.link.silent := by
  induction n generalizing s with
  | zero => simp [chain]
  | succ n ih => unfold chain; split <;> simp [ih]

@[simp] theorem endStepChain_silent (s : State) :
    (endStepChain s).link.silent = s.link.silent := by
  simp [endStepChain]

@[simp] theorem takeSwitchChain_silent (n : Nat) (s : State) :
    (takeSwitchChain n s).link.silent = s.link.silent := by
  simp [takeSwitchChain]

@[simp] theorem elapseDuration_silent (s : State) :
    (elapseDuration s).link.silent = s.link.silent := by
  unfold elapseDuration
  (repeat' split) <;> simp

@[simp] theorem targetReached_silent (s : State) :
    (targetReached s).link.silent = s.link.silent := by
  unfold targetReached
  (repeat' split) <;> simp

@[simp] theorem groupSyncAtSequencer_silent (g : Nat) (s : State) :
    (groupSyncAtSequencer g s).link.silent = s.link.silent := by
  unfold groupSyncAtSequencer
  (repeat' split) <;> simp

@[simp] theorem groupSyncAccepted_silent (g : Nat) (s : State) :
    (groupSyncAccepted g s).link.silent = s.link.silent := by
  simp [groupSyncAccepted]

@[simp] theorem bucketCompleted_silent (s : State) :
    (bucketCompleted s).link.silent = s.link.silent := by
  simp [bucketCompleted]

@[simp] theorem stationChanged_silent (s : State) :
    (stationChanged s).link.silent = s.link.silent := by
  simp [stationChanged]

@[simp] theorem enterSafe_silent (s : State) :
    (enterSafe s).link.silent = s.link.silent := by
  simp [enterSafe]

@[simp] theorem startStation_silent (s : State) :
    (startStation s).link.silent = s.link.silent := by
  unfold startStation
  dsimp only
  (repeat' split) <;> simp

@[simp] theorem leaveSafeState_silent (s : State) :
    (leaveSafeState s).link.silent = s.link.silent := by
  simp [leaveSafeState]

@[simp] theorem raisePresentExtStop_silent (s : State) :
    (raisePresentExtStop s).link.silent = s.link.silent := by
  unfold raisePresentExtStop
  (repeat' split) <;> simp

@[simp] theorem beerSample_silent (n : Nat) (s : State) :
    (beerSample n s).link.silent = s.link.silent := by
  unfold beerSample
  dsimp only
  (repeat' split) <;> simp

@[simp] theorem jacketSample_silent (n : Nat) (s : State) :
    (jacketSample n s).link.silent = s.link.silent := by
  unfold jacketSample
  dsimp only
  (repeat' split) <;> simp

@[simp] theorem pressureSample_silent (n : Nat) (s : State) :
    (pressureSample n s).link.silent = s.link.silent := by
  unfold pressureSample
  dsimp only
  (repeat' split) <;> simp

@[simp] theorem firstReading_silent (p : SwitchPins) (s : State) :
    (firstReading p s).link.silent = s.link.silent := by
  simp [firstReading]

@[simp] theorem lineChanged_silent (n : Nat) (s : State) :
    (lineChanged n s).link.silent = s.link.silent := by
  unfold lineChanged
  (repeat' split) <;> simp

@[simp] theorem endReception_silent (s : State) :
    (endReception s).link.silent = s.link.silent := by
  simp [endReception]

@[simp] theorem drawHeard_silent (k : DrawKind) (u : Urgency) (s : State) :
    (drawHeard k u s).link.silent = s.link.silent := by
  unfold drawHeard
  (repeat' split) <;> simp

@[simp] theorem leaveQuiet_station (s : State) :
    (leaveQuiet s).sup.station = s.sup.station := by
  simp [leaveQuiet]

@[simp] theorem enterQuiet_station (s : State) :
    (enterQuiet s).sup.station = s.sup.station := by
  simp [enterQuiet]

@[simp] theorem activityEvent_station (e : Activity) (s : State) :
    (activityEvent e s).sup.station = s.sup.station := by
  unfold activityEvent
  (repeat' split) <;> simp

@[simp] theorem raiseAlarm_station (a : Alarm) (s : State) (l : BitVec 4) :
    (raiseAlarm a s l).sup.station = s.sup.station := by
  unfold raiseAlarm
  dsimp only
  (repeat' split) <;> simp

@[simp] theorem endAlarm_station (a : Alarm) (s : State) :
    (endAlarm a s).sup.station = s.sup.station := by
  unfold endAlarm
  (repeat' split) <;> simp

@[simp] theorem evaluateWatch_station (s : State) :
    (evaluateWatch s).sup.station = s.sup.station := by
  unfold evaluateWatch
  (repeat' split) <;> simp

@[simp] theorem supplyTest_station (s : State) :
    (supplyTest s).sup.station = s.sup.station := by
  unfold supplyTest
  dsimp only
  (repeat' split) <;> simp

@[simp] theorem grantPour_station (s : State) :
    (grantPour s).sup.station = s.sup.station := by
  simp [grantPour]

@[simp] theorem requestPour_station (s : State) :
    (requestPour s).sup.station = s.sup.station := by
  unfold requestPour
  (repeat' split) <;> simp

@[simp] theorem takeDeferred_station (s : State) :
    (takeDeferred s).sup.station = s.sup.station := by
  unfold takeDeferred
  dsimp only
  (repeat' split) <;> simp

@[simp] theorem completePour_station (s : State) :
    (completePour s).sup.station = s.sup.station := by
  unfold completePour
  (repeat' split) <;> simp

@[simp] theorem leaveGas_station (g : GasState) (s : State) :
    (leaveGas g s).sup.station = s.sup.station := by
  unfold leaveGas
  (repeat' split) <;> simp

@[simp] theorem enterGas_station (g : GasState) (s : State) :
    (enterGas g s).sup.station = s.sup.station := by
  unfold enterGas
  (repeat' split) <;> simp

@[simp] theorem moveGas_station (g : GasState) (s : State) :
    (moveGas g s).sup.station = s.sup.station := by
  unfold moveGas
  (repeat' split) <;> simp

@[simp] theorem evaluateGas_station (s : State) :
    (evaluateGas s).sup.station = s.sup.station := by
  simp [evaluateGas]

@[simp] theorem settleEnd_station (s : State) :
    (settleEnd s).sup.station = s.sup.station := by
  simp [settleEnd]

@[simp] theorem takeUpMode_station (m : Option GasMode) (s : State) :
    (takeUpMode m s).sup.station = s.sup.station := by
  unfold takeUpMode
  (repeat' split) <;> simp

@[simp] theorem leakHour_station (s : State) :
    (leakHour s).sup.station = s.sup.station := by
  unfold leakHour
  dsimp only
  (repeat' split) <;> simp

@[simp] theorem jacketLimitTest_station (f : Int) (s : State) :
    (jacketLimitTest f s).sup.station = s.sup.station := by
  unfold jacketLimitTest
  (repeat' split) <;> simp

@[simp] theorem beginStep_station (m : Option GasMode) (i : Nat) (r : StepRecord) (s : State) :
    (beginStep m i r s).sup.station = s.sup.station := by
  unfold beginStep
  dsimp only
  (repeat' split) <;> simp

@[simp] theorem takeSwitch_station (n : Nat) (s : State) :
    (takeSwitch n s).sup.station = s.sup.station := by
  unfold takeSwitch
  (repeat' split) <;> simp

@[simp] theorem changeProfile_station (p : ProfileState) (s : State) :
    (changeProfile p s).sup.station = s.sup.station := by
  simp [changeProfile]

@[simp] theorem endStep_station (s : State) :
    (endStep s).sup.station = s.sup.station := by
  unfold endStep
  (repeat' split) <;> simp

@[simp] theorem chain_station (n : Nat) (s : State) :
    (chain n s).sup.station = s.sup.station := by
  induction n generalizing s with
  | zero => simp [chain]
  | succ n ih => unfold chain; split <;> simp [ih]

@[simp] theorem endStepChain_station (s : State) :
    (endStepChain s).sup.station = s.sup.station := by
  simp [endStepChain]

@[simp] theorem takeSwitchChain_station (n : Nat) (s : State) :
    (takeSwitchChain n s).sup.station = s.sup.station := by
  simp [takeSwitchChain]

@[simp] theorem elapseDuration_station (s : State) :
    (elapseDuration s).sup.station = s.sup.station := by
  unfold elapseDuration
  (repeat' split) <;> simp

@[simp] theorem targetReached_station (s : State) :
    (targetReached s).sup.station = s.sup.station := by
  unfold targetReached
  (repeat' split) <;> simp

@[simp] theorem groupSyncAtSequencer_station (g : Nat) (s : State) :
    (groupSyncAtSequencer g s).sup.station = s.sup.station := by
  unfold groupSyncAtSequencer
  (repeat' split) <;> simp

@[simp] theorem groupSyncAccepted_station (g : Nat) (s : State) :
    (groupSyncAccepted g s).sup.station = s.sup.station := by
  simp [groupSyncAccepted]

@[simp] theorem bucketCompleted_station (s : State) :
    (bucketCompleted s).sup.station = s.sup.station := by
  simp [bucketCompleted]

@[simp] theorem stationChanged_station (s : State) :
    (stationChanged s).sup.station = s.sup.station := by
  simp [stationChanged]

@[simp] theorem raisePresentExtStop_station (s : State) :
    (raisePresentExtStop s).sup.station = s.sup.station := by
  unfold raisePresentExtStop
  (repeat' split) <;> simp

@[simp] theorem duplicateHeard_station (s : State) :
    (duplicateHeard s).sup.station = s.sup.station := by
  unfold duplicateHeard
  (repeat' split) <;> simp

@[simp] theorem beerSample_station (n : Nat) (s : State) :
    (beerSample n s).sup.station = s.sup.station := by
  unfold beerSample
  dsimp only
  (repeat' split) <;> simp

@[simp] theorem jacketSample_station (n : Nat) (s : State) :
    (jacketSample n s).sup.station = s.sup.station := by
  unfold jacketSample
  dsimp only
  (repeat' split) <;> simp

@[simp] theorem pressureSample_station (n : Nat) (s : State) :
    (pressureSample n s).sup.station = s.sup.station := by
  unfold pressureSample
  dsimp only
  (repeat' split) <;> simp

@[simp] theorem firstReading_station (p : SwitchPins) (s : State) :
    (firstReading p s).sup.station = s.sup.station := by
  simp [firstReading]

@[simp] theorem lineChanged_station (n : Nat) (s : State) :
    (lineChanged n s).sup.station = s.sup.station := by
  unfold lineChanged
  (repeat' split) <;> simp

@[simp] theorem discardFrame_station (r : Reception) (s : State) :
    (discardFrame r s).sup.station = s.sup.station := by
  unfold discardFrame
  (repeat' split) <;> simp

@[simp] theorem endFlowing_log (r : EndReason) (s : State) :
    (endFlowing r s).disp.level = s.disp.level ∧ (endFlowing r s).disp.log = s.disp.log ∧ (endFlowing r s).disp.nextNumber = s.disp.nextNumber ∧
      (endFlowing r s).disp.wrapped = s.disp.wrapped ∧ (endFlowing r s).disp.pour.map (·.number) = s.disp.pour.map (·.number) ∧
      ((endFlowing r s).disp.state = .idle ↔ s.disp.state = .idle) := by
  unfold endFlowing
  split <;> simp_all [Function.comp_def]

@[simp] theorem flowPulse_log (s : State) :
    (flowPulse s).disp.level = s.disp.level ∧ (flowPulse s).disp.log = s.disp.log ∧ (flowPulse s).disp.nextNumber = s.disp.nextNumber ∧
      (flowPulse s).disp.wrapped = s.disp.wrapped ∧ (flowPulse s).disp.pour.map (·.number) = s.disp.pour.map (·.number) ∧
      ((flowPulse s).disp.state = .idle ↔ s.disp.state = .idle) := by
  unfold flowPulse
  dsimp only
  (repeat' split) <;> simp

@[simp] theorem stallEnd_log (s : State) :
    (stallEnd s).disp.level = s.disp.level ∧ (stallEnd s).disp.log = s.disp.log ∧ (stallEnd s).disp.nextNumber = s.disp.nextNumber ∧
      (stallEnd s).disp.wrapped = s.disp.wrapped ∧ (stallEnd s).disp.pour.map (·.number) = s.disp.pour.map (·.number) ∧
      ((stallEnd s).disp.state = .idle ↔ s.disp.state = .idle) := by
  unfold stallEnd
  (repeat' split) <;> simp

@[simp] theorem lowPressureTest_log (s : State) :
    (lowPressureTest s).disp.level = s.disp.level ∧ (lowPressureTest s).disp.log = s.disp.log ∧ (lowPressureTest s).disp.nextNumber = s.disp.nextNumber ∧
      (lowPressureTest s).disp.wrapped = s.disp.wrapped ∧ (lowPressureTest s).disp.pour.map (·.number) = s.disp.pour.map (·.number) ∧
      ((lowPressureTest s).disp.state = .idle ↔ s.disp.state = .idle) := by
  unfold lowPressureTest
  (repeat' split) <;> simp

@[simp] theorem beginStep_log (m : Option GasMode) (i : Nat) (r : StepRecord) (s : State) :
    (beginStep m i r s).disp.level = s.disp.level ∧ (beginStep m i r s).disp.log = s.disp.log ∧ (beginStep m i r s).disp.nextNumber = s.disp.nextNumber ∧
      (beginStep m i r s).disp.wrapped = s.disp.wrapped ∧ (beginStep m i r s).disp.pour.map (·.number) = s.disp.pour.map (·.number) ∧
      ((beginStep m i r s).disp.state = .idle ↔ s.disp.state = .idle) := by
  unfold beginStep
  dsimp only
  (repeat' split) <;> simp

@[simp] theorem takeSwitch_log (n : Nat) (s : State) :
    (takeSwitch n s).disp.level = s.disp.level ∧ (takeSwitch n s).disp.log = s.disp.log ∧ (takeSwitch n s).disp.nextNumber = s.disp.nextNumber ∧
      (takeSwitch n s).disp.wrapped = s.disp.wrapped ∧ (takeSwitch n s).disp.pour.map (·.number) = s.disp.pour.map (·.number) ∧
      ((takeSwitch n s).disp.state = .idle ↔ s.disp.state = .idle) := by
  unfold takeSwitch
  (repeat' split) <;> simp

@[simp] theorem endStep_log (s : State) :
    (endStep s).disp.level = s.disp.level ∧ (endStep s).disp.log = s.disp.log ∧ (endStep s).disp.nextNumber = s.disp.nextNumber ∧
      (endStep s).disp.wrapped = s.disp.wrapped ∧ (endStep s).disp.pour.map (·.number) = s.disp.pour.map (·.number) ∧
      ((endStep s).disp.state = .idle ↔ s.disp.state = .idle) := by
  unfold endStep
  (repeat' split) <;> simp

@[simp] theorem chain_log (n : Nat) (s : State) :
    (chain n s).disp.level = s.disp.level ∧ (chain n s).disp.log = s.disp.log ∧ (chain n s).disp.nextNumber = s.disp.nextNumber ∧
      (chain n s).disp.wrapped = s.disp.wrapped ∧ (chain n s).disp.pour.map (·.number) = s.disp.pour.map (·.number) ∧
      ((chain n s).disp.state = .idle ↔ s.disp.state = .idle) := by
  induction n generalizing s with
  | zero => simp [chain]
  | succ n ih => unfold chain; split <;> simp [ih]

@[simp] theorem endStepChain_log (s : State) :
    (endStepChain s).disp.level = s.disp.level ∧ (endStepChain s).disp.log = s.disp.log ∧ (endStepChain s).disp.nextNumber = s.disp.nextNumber ∧
      (endStepChain s).disp.wrapped = s.disp.wrapped ∧ (endStepChain s).disp.pour.map (·.number) = s.disp.pour.map (·.number) ∧
      ((endStepChain s).disp.state = .idle ↔ s.disp.state = .idle) := by
  simp [endStepChain]

@[simp] theorem takeSwitchChain_log (n : Nat) (s : State) :
    (takeSwitchChain n s).disp.level = s.disp.level ∧ (takeSwitchChain n s).disp.log = s.disp.log ∧ (takeSwitchChain n s).disp.nextNumber = s.disp.nextNumber ∧
      (takeSwitchChain n s).disp.wrapped = s.disp.wrapped ∧ (takeSwitchChain n s).disp.pour.map (·.number) = s.disp.pour.map (·.number) ∧
      ((takeSwitchChain n s).disp.state = .idle ↔ s.disp.state = .idle) := by
  simp [takeSwitchChain]

@[simp] theorem elapseDuration_log (s : State) :
    (elapseDuration s).disp.level = s.disp.level ∧ (elapseDuration s).disp.log = s.disp.log ∧ (elapseDuration s).disp.nextNumber = s.disp.nextNumber ∧
      (elapseDuration s).disp.wrapped = s.disp.wrapped ∧ (elapseDuration s).disp.pour.map (·.number) = s.disp.pour.map (·.number) ∧
      ((elapseDuration s).disp.state = .idle ↔ s.disp.state = .idle) := by
  unfold elapseDuration
  (repeat' split) <;> simp

@[simp] theorem targetReached_log (s : State) :
    (targetReached s).disp.level = s.disp.level ∧ (targetReached s).disp.log = s.disp.log ∧ (targetReached s).disp.nextNumber = s.disp.nextNumber ∧
      (targetReached s).disp.wrapped = s.disp.wrapped ∧ (targetReached s).disp.pour.map (·.number) = s.disp.pour.map (·.number) ∧
      ((targetReached s).disp.state = .idle ↔ s.disp.state = .idle) := by
  unfold targetReached
  (repeat' split) <;> simp

@[simp] theorem groupSyncAtSequencer_log (g : Nat) (s : State) :
    (groupSyncAtSequencer g s).disp.level = s.disp.level ∧ (groupSyncAtSequencer g s).disp.log = s.disp.log ∧ (groupSyncAtSequencer g s).disp.nextNumber = s.disp.nextNumber ∧
      (groupSyncAtSequencer g s).disp.wrapped = s.disp.wrapped ∧ (groupSyncAtSequencer g s).disp.pour.map (·.number) = s.disp.pour.map (·.number) ∧
      ((groupSyncAtSequencer g s).disp.state = .idle ↔ s.disp.state = .idle) := by
  unfold groupSyncAtSequencer
  (repeat' split) <;> simp

@[simp] theorem groupSyncAccepted_log (g : Nat) (s : State) :
    (groupSyncAccepted g s).disp.level = s.disp.level ∧ (groupSyncAccepted g s).disp.log = s.disp.log ∧ (groupSyncAccepted g s).disp.nextNumber = s.disp.nextNumber ∧
      (groupSyncAccepted g s).disp.wrapped = s.disp.wrapped ∧ (groupSyncAccepted g s).disp.pour.map (·.number) = s.disp.pour.map (·.number) ∧
      ((groupSyncAccepted g s).disp.state = .idle ↔ s.disp.state = .idle) := by
  simp [groupSyncAccepted]

@[simp] theorem bucketCompleted_log (s : State) :
    (bucketCompleted s).disp.level = s.disp.level ∧ (bucketCompleted s).disp.log = s.disp.log ∧ (bucketCompleted s).disp.nextNumber = s.disp.nextNumber ∧
      (bucketCompleted s).disp.wrapped = s.disp.wrapped ∧ (bucketCompleted s).disp.pour.map (·.number) = s.disp.pour.map (·.number) ∧
      ((bucketCompleted s).disp.state = .idle ↔ s.disp.state = .idle) := by
  simp [bucketCompleted]

@[simp] theorem enterSafe_log (s : State) :
    (enterSafe s).disp.level = s.disp.level ∧ (enterSafe s).disp.log = s.disp.log ∧ (enterSafe s).disp.nextNumber = s.disp.nextNumber ∧
      (enterSafe s).disp.wrapped = s.disp.wrapped ∧ (enterSafe s).disp.pour.map (·.number) = s.disp.pour.map (·.number) ∧
      ((enterSafe s).disp.state = .idle ↔ s.disp.state = .idle) := by
  simp [enterSafe]

@[simp] theorem startStation_log (s : State) :
    (startStation s).disp.level = s.disp.level ∧ (startStation s).disp.log = s.disp.log ∧ (startStation s).disp.nextNumber = s.disp.nextNumber ∧
      (startStation s).disp.wrapped = s.disp.wrapped ∧ (startStation s).disp.pour.map (·.number) = s.disp.pour.map (·.number) ∧
      ((startStation s).disp.state = .idle ↔ s.disp.state = .idle) := by
  unfold startStation
  dsimp only
  (repeat' split) <;> simp

@[simp] theorem beerSample_log (n : Nat) (s : State) :
    (beerSample n s).disp.level = s.disp.level ∧ (beerSample n s).disp.log = s.disp.log ∧ (beerSample n s).disp.nextNumber = s.disp.nextNumber ∧
      (beerSample n s).disp.wrapped = s.disp.wrapped ∧ (beerSample n s).disp.pour.map (·.number) = s.disp.pour.map (·.number) ∧
      ((beerSample n s).disp.state = .idle ↔ s.disp.state = .idle) := by
  unfold beerSample
  dsimp only
  (repeat' split) <;> simp

@[simp] theorem pressureSample_log (n : Nat) (s : State) :
    (pressureSample n s).disp.level = s.disp.level ∧ (pressureSample n s).disp.log = s.disp.log ∧ (pressureSample n s).disp.nextNumber = s.disp.nextNumber ∧
      (pressureSample n s).disp.wrapped = s.disp.wrapped ∧ (pressureSample n s).disp.pour.map (·.number) = s.disp.pour.map (·.number) ∧
      ((pressureSample n s).disp.state = .idle ↔ s.disp.state = .idle) := by
  unfold pressureSample
  dsimp only
  (repeat' split) <;> simp

@[simp] theorem countDurations_log (s : State) :
    (countDurations s).disp.level = s.disp.level ∧ (countDurations s).disp.log = s.disp.log ∧ (countDurations s).disp.nextNumber = s.disp.nextNumber ∧
      (countDurations s).disp.wrapped = s.disp.wrapped ∧ (countDurations s).disp.pour.map (·.number) = s.disp.pour.map (·.number) ∧
      ((countDurations s).disp.state = .idle ↔ s.disp.state = .idle) := by
  simp [countDurations, Function.comp_def]

@[simp] theorem beginStep_banks (m : Option GasMode) (i : Nat) (r : StepRecord) (s : State) :
    (beginStep m i r s).seq.bankA = s.seq.bankA ∧ (beginStep m i r s).seq.bankB = s.seq.bankB := by
  unfold beginStep
  dsimp only
  (repeat' split) <;> simp [enterSoaking]

@[simp] theorem takeSwitch_banks (n : Nat) (s : State) :
    (takeSwitch n s).seq.bankA = s.seq.bankA ∧ (takeSwitch n s).seq.bankB = s.seq.bankB := by
  unfold takeSwitch
  (repeat' split) <;> simp

@[simp] theorem changeProfile_banks (p : ProfileState) (s : State) :
    (changeProfile p s).seq.bankA = s.seq.bankA ∧ (changeProfile p s).seq.bankB = s.seq.bankB := by
  simp [changeProfile]

@[simp] theorem endStep_banks (s : State) :
    (endStep s).seq.bankA = s.seq.bankA ∧ (endStep s).seq.bankB = s.seq.bankB := by
  unfold endStep
  (repeat' split) <;> simp

@[simp] theorem chain_banks (n : Nat) (s : State) :
    (chain n s).seq.bankA = s.seq.bankA ∧ (chain n s).seq.bankB = s.seq.bankB := by
  induction n generalizing s with
  | zero => simp [chain]
  | succ n ih => unfold chain; split <;> simp [ih]

@[simp] theorem endStepChain_banks (s : State) :
    (endStepChain s).seq.bankA = s.seq.bankA ∧ (endStepChain s).seq.bankB = s.seq.bankB := by
  simp [endStepChain]

@[simp] theorem takeSwitchChain_banks (n : Nat) (s : State) :
    (takeSwitchChain n s).seq.bankA = s.seq.bankA ∧ (takeSwitchChain n s).seq.bankB = s.seq.bankB := by
  simp [takeSwitchChain]

@[simp] theorem elapseDuration_banks (s : State) :
    (elapseDuration s).seq.bankA = s.seq.bankA ∧ (elapseDuration s).seq.bankB = s.seq.bankB := by
  unfold elapseDuration
  (repeat' split) <;> simp

@[simp] theorem targetReached_banks (s : State) :
    (targetReached s).seq.bankA = s.seq.bankA ∧ (targetReached s).seq.bankB = s.seq.bankB := by
  unfold targetReached
  split <;> simp [enterSoaking]

@[simp] theorem countMinute_banks (s : State) :
    (countMinute s).seq.bankA = s.seq.bankA ∧ (countMinute s).seq.bankB = s.seq.bankB := by
  unfold countMinute
  (repeat' split) <;> simp

@[simp] theorem groupSyncAtSequencer_banks (g : Nat) (s : State) :
    (groupSyncAtSequencer g s).seq.bankA = s.seq.bankA ∧ (groupSyncAtSequencer g s).seq.bankB = s.seq.bankB := by
  unfold groupSyncAtSequencer
  (repeat' split) <;> simp

@[simp] theorem groupSyncAccepted_banks (g : Nat) (s : State) :
    (groupSyncAccepted g s).seq.bankA = s.seq.bankA ∧ (groupSyncAccepted g s).seq.bankB = s.seq.bankB := by
  simp [groupSyncAccepted]

@[simp] theorem bucketCompleted_banks (s : State) :
    (bucketCompleted s).seq.bankA = s.seq.bankA ∧ (bucketCompleted s).seq.bankB = s.seq.bankB := by
  simp [bucketCompleted]

@[simp] theorem moveGas_setpoint (g : GasState) (s : State) :
    (moveGas g s).gas.setpoint = s.gas.setpoint := by
  unfold moveGas
  (repeat' split) <;> simp [Gas.moveTo]

@[simp] theorem evaluateGas_setpoint (s : State) :
    (evaluateGas s).gas.setpoint = s.gas.setpoint := by
  simp [evaluateGas]

@[simp] theorem pulseEnd_setpoint (s : State) :
    (pulseEnd s).gas.setpoint = s.gas.setpoint := by
  simp [pulseEnd, Gas.moveTo]

@[simp] theorem settleEnd_setpoint (s : State) :
    (settleEnd s).gas.setpoint = s.gas.setpoint := by
  simp [settleEnd, Gas.moveTo]

@[simp] theorem takeUpMode_setpoint (m : Option GasMode) (s : State) :
    (takeUpMode m s).gas.setpoint = s.gas.setpoint := by
  unfold takeUpMode
  (repeat' split) <;> simp [Gas.moveTo]

@[simp] theorem updateLeak_setpoint (s : State) :
    (updateLeak s).gas.setpoint = s.gas.setpoint := by
  simp [updateLeak]

@[simp] theorem leakDrift_setpoint (t : Int) (s : State) :
    (leakDrift t s).gas.setpoint = s.gas.setpoint := by
  unfold leakDrift
  (repeat' split) <;> simp

@[simp] theorem leakHour_setpoint (s : State) :
    (leakHour s).gas.setpoint = s.gas.setpoint := by
  unfold leakHour
  dsimp only
  (repeat' split) <;> simp

@[simp] theorem completeBucket_setpoint (s : State) :
    (completeBucket s).gas.setpoint = s.gas.setpoint := by
  simp only [completeBucket, State.mapGas_gas]
  split <;> rfl

@[simp] theorem clearRing_setpoint (s : State) :
    (clearRing s).gas.setpoint = s.gas.setpoint := by
  simp [clearRing]

@[simp] theorem changeProfile_setpoint (p : ProfileState) (s : State) :
    (changeProfile p s).gas.setpoint = s.gas.setpoint := by
  simp [changeProfile]

@[simp] theorem stationChanged_setpoint (s : State) :
    (stationChanged s).gas.setpoint = s.gas.setpoint := by
  simp [stationChanged]

@[simp] theorem enterSafe_setpoint (s : State) :
    (enterSafe s).gas.setpoint = s.gas.setpoint := by
  simp [enterSafe]

@[simp] theorem leaveSafeState_setpoint (s : State) :
    (leaveSafeState s).gas.setpoint = s.gas.setpoint := by
  simp [leaveSafeState]

@[simp] theorem beerSample_setpoint (n : Nat) (s : State) :
    (beerSample n s).gas.setpoint = s.gas.setpoint := by
  unfold beerSample
  dsimp only
  (repeat' split) <;> simp

@[simp] theorem countDurations_setpoint (s : State) :
    (countDurations s).gas.setpoint = s.gas.setpoint := by
  simp [countDurations]

@[simp] theorem makeClaim_causes (s : State) :
    (makeClaim s).draw.causes = s.draw.causes := by
  unfold makeClaim
  dsimp only
  (repeat' split) <;> simp [Draw.enter]

@[simp] theorem examine_causes (s : State) :
    (examine s).draw.causes = s.draw.causes := by
  unfold examine
  dsimp only
  (repeat' split) <;> simp

@[simp] theorem enterWaiting_causes (s : State) :
    (enterWaiting s).draw.causes = s.draw.causes := by
  simp [enterWaiting, Draw.enter]

@[simp] theorem needArrives_causes (s : State) :
    (needArrives s).draw.causes = s.draw.causes := by
  unfold needArrives
  dsimp only
  (repeat' split) <;> simp

@[simp] theorem needEnds_causes (s : State) :
    (needEnds s).draw.causes = s.draw.causes := by
  unfold needEnds
  dsimp only
  (repeat' split) <;> simp [Draw.enter]

@[simp] theorem releaseToRecover_causes (s : State) :
    (releaseToRecover s).draw.causes = s.draw.causes := by
  simp [releaseToRecover, Draw.enter]

@[simp] theorem giveUp_causes (s : State) :
    (giveUp s).draw.causes = s.draw.causes := by
  simp [giveUp, Draw.enter]

@[simp] theorem keepClaim_causes (s : State) :
    (keepClaim s).draw.causes = s.draw.causes := by
  simp [keepClaim, Draw.enter]

@[simp] theorem contendAgain_causes (s : State) :
    (contendAgain s).draw.causes = s.draw.causes := by
  unfold contendAgain
  (repeat' split) <;> simp [Draw.enter]

@[simp] theorem shortenBackoff_causes (s : State) :
    (shortenBackoff s).draw.causes = s.draw.causes := by
  unfold shortenBackoff
  dsimp only
  (repeat' split) <;> simp

@[simp] theorem formUrgency_causes (s : State) :
    (formUrgency s).draw.causes = s.draw.causes := by
  unfold formUrgency
  dsimp only
  (repeat' split) <;> simp

@[simp] theorem enterLocked_causes (s : State) :
    (enterLocked s).draw.causes = s.draw.causes := by
  unfold enterLocked
  (repeat' split) <;> simp [Draw.enter]

@[simp] theorem supplyTest_causes (s : State) :
    (supplyTest s).draw.causes = s.draw.causes := by
  unfold supplyTest
  dsimp only
  (repeat' split) <;> simp

@[simp] theorem decideClaim_causes (s : State) :
    (decideClaim s).draw.causes = s.draw.causes := by
  unfold decideClaim
  (repeat' split) <;> simp

@[simp] theorem keepPeriod_causes (s : State) :
    (keepPeriod s).draw.causes = s.draw.causes := by
  unfold keepPeriod
  (repeat' split) <;> simp

@[simp] theorem claimSent_causes (s : State) :
    (claimSent s).draw.causes = s.draw.causes := by
  unfold claimSent
  (repeat' split) <;> simp

@[simp] theorem claimDropped_causes (s : State) :
    (claimDropped s).draw.causes = s.draw.causes := by
  unfold claimDropped
  (repeat' split) <;> simp

@[simp] theorem pourStateChanged_causes (s : State) :
    (pourStateChanged s).draw.causes = s.draw.causes := by
  simp [pourStateChanged]

@[simp] theorem grantPour_causes (s : State) :
    (grantPour s).draw.causes = s.draw.causes := by
  simp [grantPour]

@[simp] theorem requestPour_causes (s : State) :
    (requestPour s).draw.causes = s.draw.causes := by
  unfold requestPour
  (repeat' split) <;> simp

@[simp] theorem endFlowing_causes (r : EndReason) (s : State) :
    (endFlowing r s).draw.causes = s.draw.causes := by
  unfold endFlowing
  (repeat' split) <;> simp

@[simp] theorem takeDeferred_causes (s : State) :
    (takeDeferred s).draw.causes = s.draw.causes := by
  unfold takeDeferred
  dsimp only
  (repeat' split) <;> simp

@[simp] theorem completePour_causes (s : State) :
    (completePour s).draw.causes = s.draw.causes := by
  unfold completePour
  (repeat' split) <;> simp

@[simp] theorem flowPulse_causes (s : State) :
    (flowPulse s).draw.causes = s.draw.causes := by
  unfold flowPulse
  dsimp only
  (repeat' split) <;> simp

@[simp] theorem stallEnd_causes (s : State) :
    (stallEnd s).draw.causes = s.draw.causes := by
  unfold stallEnd
  (repeat' split) <;> simp

@[simp] theorem dropForcedInlet_causes (s : State) :
    (dropForcedInlet s).draw.causes = s.draw.causes := by
  unfold dropForcedInlet
  (repeat' split) <;> simp

@[simp] theorem leaveGas_causes (g : GasState) (s : State) :
    (leaveGas g s).draw.causes = s.draw.causes := by
  unfold leaveGas
  (repeat' split) <;> simp

@[simp] theorem enterGas_causes (g : GasState) (s : State) :
    (enterGas g s).draw.causes = s.draw.causes := by
  unfold enterGas
  (repeat' split) <;> simp

@[simp] theorem moveGas_causes (g : GasState) (s : State) :
    (moveGas g s).draw.causes = s.draw.causes := by
  unfold moveGas
  (repeat' split) <;> simp

@[simp] theorem evaluateGas_causes (s : State) :
    (evaluateGas s).draw.causes = s.draw.causes := by
  simp [evaluateGas]

@[simp] theorem settleEnd_causes (s : State) :
    (settleEnd s).draw.causes = s.draw.causes := by
  simp [settleEnd]

@[simp] theorem takeUpMode_causes (m : Option GasMode) (s : State) :
    (takeUpMode m s).draw.causes = s.draw.causes := by
  unfold takeUpMode
  (repeat' split) <;> simp

@[simp] theorem changeProfile_causes (p : ProfileState) (s : State) :
    (changeProfile p s).draw.causes = s.draw.causes := by
  simp [changeProfile]

@[simp] theorem beerSample_causes (n : Nat) (s : State) :
    (beerSample n s).draw.causes = s.draw.causes := by
  unfold beerSample
  dsimp only
  (repeat' split) <;> simp

@[simp] theorem pressureSample_causes (n : Nat) (s : State) :
    (pressureSample n s).draw.causes = s.draw.causes := by
  unfold pressureSample
  dsimp only
  (repeat' split) <;> simp

@[simp] theorem countDurations_causes (s : State) :
    (countDurations s).draw.causes = s.draw.causes := by
  simp [countDurations]

@[simp] theorem drawHeard_causes (k : DrawKind) (u : Urgency) (s : State) :
    (drawHeard k u s).draw.causes = s.draw.causes := by
  unfold drawHeard
  (repeat' split) <;> simp

@[simp] theorem makeClaim_notLocked (s : State) :
    (makeClaim s).draw.state ≠ .locked := by
  unfold makeClaim
  dsimp only
  (repeat' split) <;> simp [Draw.enter]

@[simp] theorem enterWaiting_notLocked (s : State) :
    (enterWaiting s).draw.state ≠ .locked := by
  unfold enterWaiting examine
  dsimp only
  (repeat' split) <;> simp [Draw.enter]

@[simp] theorem releaseToRecover_notLocked (s : State) :
    (releaseToRecover s).draw.state ≠ .locked := by
  simp [releaseToRecover, Draw.enter]

@[simp] theorem giveUp_notLocked (s : State) :
    (giveUp s).draw.state ≠ .locked := by
  simp [giveUp, Draw.enter]

@[simp] theorem keepClaim_notLocked (s : State) :
    (keepClaim s).draw.state ≠ .locked := by
  simp [keepClaim, Draw.enter]

@[simp] theorem contendAgain_notLocked (s : State) :
    (contendAgain s).draw.state ≠ .locked := by
  unfold contendAgain
  split <;> simp [Draw.enter]

@[simp] theorem decideClaim_notLocked (s : State) :
    (decideClaim s).draw.state ≠ .locked := by
  unfold decideClaim
  split <;> simp

@[simp] theorem examine_drawLocked (s : State) :
    ((examine s).draw.state = .locked ↔ s.draw.state = .locked) := by
  unfold examine
  dsimp only
  (repeat' split) <;> simp_all

@[simp] theorem needArrives_drawLocked (s : State) :
    ((needArrives s).draw.state = .locked ↔ s.draw.state = .locked) := by
  unfold needArrives
  dsimp only
  (repeat' split) <;> simp_all

@[simp] theorem needEnds_drawLocked (s : State) :
    ((needEnds s).draw.state = .locked ↔ s.draw.state = .locked) := by
  unfold needEnds
  dsimp only
  (repeat' split) <;> simp_all [Draw.enter]

@[simp] theorem formUrgency_drawLocked (s : State) :
    ((formUrgency s).draw.state = .locked ↔ s.draw.state = .locked) := by
  unfold formUrgency
  dsimp only
  (repeat' split) <;> simp_all [shortenBackoff]
  split <;> simp_all

@[simp] theorem supplyTest_drawLocked (s : State) :
    ((supplyTest s).draw.state = .locked ↔ s.draw.state = .locked) := by
  unfold supplyTest
  dsimp only
  (repeat' split) <;> simp_all

@[simp] theorem claimSent_drawLocked (s : State) :
    ((claimSent s).draw.state = .locked ↔ s.draw.state = .locked) := by
  unfold claimSent
  (repeat' split) <;> simp

@[simp] theorem claimDropped_drawLocked (s : State) :
    ((claimDropped s).draw.state = .locked ↔ s.draw.state = .locked) := by
  unfold claimDropped
  split <;> simp_all

@[simp] theorem pourStateChanged_drawLocked (s : State) :
    ((pourStateChanged s).draw.state = .locked ↔ s.draw.state = .locked) := by
  simp [pourStateChanged]

@[simp] theorem grantPour_drawLocked (s : State) :
    ((grantPour s).draw.state = .locked ↔ s.draw.state = .locked) := by
  simp [grantPour]

@[simp] theorem requestPour_drawLocked (s : State) :
    ((requestPour s).draw.state = .locked ↔ s.draw.state = .locked) := by
  unfold requestPour
  (repeat' split) <;> simp

@[simp] theorem endFlowing_drawLocked (r : EndReason) (s : State) :
    ((endFlowing r s).draw.state = .locked ↔ s.draw.state = .locked) := by
  unfold endFlowing
  (repeat' split) <;> simp

@[simp] theorem takeDeferred_drawLocked (s : State) :
    ((takeDeferred s).draw.state = .locked ↔ s.draw.state = .locked) := by
  unfold takeDeferred
  dsimp only
  (repeat' split) <;> simp

@[simp] theorem completePour_drawLocked (s : State) :
    ((completePour s).draw.state = .locked ↔ s.draw.state = .locked) := by
  unfold completePour
  (repeat' split) <;> simp

@[simp] theorem flowPulse_drawLocked (s : State) :
    ((flowPulse s).draw.state = .locked ↔ s.draw.state = .locked) := by
  unfold flowPulse
  dsimp only
  (repeat' split) <;> simp

@[simp] theorem stallEnd_drawLocked (s : State) :
    ((stallEnd s).draw.state = .locked ↔ s.draw.state = .locked) := by
  unfold stallEnd
  (repeat' split) <;> simp

@[simp] theorem dropForcedInlet_drawLocked (s : State) :
    ((dropForcedInlet s).draw.state = .locked ↔ s.draw.state = .locked) := by
  unfold dropForcedInlet
  (repeat' split) <;> simp

@[simp] theorem leaveGas_drawLocked (g : GasState) (s : State) :
    ((leaveGas g s).draw.state = .locked ↔ s.draw.state = .locked) := by
  unfold leaveGas
  (repeat' split) <;> simp

@[simp] theorem enterGas_drawLocked (g : GasState) (s : State) :
    ((enterGas g s).draw.state = .locked ↔ s.draw.state = .locked) := by
  unfold enterGas
  (repeat' split) <;> simp

@[simp] theorem moveGas_drawLocked (g : GasState) (s : State) :
    ((moveGas g s).draw.state = .locked ↔ s.draw.state = .locked) := by
  unfold moveGas
  (repeat' split) <;> simp

@[simp] theorem evaluateGas_drawLocked (s : State) :
    ((evaluateGas s).draw.state = .locked ↔ s.draw.state = .locked) := by
  simp [evaluateGas]

@[simp] theorem settleEnd_drawLocked (s : State) :
    ((settleEnd s).draw.state = .locked ↔ s.draw.state = .locked) := by
  simp [settleEnd]

@[simp] theorem takeUpMode_drawLocked (m : Option GasMode) (s : State) :
    ((takeUpMode m s).draw.state = .locked ↔ s.draw.state = .locked) := by
  unfold takeUpMode
  (repeat' split) <;> simp

@[simp] theorem changeProfile_drawLocked (p : ProfileState) (s : State) :
    ((changeProfile p s).draw.state = .locked ↔ s.draw.state = .locked) := by
  simp [changeProfile]

@[simp] theorem beerSample_drawLocked (n : Nat) (s : State) :
    ((beerSample n s).draw.state = .locked ↔ s.draw.state = .locked) := by
  unfold beerSample
  dsimp only
  (repeat' split) <;> simp

@[simp] theorem pressureSample_drawLocked (n : Nat) (s : State) :
    ((pressureSample n s).draw.state = .locked ↔ s.draw.state = .locked) := by
  unfold pressureSample
  dsimp only
  (repeat' split) <;> simp

@[simp] theorem countDurations_drawLocked (s : State) :
    ((countDurations s).draw.state = .locked ↔ s.draw.state = .locked) := by
  simp [countDurations]

@[simp] theorem drawHeard_drawLocked (k : DrawKind) (u : Urgency) (s : State) :
    ((drawHeard k u s).draw.state = .locked ↔ s.draw.state = .locked) := by
  unfold drawHeard
  split <;> simp_all [mustYield]

@[simp] theorem evaluateWatch_switches (s : State) :
    (evaluateWatch s).sampling.keg = s.sampling.keg ∧ (evaluateWatch s).sampling.levelsTaken = s.sampling.levelsTaken := by
  unfold evaluateWatch
  (repeat' split) <;> simp

@[simp] theorem beerSample_switches (n : Nat) (s : State) :
    (beerSample n s).sampling.keg = s.sampling.keg ∧ (beerSample n s).sampling.levelsTaken = s.sampling.levelsTaken := by
  unfold beerSample
  dsimp only
  (repeat' split) <;> simp

@[simp] theorem jacketSample_switches (n : Nat) (s : State) :
    (jacketSample n s).sampling.keg = s.sampling.keg ∧ (jacketSample n s).sampling.levelsTaken = s.sampling.levelsTaken := by
  unfold jacketSample
  dsimp only
  (repeat' split) <;> simp

@[simp] theorem pressureSample_switches (n : Nat) (s : State) :
    (pressureSample n s).sampling.keg = s.sampling.keg ∧ (pressureSample n s).sampling.levelsTaken = s.sampling.levelsTaken := by
  unfold pressureSample
  dsimp only
  (repeat' split) <;> simp

@[simp] theorem lineChanged_switches (n : Nat) (s : State) :
    (lineChanged n s).sampling.keg = s.sampling.keg ∧ (lineChanged n s).sampling.levelsTaken = s.sampling.levelsTaken := by
  unfold lineChanged
  (repeat' split) <;> simp

@[simp] theorem formWindow_accumulator (s : State) :
    (formWindow s).temp.accumulator = s.temp.accumulator := by
  unfold formWindow
  (repeat' split) <;> simp

@[simp] theorem withdrawWindow_accumulator (s : State) :
    (withdrawWindow s).temp.accumulator = s.temp.accumulator := by
  simp [withdrawWindow]

@[simp] theorem jacketLimitTest_accumulator (f : Int) (s : State) :
    (jacketLimitTest f s).temp.accumulator = s.temp.accumulator := by
  unfold jacketLimitTest
  (repeat' split) <;> simp

@[simp] theorem enterSafe_accumulator (s : State) :
    (enterSafe s).temp.accumulator = s.temp.accumulator := by
  simp [enterSafe]

@[simp] theorem startStation_accumulator (s : State) :
    (startStation s).temp.accumulator = s.temp.accumulator := by
  unfold startStation
  dsimp only
  (repeat' split) <;> simp

@[simp] theorem beerSample_accumulator (n : Nat) (s : State) :
    (beerSample n s).temp.accumulator = s.temp.accumulator := by
  unfold beerSample
  dsimp only
  (repeat' split) <;> simp

@[simp] theorem jacketSample_accumulator (n : Nat) (s : State) :
    (jacketSample n s).temp.accumulator = s.temp.accumulator := by
  unfold jacketSample
  dsimp only
  (repeat' split) <;> simp

@[simp] theorem countDurations_accumulator (s : State) :
    (countDurations s).temp.accumulator = s.temp.accumulator := by
  simp [countDurations]

@[simp] theorem withdrawWindow_integral (s : State) :
    (withdrawWindow s).temp.integral = s.temp.integral := by
  simp [withdrawWindow]

@[simp] theorem jacketLimitTest_integral (f : Int) (s : State) :
    (jacketLimitTest f s).temp.integral = s.temp.integral := by
  unfold jacketLimitTest
  (repeat' split) <;> simp

@[simp] theorem beginStep_integral (m : Option GasMode) (i : Nat) (r : StepRecord) (s : State) :
    (beginStep m i r s).temp.integral = s.temp.integral := by
  unfold beginStep
  dsimp only
  (repeat' split) <;> simp

@[simp] theorem takeSwitch_integral (n : Nat) (s : State) :
    (takeSwitch n s).temp.integral = s.temp.integral := by
  unfold takeSwitch
  (repeat' split) <;> simp

@[simp] theorem endStep_integral (s : State) :
    (endStep s).temp.integral = s.temp.integral := by
  unfold endStep
  (repeat' split) <;> simp

@[simp] theorem chain_integral (n : Nat) (s : State) :
    (chain n s).temp.integral = s.temp.integral := by
  induction n generalizing s with
  | zero => simp [chain]
  | succ n ih => unfold chain; split <;> simp [ih]

@[simp] theorem endStepChain_integral (s : State) :
    (endStepChain s).temp.integral = s.temp.integral := by
  simp [endStepChain]

@[simp] theorem takeSwitchChain_integral (n : Nat) (s : State) :
    (takeSwitchChain n s).temp.integral = s.temp.integral := by
  simp [takeSwitchChain]

@[simp] theorem elapseDuration_integral (s : State) :
    (elapseDuration s).temp.integral = s.temp.integral := by
  unfold elapseDuration
  (repeat' split) <;> simp

@[simp] theorem targetReached_integral (s : State) :
    (targetReached s).temp.integral = s.temp.integral := by
  unfold targetReached
  (repeat' split) <;> simp

@[simp] theorem groupSyncAtSequencer_integral (g : Nat) (s : State) :
    (groupSyncAtSequencer g s).temp.integral = s.temp.integral := by
  unfold groupSyncAtSequencer
  (repeat' split) <;> simp

@[simp] theorem groupSyncAccepted_integral (g : Nat) (s : State) :
    (groupSyncAccepted g s).temp.integral = s.temp.integral := by
  simp [groupSyncAccepted]

@[simp] theorem bucketCompleted_integral (s : State) :
    (bucketCompleted s).temp.integral = s.temp.integral := by
  simp [bucketCompleted]

@[simp] theorem enterSafe_integral (s : State) :
    (enterSafe s).temp.integral = s.temp.integral := by
  simp [enterSafe]

@[simp] theorem startStation_integral (s : State) :
    (startStation s).temp.integral = s.temp.integral := by
  unfold startStation
  dsimp only
  (repeat' split) <;> simp

@[simp] theorem beerSample_integral (n : Nat) (s : State) :
    (beerSample n s).temp.integral = s.temp.integral := by
  unfold beerSample
  dsimp only
  (repeat' split) <;> simp

@[simp] theorem jacketSample_integral (n : Nat) (s : State) :
    (jacketSample n s).temp.integral = s.temp.integral := by
  unfold jacketSample
  dsimp only
  (repeat' split) <;> simp

@[simp] theorem countDurations_integral (s : State) :
    (countDurations s).temp.integral = s.temp.integral := by
  simp [countDurations]

/-! The relief ceiling in force changes at a 100 ms event and a reset alone (R61): every other operation keeps it. -/

@[simp] theorem moveGas_ceiling (g : GasState) (s : State) :
    (moveGas g s).gas.ceiling = s.gas.ceiling := by
  unfold moveGas
  (repeat' split) <;> simp [Gas.moveTo]

@[simp] theorem evaluateGas_ceiling (s : State) :
    (evaluateGas s).gas.ceiling = s.gas.ceiling := by
  simp [evaluateGas]

@[simp] theorem pulseEnd_ceiling (s : State) :
    (pulseEnd s).gas.ceiling = s.gas.ceiling := by
  simp [pulseEnd, Gas.moveTo]

@[simp] theorem settleEnd_ceiling (s : State) :
    (settleEnd s).gas.ceiling = s.gas.ceiling := by
  simp [settleEnd, Gas.moveTo]

@[simp] theorem takeUpMode_ceiling (m : Option GasMode) (s : State) :
    (takeUpMode m s).gas.ceiling = s.gas.ceiling := by
  unfold takeUpMode
  (repeat' split) <;> simp [Gas.moveTo]

@[simp] theorem updateLeak_ceiling (s : State) :
    (updateLeak s).gas.ceiling = s.gas.ceiling := by
  simp [updateLeak]

@[simp] theorem leakDrift_ceiling (t : Int) (s : State) :
    (leakDrift t s).gas.ceiling = s.gas.ceiling := by
  unfold leakDrift
  (repeat' split) <;> simp

@[simp] theorem leakHour_ceiling (s : State) :
    (leakHour s).gas.ceiling = s.gas.ceiling := by
  unfold leakHour
  dsimp only
  (repeat' split) <;> simp

@[simp] theorem completeBucket_ceiling (s : State) :
    (completeBucket s).gas.ceiling = s.gas.ceiling := by
  simp only [completeBucket, State.mapGas_gas]
  split <;> rfl

@[simp] theorem clearRing_ceiling (s : State) :
    (clearRing s).gas.ceiling = s.gas.ceiling := by
  simp [clearRing]

@[simp] theorem changeProfile_ceiling (p : ProfileState) (s : State) :
    (changeProfile p s).gas.ceiling = s.gas.ceiling := by
  simp [changeProfile]

@[simp] theorem stationChanged_ceiling (s : State) :
    (stationChanged s).gas.ceiling = s.gas.ceiling := by
  simp [stationChanged]

@[simp] theorem enterSafe_ceiling (s : State) :
    (enterSafe s).gas.ceiling = s.gas.ceiling := by
  simp [enterSafe]

@[simp] theorem leaveSafeState_ceiling (s : State) :
    (leaveSafeState s).gas.ceiling = s.gas.ceiling := by
  simp [leaveSafeState]

@[simp] theorem beerSample_ceiling (n : Nat) (s : State) :
    (beerSample n s).gas.ceiling = s.gas.ceiling := by
  unfold beerSample
  dsimp only
  (repeat' split) <;> simp

@[simp] theorem countDurations_ceiling (s : State) :
    (countDurations s).gas.ceiling = s.gas.ceiling := by
  simp [countDurations]

@[simp] theorem computeSetpoint_ceiling (s : State) :
    (computeSetpoint s).gas.ceiling = s.gas.ceiling := by
  unfold computeSetpoint
  (repeat' split) <;> simp

@[simp] theorem refitSetpoint_ceiling (s : State) :
    (refitSetpoint s).gas.ceiling = s.gas.ceiling := by
  unfold refitSetpoint
  (repeat' split) <;> simp

@[simp] theorem beginStep_ceiling (m : Option GasMode) (i : Nat) (r : StepRecord) (s : State) :
    (beginStep m i r s).gas.ceiling = s.gas.ceiling := by
  unfold beginStep
  dsimp only
  (repeat' split) <;> simp [enterSoaking]

@[simp] theorem takeSwitch_ceiling (n : Nat) (s : State) :
    (takeSwitch n s).gas.ceiling = s.gas.ceiling := by
  unfold takeSwitch
  (repeat' split) <;> simp

@[simp] theorem endStep_ceiling (s : State) :
    (endStep s).gas.ceiling = s.gas.ceiling := by
  unfold endStep
  (repeat' split) <;> simp

@[simp] theorem chain_ceiling (n : Nat) (s : State) :
    (chain n s).gas.ceiling = s.gas.ceiling := by
  induction n generalizing s with
  | zero => simp [chain]
  | succ n ih => unfold chain; split <;> simp [ih]

@[simp] theorem endStepChain_ceiling (s : State) :
    (endStepChain s).gas.ceiling = s.gas.ceiling := by
  simp [endStepChain]

@[simp] theorem takeSwitchChain_ceiling (n : Nat) (s : State) :
    (takeSwitchChain n s).gas.ceiling = s.gas.ceiling := by
  simp [takeSwitchChain]

@[simp] theorem elapseDuration_ceiling (s : State) :
    (elapseDuration s).gas.ceiling = s.gas.ceiling := by
  unfold elapseDuration
  (repeat' split) <;> simp

@[simp] theorem targetReached_ceiling (s : State) :
    (targetReached s).gas.ceiling = s.gas.ceiling := by
  unfold targetReached
  split <;> simp

@[simp] theorem countMinute_ceiling (s : State) :
    (countMinute s).gas.ceiling = s.gas.ceiling := by
  unfold countMinute
  (repeat' split) <;> simp

@[simp] theorem groupSyncAtSequencer_ceiling (g : Nat) (s : State) :
    (groupSyncAtSequencer g s).gas.ceiling = s.gas.ceiling := by
  unfold groupSyncAtSequencer
  (repeat' split) <;> simp

@[simp] theorem groupSyncAccepted_ceiling (g : Nat) (s : State) :
    (groupSyncAccepted g s).gas.ceiling = s.gas.ceiling := by
  simp [groupSyncAccepted]

@[simp] theorem bucketCompleted_ceiling (s : State) :
    (bucketCompleted s).gas.ceiling = s.gas.ceiling := by
  simp [bucketCompleted]

end Sys2Proof.Machine
end

