-- ==== Sys2Proof/Laws/Commands.lean ====
section
/-! SUPPORT. How a property that the parts of a step keep is kept by the whole step: `perform`, an accepted frame, a
command frame. -/

namespace Sys2Proof.Machine

/-- A step made by `perform` keeps what its effect and the leak check keep. -/
theorem perform_keeps {P : State → Prop} {f : State → State} {s t : State} (h : perform f s = .next t)
    (hl : ∀ s, P s → P (updateLeak s)) (hf : s.held = false → P s → P (f s)) (hs : P s) : P t := by
  unfold perform at h
  obtain rfl := Host.Outcome.next.inj h
  split
  · exact hs
  · exact hl _ (hf (by simp_all) hs)

/-- An accepted frame keeps what the end of a reception, a duplicate and its own effect keep. -/
theorem acceptFrame_keeps {P : State → Prop} {h : Header} {act : State → State} {s : State}
    (he : ∀ s, canReceive s = true → P s → P (endReception s))
    (hd : ∀ s, P (endReception s) → P (duplicateHeard (endReception s)))
    (ha : ∀ s, h.src ≠ 0 → h.src ≠ s.ident.number → P s → P (act s)) (hs : P s) : P (acceptFrame h act s) := by
  unfold acceptFrame
  dsimp only
  (repeat' split)
  · exact he _ (by assumption) hs
  · exact hd _ (he _ (by assumption) hs)
  · exact ha _ (by assumption) (by simp_all) (he _ (by assumption) hs)
  · exact he _ (by assumption) hs
  · exact hs

/-- A command frame keeps what its parts and the command itself keep. -/
theorem commandFrame_keeps {P : State → Prop} {c : CommandName} {h : Header} {tag : Byte} {args : List Byte}
    {p : State → Reply} {s : State} (he : ∀ s, canReceive s = true → P s → P (endReception s))
    (hd : ∀ s, P (endReception s) → P (duplicateHeard (endReception s)))
    (hv : ∀ s, P s → P (activityEvent .command s)) (hq : ∀ f s, P s → P (queueFrame f s))
    (hp : ∀ s, P s → P (p s).state) (hs : P s) : P (commandFrame c h tag args p s) := by
  unfold commandFrame
  refine acceptFrame_keeps he hd (fun s _ _ hs => ?_) hs
  split
  · unfold answerCommand queueResult
    dsimp only
    (repeat' split) <;> first | exact hq _ _ (hp _ (hv _ hs)) | exact hp _ (hv _ hs) | exact hq _ _ (hv _ hs) | exact hv _ hs
  · unfold groupCommand; split
    exacts [hp _ hs, hs]
  · unfold groupCommand; split
    exacts [hp _ hs, hs]

end Sys2Proof.Machine
end

