-- ==== Sys2Proof/Laws/EffectFrames.lean ====
section
/-! SUPPORT. What the effect of each command leaves unchanged. -/

namespace Sys2Proof.Machine

@[simp] theorem coordinatorHandOver_frame (w : Bool) (s : State) :
    (coordinatorHandOver w s).pending = s.pending ∧ (coordinatorHandOver w s).held = s.held ∧ (coordinatorHandOver w s).ident = s.ident ∧ (coordinatorHandOver w s).time = s.time ∧ (coordinatorHandOver w s).setup = s.setup ∧ (coordinatorHandOver w s).sampling = s.sampling ∧ (coordinatorHandOver w s).drivers = s.drivers ∧ (coordinatorHandOver w s).view = s.view ∧ (coordinatorHandOver w s).seq = s.seq ∧ (coordinatorHandOver w s).temp = s.temp ∧ (coordinatorHandOver w s).cool = s.cool ∧ (coordinatorHandOver w s).gas = s.gas ∧ (coordinatorHandOver w s).disp = s.disp := by
  unfold coordinatorHandOver
  (repeat' split) <;> simp

@[simp] theorem hundredMsEvent_frame (n : Nat) (b : Bool) (s : State) :
    (hundredMsEvent n b s).pending = s.pending ∧ (hundredMsEvent n b s).held = s.held ∧ (hundredMsEvent n b s).ident = s.ident ∧ (hundredMsEvent n b s).setup = s.setup ∧ (hundredMsEvent n b s).view = s.view ∧ (hundredMsEvent n b s).seq = s.seq ∧ (hundredMsEvent n b s).temp = s.temp ∧ (hundredMsEvent n b s).cool = s.cool := by
  unfold hundredMsEvent
  (repeat' split) <;> simp

@[simp] theorem countReport_frame (s : State) :
    (countReport s).pending = s.pending ∧ (countReport s).held = s.held ∧ (countReport s).ident = s.ident ∧ (countReport s).time = s.time ∧ (countReport s).setup = s.setup ∧ (countReport s).sup = s.sup ∧ (countReport s).sampling = s.sampling ∧ (countReport s).drivers = s.drivers ∧ (countReport s).view = s.view ∧ (countReport s).seq = s.seq ∧ (countReport s).temp = s.temp ∧ (countReport s).cool = s.cool ∧ (countReport s).gas = s.gas ∧ (countReport s).draw = s.draw ∧ (countReport s).disp = s.disp := by
  unfold countReport
  (repeat' split) <;> simp

@[simp] theorem oneSecondEvent_frame (m n : Nat) (s : State) :
    (oneSecondEvent m n s).pending = s.pending ∧ (oneSecondEvent m n s).held = s.held ∧ (oneSecondEvent m n s).ident = s.ident ∧ (oneSecondEvent m n s).setup = s.setup ∧ (oneSecondEvent m n s).drivers = s.drivers ∧ (oneSecondEvent m n s).view = s.view ∧ (oneSecondEvent m n s).seq = s.seq := by
  simp [oneSecondEvent]

@[simp] theorem countIdle_frame (s : State) :
    (countIdle s).pending = s.pending ∧ (countIdle s).held = s.held ∧ (countIdle s).ident = s.ident ∧ (countIdle s).time = s.time ∧ (countIdle s).setup = s.setup ∧ (countIdle s).sampling = s.sampling ∧ (countIdle s).drivers = s.drivers ∧ (countIdle s).link = s.link ∧ (countIdle s).view = s.view ∧ (countIdle s).seq = s.seq ∧ (countIdle s).temp = s.temp ∧ (countIdle s).cool = s.cool ∧ (countIdle s).gas = s.gas ∧ (countIdle s).draw = s.draw ∧ (countIdle s).disp = s.disp := by
  unfold countIdle
  (repeat' split) <;> simp

@[simp] theorem sequencerMinute_frame (b : Bool) (s : State) :
    (sequencerMinute b s).pending = s.pending ∧ (sequencerMinute b s).held = s.held ∧ (sequencerMinute b s).ident = s.ident ∧ (sequencerMinute b s).time = s.time ∧ (sequencerMinute b s).setup = s.setup ∧ (sequencerMinute b s).sampling = s.sampling ∧ (sequencerMinute b s).view = s.view ∧ (sequencerMinute b s).cool = s.cool := by
  unfold sequencerMinute
  (repeat' split) <;> simp

@[simp] theorem rampMove_frame (s : State) :
    ((rampMove s).1).pending = s.pending ∧ ((rampMove s).1).held = s.held ∧ ((rampMove s).1).ident = s.ident ∧ ((rampMove s).1).time = s.time ∧ ((rampMove s).1).setup = s.setup ∧ ((rampMove s).1).sup = s.sup ∧ ((rampMove s).1).sampling = s.sampling ∧ ((rampMove s).1).drivers = s.drivers ∧ ((rampMove s).1).link = s.link ∧ ((rampMove s).1).view = s.view ∧ ((rampMove s).1).seq = s.seq ∧ ((rampMove s).1).cool = s.cool ∧ ((rampMove s).1).gas = s.gas ∧ ((rampMove s).1).draw = s.draw ∧ ((rampMove s).1).disp = s.disp := by
  unfold rampMove
  (repeat' split) <;> simp

@[simp] theorem oneMinuteEvent_frame (b : Bool) (s : State) :
    (oneMinuteEvent b s).pending = s.pending ∧ (oneMinuteEvent b s).held = s.held ∧ (oneMinuteEvent b s).ident = s.ident ∧ (oneMinuteEvent b s).setup = s.setup ∧ (oneMinuteEvent b s).sampling = s.sampling ∧ (oneMinuteEvent b s).view = s.view := by
  unfold oneMinuteEvent
  (repeat' split) <;> simp

@[simp] theorem oneHourEvent_frame (s : State) :
    (oneHourEvent s).pending = s.pending ∧ (oneHourEvent s).held = s.held ∧ (oneHourEvent s).ident = s.ident ∧ (oneHourEvent s).setup = s.setup ∧ (oneHourEvent s).sampling = s.sampling ∧ (oneHourEvent s).view = s.view ∧ (oneHourEvent s).cool = s.cool := by
  unfold oneHourEvent
  dsimp only
  (repeat' split) <;> simp

@[simp] theorem tenMsEvent_frame (p : SwitchPins) (s : State) :
    (tenMsEvent p s).pending = s.pending ∧ (tenMsEvent p s).held = s.held ∧ (tenMsEvent p s).ident = s.ident ∧ (tenMsEvent p s).setup = s.setup ∧ (tenMsEvent p s).drivers = s.drivers ∧ (tenMsEvent p s).seq = s.seq := by
  unfold tenMsEvent
  dsimp only
  (repeat' split) <;> simp

@[simp] theorem pressHandle_frame (s : State) :
    (pressHandle s).pending = s.pending ∧ (pressHandle s).held = s.held ∧ (pressHandle s).ident = s.ident ∧ (pressHandle s).time = s.time ∧ (pressHandle s).setup = s.setup ∧ (pressHandle s).drivers = s.drivers ∧ (pressHandle s).view = s.view ∧ (pressHandle s).seq = s.seq ∧ (pressHandle s).temp = s.temp ∧ (pressHandle s).cool = s.cool ∧ (pressHandle s).gas = s.gas := by
  unfold pressHandle
  dsimp only
  (repeat' split) <;> simp

@[simp] theorem releaseHandle_frame (s : State) :
    (releaseHandle s).pending = s.pending ∧ (releaseHandle s).held = s.held ∧ (releaseHandle s).ident = s.ident ∧ (releaseHandle s).time = s.time ∧ (releaseHandle s).setup = s.setup ∧ (releaseHandle s).sup = s.sup ∧ (releaseHandle s).drivers = s.drivers ∧ (releaseHandle s).view = s.view ∧ (releaseHandle s).seq = s.seq ∧ (releaseHandle s).temp = s.temp ∧ (releaseHandle s).cool = s.cool ∧ (releaseHandle s).gas = s.gas := by
  simp [releaseHandle]

@[simp] theorem changeKeg_frame (s : State) :
    (changeKeg s).pending = s.pending ∧ (changeKeg s).held = s.held ∧ (changeKeg s).ident = s.ident ∧ (changeKeg s).time = s.time ∧ (changeKeg s).setup = s.setup ∧ (changeKeg s).drivers = s.drivers ∧ (changeKeg s).view = s.view ∧ (changeKeg s).seq = s.seq ∧ (changeKeg s).temp = s.temp ∧ (changeKeg s).cool = s.cool ∧ (changeKeg s).gas = s.gas := by
  unfold changeKeg
  dsimp only
  (repeat' split) <;> simp

@[simp] theorem changeLid_frame (s : State) :
    (changeLid s).pending = s.pending ∧ (changeLid s).held = s.held ∧ (changeLid s).ident = s.ident ∧ (changeLid s).time = s.time ∧ (changeLid s).setup = s.setup ∧ (changeLid s).drivers = s.drivers ∧ (changeLid s).view = s.view ∧ (changeLid s).seq = s.seq ∧ (changeLid s).temp = s.temp ∧ (changeLid s).cool = s.cool ∧ (changeLid s).gas = s.gas ∧ (changeLid s).draw = s.draw ∧ (changeLid s).disp = s.disp := by
  unfold changeLid
  dsimp only
  (repeat' split) <;> simp

@[simp] theorem changeDrip_frame (s : State) :
    (changeDrip s).pending = s.pending ∧ (changeDrip s).held = s.held ∧ (changeDrip s).ident = s.ident ∧ (changeDrip s).time = s.time ∧ (changeDrip s).setup = s.setup ∧ (changeDrip s).drivers = s.drivers ∧ (changeDrip s).view = s.view ∧ (changeDrip s).seq = s.seq ∧ (changeDrip s).temp = s.temp ∧ (changeDrip s).cool = s.cool ∧ (changeDrip s).gas = s.gas ∧ (changeDrip s).draw = s.draw ∧ (changeDrip s).disp = s.disp := by
  simp [changeDrip]

@[simp] theorem stopLineActive_frame (s : State) :
    (stopLineActive s).pending = s.pending ∧ (stopLineActive s).held = s.held ∧ (stopLineActive s).ident = s.ident ∧ (stopLineActive s).time = s.time ∧ (stopLineActive s).setup = s.setup ∧ (stopLineActive s).view = s.view ∧ (stopLineActive s).seq = s.seq := by
  unfold stopLineActive
  dsimp only
  (repeat' split) <;> simp

@[simp] theorem stopLineInactive_frame (s : State) :
    (stopLineInactive s).pending = s.pending ∧ (stopLineInactive s).held = s.held ∧ (stopLineInactive s).ident = s.ident ∧ (stopLineInactive s).time = s.time ∧ (stopLineInactive s).setup = s.setup ∧ (stopLineInactive s).drivers = s.drivers ∧ (stopLineInactive s).view = s.view ∧ (stopLineInactive s).seq = s.seq ∧ (stopLineInactive s).temp = s.temp ∧ (stopLineInactive s).cool = s.cool ∧ (stopLineInactive s).gas = s.gas ∧ (stopLineInactive s).draw = s.draw ∧ (stopLineInactive s).disp = s.disp := by
  simp [stopLineInactive]

@[simp] theorem startAttempt_frame (s : State) :
    (startAttempt s).pending = s.pending ∧ (startAttempt s).held = s.held ∧ (startAttempt s).ident = s.ident ∧ (startAttempt s).time = s.time ∧ (startAttempt s).setup = s.setup ∧ (startAttempt s).sup = s.sup ∧ (startAttempt s).sampling = s.sampling ∧ (startAttempt s).drivers = s.drivers ∧ (startAttempt s).view = s.view ∧ (startAttempt s).seq = s.seq ∧ (startAttempt s).temp = s.temp ∧ (startAttempt s).cool = s.cool ∧ (startAttempt s).gas = s.gas ∧ (startAttempt s).draw = s.draw ∧ (startAttempt s).disp = s.disp := by
  unfold startAttempt
  (repeat' split) <;> simp

@[simp] theorem countDrop_frame (s : State) :
    (countDrop s).pending = s.pending ∧ (countDrop s).held = s.held ∧ (countDrop s).ident = s.ident ∧ (countDrop s).time = s.time ∧ (countDrop s).setup = s.setup ∧ (countDrop s).sampling = s.sampling ∧ (countDrop s).drivers = s.drivers ∧ (countDrop s).view = s.view ∧ (countDrop s).seq = s.seq ∧ (countDrop s).temp = s.temp ∧ (countDrop s).cool = s.cool ∧ (countDrop s).gas = s.gas ∧ (countDrop s).draw = s.draw ∧ (countDrop s).disp = s.disp := by
  unfold countDrop
  dsimp only
  (repeat' split) <;> simp

@[simp] theorem dropFrame_frame (q : QFrame) (r : List QFrame) (s : State) :
    (dropFrame q r s).pending = s.pending ∧ (dropFrame q r s).held = s.held ∧ (dropFrame q r s).ident = s.ident ∧ (dropFrame q r s).time = s.time ∧ (dropFrame q r s).setup = s.setup ∧ (dropFrame q r s).sampling = s.sampling ∧ (dropFrame q r s).drivers = s.drivers ∧ (dropFrame q r s).view = s.view ∧ (dropFrame q r s).seq = s.seq ∧ (dropFrame q r s).temp = s.temp ∧ (dropFrame q r s).cool = s.cool ∧ (dropFrame q r s).gas = s.gas ∧ (dropFrame q r s).disp = s.disp := by
  unfold dropFrame
  (repeat' split) <;> simp

@[simp] theorem failAttempt_frame (s : State) :
    (failAttempt s).pending = s.pending ∧ (failAttempt s).held = s.held ∧ (failAttempt s).ident = s.ident ∧ (failAttempt s).time = s.time ∧ (failAttempt s).setup = s.setup ∧ (failAttempt s).sampling = s.sampling ∧ (failAttempt s).drivers = s.drivers ∧ (failAttempt s).view = s.view ∧ (failAttempt s).seq = s.seq ∧ (failAttempt s).temp = s.temp ∧ (failAttempt s).cool = s.cool ∧ (failAttempt s).gas = s.gas ∧ (failAttempt s).disp = s.disp := by
  unfold failAttempt
  (repeat' split) <;> simp

@[simp] theorem reportSend_frame (q : QFrame) (s : State) :
    (reportSend q s).pending = s.pending ∧ (reportSend q s).held = s.held ∧ (reportSend q s).ident = s.ident ∧ (reportSend q s).time = s.time ∧ (reportSend q s).setup = s.setup ∧ (reportSend q s).sampling = s.sampling ∧ (reportSend q s).view = s.view ∧ (reportSend q s).cool = s.cool := by
  unfold reportSend
  dsimp only
  (repeat' split) <;> simp

@[simp] theorem completeSend_frame (a : Attempt) (q : QFrame) (r : List QFrame) (s : State) :
    (completeSend a q r s).pending = s.pending ∧ (completeSend a q r s).held = s.held ∧ (completeSend a q r s).ident = s.ident ∧ (completeSend a q r s).time = s.time ∧ (completeSend a q r s).setup = s.setup ∧ (completeSend a q r s).sampling = s.sampling ∧ (completeSend a q r s).view = s.view ∧ (completeSend a q r s).cool = s.cool := by
  simp [completeSend]

@[simp] theorem storeItem_frame (i : ItemName) (v : Int) (s : State) :
    (storeItem i v s).pending = s.pending ∧ (storeItem i v s).held = s.held ∧ (storeItem i v s).ident = s.ident ∧ (storeItem i v s).time = s.time ∧ (storeItem i v s).drivers = s.drivers ∧ (storeItem i v s).view = s.view ∧ (storeItem i v s).seq = s.seq ∧ (storeItem i v s).temp = s.temp ∧ (storeItem i v s).cool = s.cool ∧ (storeItem i v s).draw = s.draw ∧ (storeItem i v s).disp = s.disp := by
  unfold storeItem
  (repeat' split) <;> simp

@[simp] theorem setupItemReply_frame (a : List Byte) (s : State) :
    ((setupItemReply a s).state).pending = s.pending ∧ ((setupItemReply a s).state).held = s.held ∧ ((setupItemReply a s).state).ident = s.ident ∧ ((setupItemReply a s).state).time = s.time ∧ ((setupItemReply a s).state).drivers = s.drivers ∧ ((setupItemReply a s).state).view = s.view ∧ ((setupItemReply a s).state).seq = s.seq ∧ ((setupItemReply a s).state).temp = s.temp ∧ ((setupItemReply a s).state).cool = s.cool ∧ ((setupItemReply a s).state).draw = s.draw ∧ ((setupItemReply a s).state).disp = s.disp := by
  unfold setupItemReply
  (repeat' split) <;> simp [refuse]

@[simp] theorem startReply_frame (s : State) :
    ((startReply s).state).pending = s.pending ∧ ((startReply s).state).held = s.held ∧ ((startReply s).state).ident = s.ident ∧ ((startReply s).state).time = s.time ∧ ((startReply s).state).setup = s.setup ∧ ((startReply s).state).sampling = s.sampling ∧ ((startReply s).state).view = s.view ∧ ((startReply s).state).seq = s.seq := by
  unfold startReply
  (repeat' split) <;> simp [refuse, answer]

@[simp] theorem forceDrive_frame (o : Output) (b : Bool) (s : State) :
    (forceDrive o b s).pending = s.pending ∧ (forceDrive o b s).held = s.held ∧ (forceDrive o b s).ident = s.ident ∧ (forceDrive o b s).time = s.time ∧ (forceDrive o b s).setup = s.setup ∧ (forceDrive o b s).sup = s.sup ∧ (forceDrive o b s).sampling = s.sampling ∧ (forceDrive o b s).view = s.view ∧ (forceDrive o b s).seq = s.seq ∧ (forceDrive o b s).temp = s.temp ∧ (forceDrive o b s).cool = s.cool ∧ (forceDrive o b s).gas = s.gas ∧ (forceDrive o b s).disp = s.disp := by
  unfold forceDrive
  dsimp only
  (repeat' split) <;> simp

@[simp] theorem forceOutputReply_frame (a : List Byte) (s : State) :
    ((forceOutputReply a s).state).pending = s.pending ∧ ((forceOutputReply a s).state).held = s.held ∧ ((forceOutputReply a s).state).ident = s.ident ∧ ((forceOutputReply a s).state).time = s.time ∧ ((forceOutputReply a s).state).setup = s.setup ∧ ((forceOutputReply a s).state).sup = s.sup ∧ ((forceOutputReply a s).state).sampling = s.sampling ∧ ((forceOutputReply a s).state).view = s.view ∧ ((forceOutputReply a s).state).seq = s.seq ∧ ((forceOutputReply a s).state).temp = s.temp ∧ ((forceOutputReply a s).state).cool = s.cool ∧ ((forceOutputReply a s).state).gas = s.gas ∧ ((forceOutputReply a s).state).disp = s.disp := by
  unfold forceOutputReply
  (repeat' split) <;> simp [refuse, answer]

@[simp] theorem writeStepReply_frame (a : List Byte) (s : State) :
    ((writeStepReply a s).state).pending = s.pending ∧ ((writeStepReply a s).state).held = s.held ∧ ((writeStepReply a s).state).ident = s.ident ∧ ((writeStepReply a s).state).time = s.time ∧ ((writeStepReply a s).state).setup = s.setup ∧ ((writeStepReply a s).state).sup = s.sup ∧ ((writeStepReply a s).state).sampling = s.sampling ∧ ((writeStepReply a s).state).drivers = s.drivers ∧ ((writeStepReply a s).state).link = s.link ∧ ((writeStepReply a s).state).view = s.view ∧ ((writeStepReply a s).state).temp = s.temp ∧ ((writeStepReply a s).state).cool = s.cool ∧ ((writeStepReply a s).state).gas = s.gas ∧ ((writeStepReply a s).state).draw = s.draw ∧ ((writeStepReply a s).state).disp = s.disp := by
  unfold writeStepReply
  (repeat' split) <;> simp [refuse, answer]

@[simp] theorem readStepReply_frame (a : List Byte) (s : State) :
    (readStepReply a s).state = s := by
  unfold readStepReply
  (repeat' split) <;> simp [refuse]

@[simp] theorem setPending_frame (p : Option PendingSwitch) (s : State) :
    (setPending p s).pending = s.pending ∧ (setPending p s).held = s.held ∧ (setPending p s).ident = s.ident ∧ (setPending p s).time = s.time ∧ (setPending p s).setup = s.setup ∧ (setPending p s).sup = s.sup ∧ (setPending p s).sampling = s.sampling ∧ (setPending p s).drivers = s.drivers ∧ (setPending p s).link = s.link ∧ (setPending p s).view = s.view ∧ (setPending p s).temp = s.temp ∧ (setPending p s).cool = s.cool ∧ (setPending p s).gas = s.gas ∧ (setPending p s).draw = s.draw ∧ (setPending p s).disp = s.disp := by
  simp [setPending]

@[simp] theorem recordSwitch_frame (a b c : Nat) (s : State) :
    (recordSwitch a b c s).pending = s.pending ∧ (recordSwitch a b c s).held = s.held ∧ (recordSwitch a b c s).ident = s.ident ∧ (recordSwitch a b c s).time = s.time ∧ (recordSwitch a b c s).setup = s.setup ∧ (recordSwitch a b c s).sampling = s.sampling ∧ (recordSwitch a b c s).view = s.view ∧ (recordSwitch a b c s).cool = s.cool := by
  unfold recordSwitch
  (repeat' split) <;> simp

@[simp] theorem switchBankReply_frame (a : List Byte) (s : State) :
    ((switchBankReply a s).state).pending = s.pending ∧ ((switchBankReply a s).state).held = s.held ∧ ((switchBankReply a s).state).ident = s.ident ∧ ((switchBankReply a s).state).time = s.time ∧ ((switchBankReply a s).state).setup = s.setup ∧ ((switchBankReply a s).state).sampling = s.sampling ∧ ((switchBankReply a s).state).view = s.view ∧ ((switchBankReply a s).state).cool = s.cool := by
  unfold switchBankReply
  (repeat' split) <;> simp [refuse, answer]

@[simp] theorem advanceReply_frame (s : State) :
    ((advanceReply s).state).pending = s.pending ∧ ((advanceReply s).state).held = s.held ∧ ((advanceReply s).state).ident = s.ident ∧ ((advanceReply s).state).time = s.time ∧ ((advanceReply s).state).setup = s.setup ∧ ((advanceReply s).state).sampling = s.sampling ∧ ((advanceReply s).state).view = s.view ∧ ((advanceReply s).state).cool = s.cool := by
  unfold advanceReply
  (repeat' split) <;> simp [refuse, answer]

@[simp] theorem pauseReply_frame (s : State) :
    ((pauseReply s).state).pending = s.pending ∧ ((pauseReply s).state).held = s.held ∧ ((pauseReply s).state).ident = s.ident ∧ ((pauseReply s).state).time = s.time ∧ ((pauseReply s).state).setup = s.setup ∧ ((pauseReply s).state).sampling = s.sampling ∧ ((pauseReply s).state).view = s.view ∧ ((pauseReply s).state).temp = s.temp ∧ ((pauseReply s).state).cool = s.cool ∧ ((pauseReply s).state).disp = s.disp := by
  unfold pauseReply
  (repeat' split) <;> simp [refuse, answer]

@[simp] theorem resumeReply_frame (s : State) :
    ((resumeReply s).state).pending = s.pending ∧ ((resumeReply s).state).held = s.held ∧ ((resumeReply s).state).ident = s.ident ∧ ((resumeReply s).state).time = s.time ∧ ((resumeReply s).state).setup = s.setup ∧ ((resumeReply s).state).sampling = s.sampling ∧ ((resumeReply s).state).view = s.view ∧ ((resumeReply s).state).cool = s.cool := by
  unfold resumeReply
  (repeat' split) <;> simp [refuse, answer]

@[simp] theorem stopProfile_frame (s : State) :
    (stopProfile s).pending = s.pending ∧ (stopProfile s).held = s.held ∧ (stopProfile s).ident = s.ident ∧ (stopProfile s).time = s.time ∧ (stopProfile s).setup = s.setup ∧ (stopProfile s).sampling = s.sampling ∧ (stopProfile s).view = s.view := by
  unfold stopProfile
  (repeat' split) <;> simp

@[simp] theorem clearSupply_frame (s : State) :
    (clearSupply s).pending = s.pending ∧ (clearSupply s).held = s.held ∧ (clearSupply s).ident = s.ident ∧ (clearSupply s).time = s.time ∧ (clearSupply s).setup = s.setup ∧ (clearSupply s).sampling = s.sampling ∧ (clearSupply s).drivers = s.drivers ∧ (clearSupply s).view = s.view ∧ (clearSupply s).seq = s.seq ∧ (clearSupply s).temp = s.temp ∧ (clearSupply s).cool = s.cool ∧ (clearSupply s).gas = s.gas ∧ (clearSupply s).disp = s.disp := by
  simp [clearSupply]

@[simp] theorem setLevelReply_frame (a : List Byte) (s : State) :
    ((setLevelReply a s).state).pending = s.pending ∧ ((setLevelReply a s).state).held = s.held ∧ ((setLevelReply a s).state).ident = s.ident ∧ ((setLevelReply a s).state).time = s.time ∧ ((setLevelReply a s).state).setup = s.setup ∧ ((setLevelReply a s).state).sup = s.sup ∧ ((setLevelReply a s).state).sampling = s.sampling ∧ ((setLevelReply a s).state).drivers = s.drivers ∧ ((setLevelReply a s).state).link = s.link ∧ ((setLevelReply a s).state).view = s.view ∧ ((setLevelReply a s).state).seq = s.seq ∧ ((setLevelReply a s).state).temp = s.temp ∧ ((setLevelReply a s).state).cool = s.cool ∧ ((setLevelReply a s).state).gas = s.gas ∧ ((setLevelReply a s).state).draw = s.draw := by
  unfold setLevelReply
  (repeat' split) <;> simp [refuse]

@[simp] theorem armPortionReply_frame (a : List Byte) (s : State) :
    ((armPortionReply a s).state).pending = s.pending ∧ ((armPortionReply a s).state).held = s.held ∧ ((armPortionReply a s).state).ident = s.ident ∧ ((armPortionReply a s).state).time = s.time ∧ ((armPortionReply a s).state).setup = s.setup ∧ ((armPortionReply a s).state).sup = s.sup ∧ ((armPortionReply a s).state).sampling = s.sampling ∧ ((armPortionReply a s).state).drivers = s.drivers ∧ ((armPortionReply a s).state).link = s.link ∧ ((armPortionReply a s).state).view = s.view ∧ ((armPortionReply a s).state).seq = s.seq ∧ ((armPortionReply a s).state).temp = s.temp ∧ ((armPortionReply a s).state).cool = s.cool ∧ ((armPortionReply a s).state).gas = s.gas ∧ ((armPortionReply a s).state).draw = s.draw := by
  unfold armPortionReply
  dsimp only
  (repeat' split) <;> simp [refuse]

@[simp] theorem readPourReply_frame (a : List Byte) (s : State) :
    (readPourReply a s).state = s := by
  unfold readPourReply
  (repeat' split) <;> simp [refuse]

@[simp] theorem dropPoursReply_frame (a : List Byte) (s : State) :
    ((dropPoursReply a s).state).pending = s.pending ∧ ((dropPoursReply a s).state).held = s.held ∧ ((dropPoursReply a s).state).ident = s.ident ∧ ((dropPoursReply a s).state).time = s.time ∧ ((dropPoursReply a s).state).setup = s.setup ∧ ((dropPoursReply a s).state).sup = s.sup ∧ ((dropPoursReply a s).state).sampling = s.sampling ∧ ((dropPoursReply a s).state).drivers = s.drivers ∧ ((dropPoursReply a s).state).link = s.link ∧ ((dropPoursReply a s).state).view = s.view ∧ ((dropPoursReply a s).state).seq = s.seq ∧ ((dropPoursReply a s).state).temp = s.temp ∧ ((dropPoursReply a s).state).cool = s.cool ∧ ((dropPoursReply a s).state).gas = s.gas ∧ ((dropPoursReply a s).state).draw = s.draw := by
  unfold dropPoursReply
  (repeat' split) <;> simp [refuse]

@[simp] theorem readViewReply_frame (a : List Byte) (s : State) :
    (readViewReply a s).state = s := by
  unfold readViewReply
  (repeat' split) <;> simp [refuse]

@[simp] theorem quietReply_frame (s : State) :
    ((quietReply s).state).pending = s.pending ∧ ((quietReply s).state).held = s.held ∧ ((quietReply s).state).ident = s.ident ∧ ((quietReply s).state).time = s.time ∧ ((quietReply s).state).setup = s.setup ∧ ((quietReply s).state).sampling = s.sampling ∧ ((quietReply s).state).drivers = s.drivers ∧ ((quietReply s).state).view = s.view ∧ ((quietReply s).state).seq = s.seq ∧ ((quietReply s).state).temp = s.temp ∧ ((quietReply s).state).cool = s.cool ∧ ((quietReply s).state).gas = s.gas ∧ ((quietReply s).state).draw = s.draw ∧ ((quietReply s).state).disp = s.disp := by
  unfold quietReply
  (repeat' split) <;> simp [refuse, answer]

@[simp] theorem wakeReply_frame (s : State) :
    ((wakeReply s).state).pending = s.pending ∧ ((wakeReply s).state).held = s.held ∧ ((wakeReply s).state).ident = s.ident ∧ ((wakeReply s).state).time = s.time ∧ ((wakeReply s).state).setup = s.setup ∧ ((wakeReply s).state).sampling = s.sampling ∧ ((wakeReply s).state).drivers = s.drivers ∧ ((wakeReply s).state).view = s.view ∧ ((wakeReply s).state).seq = s.seq ∧ ((wakeReply s).state).temp = s.temp ∧ ((wakeReply s).state).cool = s.cool ∧ ((wakeReply s).state).gas = s.gas ∧ ((wakeReply s).state).draw = s.draw ∧ ((wakeReply s).state).disp = s.disp := by
  unfold wakeReply
  (repeat' split) <;> simp [answer]

@[simp] theorem clearLatches_frame (x : AlarmSet) (s : State) :
    (clearLatches x s).pending = s.pending ∧ (clearLatches x s).held = s.held ∧ (clearLatches x s).ident = s.ident ∧ (clearLatches x s).time = s.time ∧ (clearLatches x s).setup = s.setup ∧ (clearLatches x s).sampling = s.sampling ∧ (clearLatches x s).drivers = s.drivers ∧ (clearLatches x s).view = s.view ∧ (clearLatches x s).seq = s.seq ∧ (clearLatches x s).temp = s.temp ∧ (clearLatches x s).cool = s.cool ∧ (clearLatches x s).gas = s.gas ∧ (clearLatches x s).disp = s.disp := by
  unfold clearLatches
  dsimp only
  (repeat' split) <;> simp

@[simp] theorem clearAlarmsReply_frame (a : List Byte) (s : State) :
    ((clearAlarmsReply a s).state).pending = s.pending ∧ ((clearAlarmsReply a s).state).held = s.held ∧ ((clearAlarmsReply a s).state).ident = s.ident ∧ ((clearAlarmsReply a s).state).time = s.time ∧ ((clearAlarmsReply a s).state).setup = s.setup ∧ ((clearAlarmsReply a s).state).sampling = s.sampling ∧ ((clearAlarmsReply a s).state).drivers = s.drivers ∧ ((clearAlarmsReply a s).state).view = s.view ∧ ((clearAlarmsReply a s).state).seq = s.seq ∧ ((clearAlarmsReply a s).state).temp = s.temp ∧ ((clearAlarmsReply a s).state).cool = s.cool ∧ ((clearAlarmsReply a s).state).gas = s.gas ∧ ((clearAlarmsReply a s).state).disp = s.disp := by
  unfold clearAlarmsReply
  (repeat' split) <;> simp [refuse]

@[simp] theorem leaveSafeReply_frame (s : State) :
    ((leaveSafeReply s).state).pending = s.pending ∧ ((leaveSafeReply s).state).held = s.held ∧ ((leaveSafeReply s).state).ident = s.ident ∧ ((leaveSafeReply s).state).time = s.time ∧ ((leaveSafeReply s).state).setup = s.setup ∧ ((leaveSafeReply s).state).sampling = s.sampling ∧ ((leaveSafeReply s).state).view = s.view ∧ ((leaveSafeReply s).state).seq = s.seq ∧ ((leaveSafeReply s).state).temp = s.temp ∧ ((leaveSafeReply s).state).cool = s.cool ∧ ((leaveSafeReply s).state).disp = s.disp := by
  unfold leaveSafeReply
  (repeat' split) <;> simp [refuse, answer]

end Sys2Proof.Machine
end

