-- ==== Sys2Proof/Laws/EffectParts.lean ====
section
/-! SUPPORT. What the effect of each command leaves unchanged within a block it touches. -/

namespace Sys2Proof.Machine

@[simp] theorem coordinatorHandOver_silent (w : Bool) (s : State) :
    (coordinatorHandOver w s).link.silent = s.link.silent := by
  unfold coordinatorHandOver
  (repeat' split) <;> simp

@[simp] theorem hundredMsEvent_silent (n : Nat) (b : Bool) (s : State) :
    (hundredMsEvent n b s).link.silent = s.link.silent := by
  unfold hundredMsEvent
  (repeat' split) <;> simp

@[simp] theorem countReport_silent (s : State) :
    (countReport s).link.silent = s.link.silent := by
  unfold countReport
  (repeat' split) <;> simp

@[simp] theorem oneSecondEvent_silent (m n : Nat) (s : State) :
    (oneSecondEvent m n s).link.silent = s.link.silent := by
  simp [oneSecondEvent]

@[simp] theorem sequencerMinute_silent (b : Bool) (s : State) :
    (sequencerMinute b s).link.silent = s.link.silent := by
  unfold sequencerMinute
  (repeat' split) <;> simp

@[simp] theorem oneMinuteEvent_silent (b : Bool) (s : State) :
    (oneMinuteEvent b s).link.silent = s.link.silent := by
  unfold oneMinuteEvent
  (repeat' split) <;> simp

@[simp] theorem oneHourEvent_silent (s : State) :
    (oneHourEvent s).link.silent = s.link.silent := by
  unfold oneHourEvent
  dsimp only
  (repeat' split) <;> simp

@[simp] theorem tenMsEvent_silent (p : SwitchPins) (s : State) :
    (tenMsEvent p s).link.silent = s.link.silent := by
  unfold tenMsEvent
  dsimp only
  (repeat' split) <;> simp

@[simp] theorem pressHandle_silent (s : State) :
    (pressHandle s).link.silent = s.link.silent := by
  unfold pressHandle
  dsimp only
  (repeat' split) <;> simp

@[simp] theorem releaseHandle_silent (s : State) :
    (releaseHandle s).link.silent = s.link.silent := by
  simp [releaseHandle]

@[simp] theorem changeKeg_silent (s : State) :
    (changeKeg s).link.silent = s.link.silent := by
  unfold changeKeg
  dsimp only
  (repeat' split) <;> simp

@[simp] theorem changeLid_silent (s : State) :
    (changeLid s).link.silent = s.link.silent := by
  unfold changeLid
  dsimp only
  (repeat' split) <;> simp

@[simp] theorem changeDrip_silent (s : State) :
    (changeDrip s).link.silent = s.link.silent := by
  simp [changeDrip]

@[simp] theorem stopLineActive_silent (s : State) :
    (stopLineActive s).link.silent = s.link.silent := by
  unfold stopLineActive
  dsimp only
  (repeat' split) <;> simp

@[simp] theorem stopLineInactive_silent (s : State) :
    (stopLineInactive s).link.silent = s.link.silent := by
  simp [stopLineInactive]

@[simp] theorem startAttempt_silent (s : State) :
    (startAttempt s).link.silent = s.link.silent := by
  unfold startAttempt
  (repeat' split) <;> simp

@[simp] theorem countDrop_silent (s : State) :
    (countDrop s).link.silent = s.link.silent := by
  unfold countDrop
  dsimp only
  (repeat' split) <;> simp

@[simp] theorem dropFrame_silent (q : QFrame) (r : List QFrame) (s : State) :
    (dropFrame q r s).link.silent = s.link.silent := by
  unfold dropFrame
  dsimp only
  split <;> simp [Link.yieldBus]

@[simp] theorem failAttempt_silent (s : State) :
    (failAttempt s).link.silent = s.link.silent := by
  unfold failAttempt
  (repeat' split) <;> simp [Link.yieldBus]

@[simp] theorem reportSend_silent (q : QFrame) (s : State) :
    (reportSend q s).link.silent = s.link.silent := by
  unfold reportSend
  dsimp only
  (repeat' split) <;> simp

@[simp] theorem completeSend_silent (a : Attempt) (q : QFrame) (r : List QFrame) (s : State) :
    (completeSend a q r s).link.silent = s.link.silent := by
  simp [completeSend]

@[simp] theorem storeItem_silent (i : ItemName) (v : Int) (s : State) :
    (storeItem i v s).link.silent = s.link.silent := by
  unfold storeItem
  (repeat' split) <;> simp

@[simp] theorem setupItemReply_silent (a : List Byte) (s : State) :
    ((setupItemReply a s).state).link.silent = s.link.silent := by
  unfold setupItemReply
  (repeat' split) <;> simp [refuse]

@[simp] theorem startReply_silent (s : State) :
    ((startReply s).state).link.silent = s.link.silent := by
  unfold startReply
  (repeat' split) <;> simp [refuse, answer]

@[simp] theorem forceDrive_silent (o : Output) (b : Bool) (s : State) :
    (forceDrive o b s).link.silent = s.link.silent := by
  unfold forceDrive
  dsimp only
  (repeat' split) <;> simp

@[simp] theorem forceOutputReply_silent (a : List Byte) (s : State) :
    ((forceOutputReply a s).state).link.silent = s.link.silent := by
  unfold forceOutputReply
  (repeat' split) <;> simp [refuse, answer]

@[simp] theorem recordSwitch_silent (a b c : Nat) (s : State) :
    (recordSwitch a b c s).link.silent = s.link.silent := by
  unfold recordSwitch
  (repeat' split) <;> simp

@[simp] theorem switchBankReply_silent (a : List Byte) (s : State) :
    ((switchBankReply a s).state).link.silent = s.link.silent := by
  unfold switchBankReply
  (repeat' split) <;> simp [refuse, answer]

@[simp] theorem advanceReply_silent (s : State) :
    ((advanceReply s).state).link.silent = s.link.silent := by
  unfold advanceReply
  (repeat' split) <;> simp [refuse, answer]

@[simp] theorem pauseReply_silent (s : State) :
    ((pauseReply s).state).link.silent = s.link.silent := by
  unfold pauseReply
  (repeat' split) <;> simp [refuse, answer]

@[simp] theorem resumeReply_silent (s : State) :
    ((resumeReply s).state).link.silent = s.link.silent := by
  unfold resumeReply
  (repeat' split) <;> simp [refuse, answer]

@[simp] theorem stopProfile_silent (s : State) :
    (stopProfile s).link.silent = s.link.silent := by
  unfold stopProfile
  (repeat' split) <;> simp

@[simp] theorem clearSupply_silent (s : State) :
    (clearSupply s).link.silent = s.link.silent := by
  simp [clearSupply]

@[simp] theorem quietReply_silent (s : State) :
    ((quietReply s).state).link.silent = s.link.silent := by
  unfold quietReply
  (repeat' split) <;> simp [refuse, answer]

@[simp] theorem wakeReply_silent (s : State) :
    ((wakeReply s).state).link.silent = s.link.silent := by
  unfold wakeReply
  dsimp only [answer]
  (repeat' split) <;> simp

@[simp] theorem clearLatches_silent (x : AlarmSet) (s : State) :
    (clearLatches x s).link.silent = s.link.silent := by
  unfold clearLatches
  dsimp only
  (repeat' split) <;> simp

@[simp] theorem clearAlarmsReply_silent (a : List Byte) (s : State) :
    ((clearAlarmsReply a s).state).link.silent = s.link.silent := by
  unfold clearAlarmsReply
  (repeat' split) <;> simp [refuse]

@[simp] theorem leaveSafeReply_silent (s : State) :
    ((leaveSafeReply s).state).link.silent = s.link.silent := by
  unfold leaveSafeReply
  (repeat' split) <;> simp [refuse, answer]

@[simp] theorem coordinatorHandOver_station (w : Bool) (s : State) :
    (coordinatorHandOver w s).sup.station = s.sup.station := by
  unfold coordinatorHandOver
  (repeat' split) <;> simp

@[simp] theorem hundredMsEvent_station (n : Nat) (b : Bool) (s : State) :
    (hundredMsEvent n b s).sup.station = s.sup.station := by
  unfold hundredMsEvent
  (repeat' split) <;> simp

@[simp] theorem oneSecondEvent_station (m n : Nat) (s : State) :
    (oneSecondEvent m n s).sup.station = s.sup.station := by
  simp [oneSecondEvent]

@[simp] theorem countIdle_station (s : State) :
    (countIdle s).sup.station = s.sup.station := by
  unfold countIdle
  (repeat' split) <;> simp

@[simp] theorem sequencerMinute_station (b : Bool) (s : State) :
    (sequencerMinute b s).sup.station = s.sup.station := by
  unfold sequencerMinute
  (repeat' split) <;> simp

@[simp] theorem oneMinuteEvent_station (b : Bool) (s : State) :
    (oneMinuteEvent b s).sup.station = s.sup.station := by
  unfold oneMinuteEvent
  (repeat' split) <;> simp

@[simp] theorem oneHourEvent_station (s : State) :
    (oneHourEvent s).sup.station = s.sup.station := by
  unfold oneHourEvent
  dsimp only
  (repeat' split) <;> simp

@[simp] theorem tenMsEvent_station (p : SwitchPins) (s : State) :
    (tenMsEvent p s).sup.station = s.sup.station := by
  unfold tenMsEvent
  dsimp only
  (repeat' split) <;> simp

@[simp] theorem pressHandle_station (s : State) :
    (pressHandle s).sup.station = s.sup.station := by
  unfold pressHandle
  dsimp only
  (repeat' split) <;> simp

@[simp] theorem changeKeg_station (s : State) :
    (changeKeg s).sup.station = s.sup.station := by
  unfold changeKeg
  dsimp only
  (repeat' split) <;> simp

@[simp] theorem changeLid_station (s : State) :
    (changeLid s).sup.station = s.sup.station := by
  unfold changeLid
  dsimp only
  (repeat' split) <;> simp

@[simp] theorem changeDrip_station (s : State) :
    (changeDrip s).sup.station = s.sup.station := by
  simp [changeDrip]

@[simp] theorem stopLineInactive_station (s : State) :
    (stopLineInactive s).sup.station = s.sup.station := by
  simp [stopLineInactive]

@[simp] theorem countDrop_station (s : State) :
    (countDrop s).sup.station = s.sup.station := by
  unfold countDrop
  dsimp only
  (repeat' split) <;> simp

@[simp] theorem dropFrame_station (q : QFrame) (r : List QFrame) (s : State) :
    (dropFrame q r s).sup.station = s.sup.station := by
  unfold dropFrame
  (repeat' split) <;> simp

@[simp] theorem failAttempt_station (s : State) :
    (failAttempt s).sup.station = s.sup.station := by
  unfold failAttempt
  (repeat' split) <;> simp

@[simp] theorem reportSend_station (q : QFrame) (s : State) :
    (reportSend q s).sup.station = s.sup.station := by
  unfold reportSend
  dsimp only
  (repeat' split) <;> simp

@[simp] theorem completeSend_station (a : Attempt) (q : QFrame) (r : List QFrame) (s : State) :
    (completeSend a q r s).sup.station = s.sup.station := by
  simp [completeSend]

@[simp] theorem storeItem_station (i : ItemName) (v : Int) (s : State) :
    (storeItem i v s).sup.station = s.sup.station := by
  unfold storeItem
  (repeat' split) <;> simp

@[simp] theorem setupItemReply_station (a : List Byte) (s : State) :
    ((setupItemReply a s).state).sup.station = s.sup.station := by
  unfold setupItemReply
  (repeat' split) <;> simp [refuse]

@[simp] theorem recordSwitch_station (a b c : Nat) (s : State) :
    (recordSwitch a b c s).sup.station = s.sup.station := by
  unfold recordSwitch
  (repeat' split) <;> simp

@[simp] theorem switchBankReply_station (a : List Byte) (s : State) :
    ((switchBankReply a s).state).sup.station = s.sup.station := by
  unfold switchBankReply
  (repeat' split) <;> simp [refuse, answer]

@[simp] theorem advanceReply_station (s : State) :
    ((advanceReply s).state).sup.station = s.sup.station := by
  unfold advanceReply
  (repeat' split) <;> simp [refuse, answer]

@[simp] theorem pauseReply_station (s : State) :
    ((pauseReply s).state).sup.station = s.sup.station := by
  unfold pauseReply
  (repeat' split) <;> simp [refuse, answer]

@[simp] theorem resumeReply_station (s : State) :
    ((resumeReply s).state).sup.station = s.sup.station := by
  unfold resumeReply
  (repeat' split) <;> simp [refuse, answer]

@[simp] theorem stopProfile_station (s : State) :
    (stopProfile s).sup.station = s.sup.station := by
  unfold stopProfile
  (repeat' split) <;> simp

@[simp] theorem clearSupply_station (s : State) :
    (clearSupply s).sup.station = s.sup.station := by
  simp [clearSupply]

@[simp] theorem quietReply_station (s : State) :
    ((quietReply s).state).sup.station = s.sup.station := by
  unfold quietReply
  (repeat' split) <;> simp [refuse, answer]

@[simp] theorem wakeReply_station (s : State) :
    ((wakeReply s).state).sup.station = s.sup.station := by
  unfold wakeReply
  dsimp only [answer]
  (repeat' split) <;> simp

@[simp] theorem clearLatches_station (x : AlarmSet) (s : State) :
    (clearLatches x s).sup.station = s.sup.station := by
  unfold clearLatches
  dsimp only
  (repeat' split) <;> simp

@[simp] theorem clearAlarmsReply_station (a : List Byte) (s : State) :
    ((clearAlarmsReply a s).state).sup.station = s.sup.station := by
  unfold clearAlarmsReply
  (repeat' split) <;> simp [refuse]

@[simp] theorem hundredMsEvent_log (n : Nat) (b : Bool) (s : State) :
    (hundredMsEvent n b s).disp.level = s.disp.level ∧ (hundredMsEvent n b s).disp.log = s.disp.log ∧ (hundredMsEvent n b s).disp.nextNumber = s.disp.nextNumber ∧
      (hundredMsEvent n b s).disp.wrapped = s.disp.wrapped ∧ (hundredMsEvent n b s).disp.pour.map (·.number) = s.disp.pour.map (·.number) ∧
      ((hundredMsEvent n b s).disp.state = .idle ↔ s.disp.state = .idle) := by
  unfold hundredMsEvent
  (repeat' split) <;> simp

@[simp] theorem oneSecondEvent_log (m n : Nat) (s : State) :
    (oneSecondEvent m n s).disp.level = s.disp.level ∧ (oneSecondEvent m n s).disp.log = s.disp.log ∧ (oneSecondEvent m n s).disp.nextNumber = s.disp.nextNumber ∧
      (oneSecondEvent m n s).disp.wrapped = s.disp.wrapped ∧ (oneSecondEvent m n s).disp.pour.map (·.number) = s.disp.pour.map (·.number) ∧
      ((oneSecondEvent m n s).disp.state = .idle ↔ s.disp.state = .idle) := by
  simp [oneSecondEvent]

@[simp] theorem sequencerMinute_log (b : Bool) (s : State) :
    (sequencerMinute b s).disp.level = s.disp.level ∧ (sequencerMinute b s).disp.log = s.disp.log ∧ (sequencerMinute b s).disp.nextNumber = s.disp.nextNumber ∧
      (sequencerMinute b s).disp.wrapped = s.disp.wrapped ∧ (sequencerMinute b s).disp.pour.map (·.number) = s.disp.pour.map (·.number) ∧
      ((sequencerMinute b s).disp.state = .idle ↔ s.disp.state = .idle) := by
  unfold sequencerMinute
  (repeat' split) <;> simp

@[simp] theorem oneMinuteEvent_log (b : Bool) (s : State) :
    (oneMinuteEvent b s).disp.level = s.disp.level ∧ (oneMinuteEvent b s).disp.log = s.disp.log ∧ (oneMinuteEvent b s).disp.nextNumber = s.disp.nextNumber ∧
      (oneMinuteEvent b s).disp.wrapped = s.disp.wrapped ∧ (oneMinuteEvent b s).disp.pour.map (·.number) = s.disp.pour.map (·.number) ∧
      ((oneMinuteEvent b s).disp.state = .idle ↔ s.disp.state = .idle) := by
  unfold oneMinuteEvent
  (repeat' split) <;> simp

@[simp] theorem oneHourEvent_log (s : State) :
    (oneHourEvent s).disp.level = s.disp.level ∧ (oneHourEvent s).disp.log = s.disp.log ∧ (oneHourEvent s).disp.nextNumber = s.disp.nextNumber ∧
      (oneHourEvent s).disp.wrapped = s.disp.wrapped ∧ (oneHourEvent s).disp.pour.map (·.number) = s.disp.pour.map (·.number) ∧
      ((oneHourEvent s).disp.state = .idle ↔ s.disp.state = .idle) := by
  unfold oneHourEvent
  dsimp only
  (repeat' split) <;> simp

@[simp] theorem tenMsEvent_log (p : SwitchPins) (s : State) :
    (tenMsEvent p s).disp.level = s.disp.level ∧ (tenMsEvent p s).disp.log = s.disp.log ∧ (tenMsEvent p s).disp.nextNumber = s.disp.nextNumber ∧
      (tenMsEvent p s).disp.wrapped = s.disp.wrapped ∧ (tenMsEvent p s).disp.pour.map (·.number) = s.disp.pour.map (·.number) ∧
      ((tenMsEvent p s).disp.state = .idle ↔ s.disp.state = .idle) := by
  unfold tenMsEvent
  dsimp only
  (repeat' split) <;> simp

@[simp] theorem releaseHandle_log (s : State) :
    (releaseHandle s).disp.level = s.disp.level ∧ (releaseHandle s).disp.log = s.disp.log ∧ (releaseHandle s).disp.nextNumber = s.disp.nextNumber ∧
      (releaseHandle s).disp.wrapped = s.disp.wrapped ∧ (releaseHandle s).disp.pour.map (·.number) = s.disp.pour.map (·.number) ∧
      ((releaseHandle s).disp.state = .idle ↔ s.disp.state = .idle) := by
  simp [releaseHandle]

@[simp] theorem changeKeg_log (s : State) :
    (changeKeg s).disp.level = s.disp.level ∧ (changeKeg s).disp.log = s.disp.log ∧ (changeKeg s).disp.nextNumber = s.disp.nextNumber ∧
      (changeKeg s).disp.wrapped = s.disp.wrapped ∧ (changeKeg s).disp.pour.map (·.number) = s.disp.pour.map (·.number) ∧
      ((changeKeg s).disp.state = .idle ↔ s.disp.state = .idle) := by
  unfold changeKeg
  dsimp only
  (repeat' split) <;> simp

@[simp] theorem stopLineActive_log (s : State) :
    (stopLineActive s).disp.level = s.disp.level ∧ (stopLineActive s).disp.log = s.disp.log ∧ (stopLineActive s).disp.nextNumber = s.disp.nextNumber ∧
      (stopLineActive s).disp.wrapped = s.disp.wrapped ∧ (stopLineActive s).disp.pour.map (·.number) = s.disp.pour.map (·.number) ∧
      ((stopLineActive s).disp.state = .idle ↔ s.disp.state = .idle) := by
  unfold stopLineActive
  dsimp only
  (repeat' split) <;> simp

@[simp] theorem reportSend_log (q : QFrame) (s : State) :
    (reportSend q s).disp.level = s.disp.level ∧ (reportSend q s).disp.log = s.disp.log ∧ (reportSend q s).disp.nextNumber = s.disp.nextNumber ∧
      (reportSend q s).disp.wrapped = s.disp.wrapped ∧ (reportSend q s).disp.pour.map (·.number) = s.disp.pour.map (·.number) ∧
      ((reportSend q s).disp.state = .idle ↔ s.disp.state = .idle) := by
  unfold reportSend
  dsimp only
  (repeat' split) <;> simp

@[simp] theorem completeSend_log (a : Attempt) (q : QFrame) (r : List QFrame) (s : State) :
    (completeSend a q r s).disp.level = s.disp.level ∧ (completeSend a q r s).disp.log = s.disp.log ∧ (completeSend a q r s).disp.nextNumber = s.disp.nextNumber ∧
      (completeSend a q r s).disp.wrapped = s.disp.wrapped ∧ (completeSend a q r s).disp.pour.map (·.number) = s.disp.pour.map (·.number) ∧
      ((completeSend a q r s).disp.state = .idle ↔ s.disp.state = .idle) := by
  simp [completeSend]

@[simp] theorem startReply_log (s : State) :
    ((startReply s).state).disp.level = s.disp.level ∧ ((startReply s).state).disp.log = s.disp.log ∧ ((startReply s).state).disp.nextNumber = s.disp.nextNumber ∧
      ((startReply s).state).disp.wrapped = s.disp.wrapped ∧ ((startReply s).state).disp.pour.map (·.number) = s.disp.pour.map (·.number) ∧
      (((startReply s).state).disp.state = .idle ↔ s.disp.state = .idle) := by
  unfold startReply
  (repeat' split) <;> simp [refuse, answer]

@[simp] theorem recordSwitch_log (a b c : Nat) (s : State) :
    (recordSwitch a b c s).disp.level = s.disp.level ∧ (recordSwitch a b c s).disp.log = s.disp.log ∧ (recordSwitch a b c s).disp.nextNumber = s.disp.nextNumber ∧
      (recordSwitch a b c s).disp.wrapped = s.disp.wrapped ∧ (recordSwitch a b c s).disp.pour.map (·.number) = s.disp.pour.map (·.number) ∧
      ((recordSwitch a b c s).disp.state = .idle ↔ s.disp.state = .idle) := by
  unfold recordSwitch
  (repeat' split) <;> simp

@[simp] theorem switchBankReply_log (a : List Byte) (s : State) :
    ((switchBankReply a s).state).disp.level = s.disp.level ∧ ((switchBankReply a s).state).disp.log = s.disp.log ∧ ((switchBankReply a s).state).disp.nextNumber = s.disp.nextNumber ∧
      ((switchBankReply a s).state).disp.wrapped = s.disp.wrapped ∧ ((switchBankReply a s).state).disp.pour.map (·.number) = s.disp.pour.map (·.number) ∧
      (((switchBankReply a s).state).disp.state = .idle ↔ s.disp.state = .idle) := by
  unfold switchBankReply
  (repeat' split) <;> simp [refuse, answer]

@[simp] theorem advanceReply_log (s : State) :
    ((advanceReply s).state).disp.level = s.disp.level ∧ ((advanceReply s).state).disp.log = s.disp.log ∧ ((advanceReply s).state).disp.nextNumber = s.disp.nextNumber ∧
      ((advanceReply s).state).disp.wrapped = s.disp.wrapped ∧ ((advanceReply s).state).disp.pour.map (·.number) = s.disp.pour.map (·.number) ∧
      (((advanceReply s).state).disp.state = .idle ↔ s.disp.state = .idle) := by
  unfold advanceReply
  (repeat' split) <;> simp [refuse, answer]

@[simp] theorem resumeReply_log (s : State) :
    ((resumeReply s).state).disp.level = s.disp.level ∧ ((resumeReply s).state).disp.log = s.disp.log ∧ ((resumeReply s).state).disp.nextNumber = s.disp.nextNumber ∧
      ((resumeReply s).state).disp.wrapped = s.disp.wrapped ∧ ((resumeReply s).state).disp.pour.map (·.number) = s.disp.pour.map (·.number) ∧
      (((resumeReply s).state).disp.state = .idle ↔ s.disp.state = .idle) := by
  unfold resumeReply
  (repeat' split) <;> simp [refuse, answer]

@[simp] theorem stopProfile_log (s : State) :
    (stopProfile s).disp.level = s.disp.level ∧ (stopProfile s).disp.log = s.disp.log ∧ (stopProfile s).disp.nextNumber = s.disp.nextNumber ∧
      (stopProfile s).disp.wrapped = s.disp.wrapped ∧ (stopProfile s).disp.pour.map (·.number) = s.disp.pour.map (·.number) ∧
      ((stopProfile s).disp.state = .idle ↔ s.disp.state = .idle) := by
  unfold stopProfile
  (repeat' split) <;> simp

@[simp] theorem armPortionReply_log (a : List Byte) (s : State) :
    ((armPortionReply a s).state).disp.level = s.disp.level ∧ ((armPortionReply a s).state).disp.log = s.disp.log ∧ ((armPortionReply a s).state).disp.nextNumber = s.disp.nextNumber ∧
      ((armPortionReply a s).state).disp.wrapped = s.disp.wrapped ∧ ((armPortionReply a s).state).disp.pour.map (·.number) = s.disp.pour.map (·.number) ∧
      (((armPortionReply a s).state).disp.state = .idle ↔ s.disp.state = .idle) := by
  unfold armPortionReply
  dsimp only
  (repeat' split) <;> simp [refuse]

@[simp] theorem sequencerMinute_banks (b : Bool) (s : State) :
    (sequencerMinute b s).seq.bankA = s.seq.bankA ∧ (sequencerMinute b s).seq.bankB = s.seq.bankB := by
  unfold sequencerMinute
  (repeat' split) <;> simp

@[simp] theorem oneMinuteEvent_banks (b : Bool) (s : State) :
    (oneMinuteEvent b s).seq.bankA = s.seq.bankA ∧ (oneMinuteEvent b s).seq.bankB = s.seq.bankB := by
  unfold oneMinuteEvent
  (repeat' split) <;> simp

@[simp] theorem oneHourEvent_banks (s : State) :
    (oneHourEvent s).seq.bankA = s.seq.bankA ∧ (oneHourEvent s).seq.bankB = s.seq.bankB := by
  unfold oneHourEvent
  dsimp only
  (repeat' split) <;> simp

@[simp] theorem reportSend_banks (q : QFrame) (s : State) :
    (reportSend q s).seq.bankA = s.seq.bankA ∧ (reportSend q s).seq.bankB = s.seq.bankB := by
  unfold reportSend
  dsimp only
  (repeat' split) <;> simp

@[simp] theorem completeSend_banks (a : Attempt) (q : QFrame) (r : List QFrame) (s : State) :
    (completeSend a q r s).seq.bankA = s.seq.bankA ∧ (completeSend a q r s).seq.bankB = s.seq.bankB := by
  simp [completeSend]

@[simp] theorem setPending_banks (p : Option PendingSwitch) (s : State) :
    (setPending p s).seq.bankA = s.seq.bankA ∧ (setPending p s).seq.bankB = s.seq.bankB := by
  simp [setPending]

@[simp] theorem recordSwitch_banks (a b c : Nat) (s : State) :
    (recordSwitch a b c s).seq.bankA = s.seq.bankA ∧ (recordSwitch a b c s).seq.bankB = s.seq.bankB := by
  unfold recordSwitch
  (repeat' split) <;> simp

@[simp] theorem switchBankReply_banks (a : List Byte) (s : State) :
    ((switchBankReply a s).state).seq.bankA = s.seq.bankA ∧ ((switchBankReply a s).state).seq.bankB = s.seq.bankB := by
  unfold switchBankReply
  (repeat' split) <;> simp [refuse, answer]

@[simp] theorem advanceReply_banks (s : State) :
    ((advanceReply s).state).seq.bankA = s.seq.bankA ∧ ((advanceReply s).state).seq.bankB = s.seq.bankB := by
  unfold advanceReply
  (repeat' split) <;> simp [refuse, answer]

@[simp] theorem pauseReply_banks (s : State) :
    ((pauseReply s).state).seq.bankA = s.seq.bankA ∧ ((pauseReply s).state).seq.bankB = s.seq.bankB := by
  unfold pauseReply
  (repeat' split) <;> simp [refuse, answer]

@[simp] theorem resumeReply_banks (s : State) :
    ((resumeReply s).state).seq.bankA = s.seq.bankA ∧ ((resumeReply s).state).seq.bankB = s.seq.bankB := by
  unfold resumeReply
  (repeat' split) <;> simp [refuse, answer]

@[simp] theorem stopProfile_banks (s : State) :
    (stopProfile s).seq.bankA = s.seq.bankA ∧ (stopProfile s).seq.bankB = s.seq.bankB := by
  unfold stopProfile
  (repeat' split) <;> simp

@[simp] theorem hundredMsEvent_setpoint (n : Nat) (b : Bool) (s : State) :
    (hundredMsEvent n b s).gas.setpoint = s.gas.setpoint := by
  unfold hundredMsEvent
  (repeat' split) <;> simp

@[simp] theorem oneSecondEvent_setpoint (m n : Nat) (s : State) :
    (oneSecondEvent m n s).gas.setpoint = s.gas.setpoint := by
  simp [oneSecondEvent]

@[simp] theorem tenMsEvent_setpoint (p : SwitchPins) (s : State) :
    (tenMsEvent p s).gas.setpoint = s.gas.setpoint := by
  unfold tenMsEvent
  dsimp only
  (repeat' split) <;> simp

@[simp] theorem stopLineActive_setpoint (s : State) :
    (stopLineActive s).gas.setpoint = s.gas.setpoint := by
  unfold stopLineActive
  dsimp only
  (repeat' split) <;> simp

@[simp] theorem pauseReply_setpoint (s : State) :
    ((pauseReply s).state).gas.setpoint = s.gas.setpoint := by
  unfold pauseReply
  (repeat' split) <;> simp [refuse, answer]

@[simp] theorem stopProfile_setpoint (s : State) :
    (stopProfile s).gas.setpoint = s.gas.setpoint := by
  unfold stopProfile
  (repeat' split) <;> simp

@[simp] theorem leaveSafeReply_setpoint (s : State) :
    ((leaveSafeReply s).state).gas.setpoint = s.gas.setpoint := by
  unfold leaveSafeReply
  (repeat' split) <;> simp [refuse, answer]

@[simp] theorem hundredMsEvent_switches (n : Nat) (b : Bool) (s : State) :
    (hundredMsEvent n b s).sampling.keg = s.sampling.keg ∧ (hundredMsEvent n b s).sampling.levelsTaken = s.sampling.levelsTaken := by
  unfold hundredMsEvent
  (repeat' split) <;> simp

@[simp] theorem oneSecondEvent_switches (m n : Nat) (s : State) :
    (oneSecondEvent m n s).sampling.keg = s.sampling.keg ∧ (oneSecondEvent m n s).sampling.levelsTaken = s.sampling.levelsTaken := by
  simp [oneSecondEvent]

@[simp] theorem pressHandle_switches (s : State) :
    (pressHandle s).sampling.keg = s.sampling.keg ∧ (pressHandle s).sampling.levelsTaken = s.sampling.levelsTaken := by
  unfold pressHandle
  dsimp only
  (repeat' split) <;> simp

@[simp] theorem releaseHandle_switches (s : State) :
    (releaseHandle s).sampling.keg = s.sampling.keg ∧ (releaseHandle s).sampling.levelsTaken = s.sampling.levelsTaken := by
  simp [releaseHandle]

@[simp] theorem changeLid_switches (s : State) :
    (changeLid s).sampling.keg = s.sampling.keg ∧ (changeLid s).sampling.levelsTaken = s.sampling.levelsTaken := by
  unfold changeLid
  dsimp only
  (repeat' split) <;> simp

@[simp] theorem changeDrip_switches (s : State) :
    (changeDrip s).sampling.keg = s.sampling.keg ∧ (changeDrip s).sampling.levelsTaken = s.sampling.levelsTaken := by
  simp [changeDrip]

@[simp] theorem stopLineActive_switches (s : State) :
    (stopLineActive s).sampling.keg = s.sampling.keg ∧ (stopLineActive s).sampling.levelsTaken = s.sampling.levelsTaken := by
  unfold stopLineActive
  dsimp only
  (repeat' split) <;> simp

@[simp] theorem stopLineInactive_switches (s : State) :
    (stopLineInactive s).sampling.keg = s.sampling.keg ∧ (stopLineInactive s).sampling.levelsTaken = s.sampling.levelsTaken := by
  simp [stopLineInactive]

@[simp] theorem storeItem_switches (i : ItemName) (v : Int) (s : State) :
    (storeItem i v s).sampling.keg = s.sampling.keg ∧ (storeItem i v s).sampling.levelsTaken = s.sampling.levelsTaken := by
  unfold storeItem
  (repeat' split) <;> simp

@[simp] theorem setupItemReply_switches (a : List Byte) (s : State) :
    ((setupItemReply a s).state).sampling.keg = s.sampling.keg ∧ ((setupItemReply a s).state).sampling.levelsTaken = s.sampling.levelsTaken := by
  unfold setupItemReply
  (repeat' split) <;> simp [refuse]

@[simp] theorem oneSecondEvent_accumulator (m n : Nat) (s : State) :
    (oneSecondEvent m n s).temp.accumulator = s.temp.accumulator := by
  simp [oneSecondEvent]

@[simp] theorem tenMsEvent_accumulator (p : SwitchPins) (s : State) :
    (tenMsEvent p s).temp.accumulator = s.temp.accumulator := by
  unfold tenMsEvent
  dsimp only
  (repeat' split) <;> simp

@[simp] theorem stopLineActive_accumulator (s : State) :
    (stopLineActive s).temp.accumulator = s.temp.accumulator := by
  unfold stopLineActive
  dsimp only
  (repeat' split) <;> simp

@[simp] theorem startReply_accumulator (s : State) :
    ((startReply s).state).temp.accumulator = s.temp.accumulator := by
  unfold startReply
  (repeat' split) <;> simp [refuse, answer]

@[simp] theorem stopProfile_accumulator (s : State) :
    (stopProfile s).temp.accumulator = s.temp.accumulator := by
  unfold stopProfile
  (repeat' split) <;> simp

@[simp] theorem oneSecondEvent_integral (m n : Nat) (s : State) :
    (oneSecondEvent m n s).temp.integral = s.temp.integral := by
  simp [oneSecondEvent]

@[simp] theorem sequencerMinute_integral (b : Bool) (s : State) :
    (sequencerMinute b s).temp.integral = s.temp.integral := by
  unfold sequencerMinute
  (repeat' split) <;> simp

@[simp] theorem rampMove_integral (s : State) :
    ((rampMove s).1).temp.integral = s.temp.integral := by
  unfold rampMove
  (repeat' split) <;> simp

@[simp] theorem oneHourEvent_integral (s : State) :
    (oneHourEvent s).temp.integral = s.temp.integral := by
  unfold oneHourEvent
  dsimp only
  (repeat' split) <;> simp

@[simp] theorem tenMsEvent_integral (p : SwitchPins) (s : State) :
    (tenMsEvent p s).temp.integral = s.temp.integral := by
  unfold tenMsEvent
  dsimp only
  (repeat' split) <;> simp

@[simp] theorem stopLineActive_integral (s : State) :
    (stopLineActive s).temp.integral = s.temp.integral := by
  unfold stopLineActive
  dsimp only
  (repeat' split) <;> simp

@[simp] theorem reportSend_integral (q : QFrame) (s : State) :
    (reportSend q s).temp.integral = s.temp.integral := by
  unfold reportSend
  dsimp only
  (repeat' split) <;> simp

@[simp] theorem completeSend_integral (a : Attempt) (q : QFrame) (r : List QFrame) (s : State) :
    (completeSend a q r s).temp.integral = s.temp.integral := by
  simp [completeSend]

@[simp] theorem startReply_integral (s : State) :
    ((startReply s).state).temp.integral = s.temp.integral := by
  unfold startReply
  (repeat' split) <;> simp [refuse, answer]

@[simp] theorem recordSwitch_integral (a b c : Nat) (s : State) :
    (recordSwitch a b c s).temp.integral = s.temp.integral := by
  unfold recordSwitch
  (repeat' split) <;> simp

@[simp] theorem switchBankReply_integral (a : List Byte) (s : State) :
    ((switchBankReply a s).state).temp.integral = s.temp.integral := by
  unfold switchBankReply
  (repeat' split) <;> simp [refuse, answer]

@[simp] theorem advanceReply_integral (s : State) :
    ((advanceReply s).state).temp.integral = s.temp.integral := by
  unfold advanceReply
  (repeat' split) <;> simp [refuse, answer]

@[simp] theorem resumeReply_integral (s : State) :
    ((resumeReply s).state).temp.integral = s.temp.integral := by
  unfold resumeReply
  (repeat' split) <;> simp [refuse, answer]

@[simp] theorem stopProfile_integral (s : State) :
    (stopProfile s).temp.integral = s.temp.integral := by
  unfold stopProfile
  (repeat' split) <;> simp

/-! The relief ceiling in force changes at a 100 ms event and a reset alone (R61): every other operation keeps it. -/

@[simp] theorem oneSecondEvent_ceiling (m n : Nat) (s : State) :
    (oneSecondEvent m n s).gas.ceiling = s.gas.ceiling := by
  simp [oneSecondEvent]

@[simp] theorem tenMsEvent_ceiling (p : SwitchPins) (s : State) :
    (tenMsEvent p s).gas.ceiling = s.gas.ceiling := by
  unfold tenMsEvent
  dsimp only
  (repeat' split) <;> simp

@[simp] theorem stopLineActive_ceiling (s : State) :
    (stopLineActive s).gas.ceiling = s.gas.ceiling := by
  unfold stopLineActive
  dsimp only
  (repeat' split) <;> simp

@[simp] theorem pauseReply_ceiling (s : State) :
    ((pauseReply s).state).gas.ceiling = s.gas.ceiling := by
  unfold pauseReply
  (repeat' split) <;> simp [refuse, answer]

@[simp] theorem stopProfile_ceiling (s : State) :
    (stopProfile s).gas.ceiling = s.gas.ceiling := by
  unfold stopProfile
  (repeat' split) <;> simp

@[simp] theorem leaveSafeReply_ceiling (s : State) :
    ((leaveSafeReply s).state).gas.ceiling = s.gas.ceiling := by
  unfold leaveSafeReply
  (repeat' split) <;> simp [refuse, answer]

@[simp] theorem sequencerMinute_ceiling (b : Bool) (s : State) :
    (sequencerMinute b s).gas.ceiling = s.gas.ceiling := by
  unfold sequencerMinute
  (repeat' split) <;> simp

@[simp] theorem oneMinuteEvent_ceiling (b : Bool) (s : State) :
    (oneMinuteEvent b s).gas.ceiling = s.gas.ceiling := by
  unfold oneMinuteEvent
  (repeat' split) <;> simp

@[simp] theorem oneHourEvent_ceiling (s : State) :
    (oneHourEvent s).gas.ceiling = s.gas.ceiling := by
  unfold oneHourEvent
  dsimp only
  (repeat' split) <;> simp

@[simp] theorem reportSend_ceiling (q : QFrame) (s : State) :
    (reportSend q s).gas.ceiling = s.gas.ceiling := by
  unfold reportSend
  dsimp only
  (repeat' split) <;> simp

@[simp] theorem completeSend_ceiling (a : Attempt) (q : QFrame) (r : List QFrame) (s : State) :
    (completeSend a q r s).gas.ceiling = s.gas.ceiling := by
  simp [completeSend]

@[simp] theorem setPending_ceiling (p : Option PendingSwitch) (s : State) :
    (setPending p s).gas.ceiling = s.gas.ceiling := by
  simp [setPending]

@[simp] theorem recordSwitch_ceiling (a b c : Nat) (s : State) :
    (recordSwitch a b c s).gas.ceiling = s.gas.ceiling := by
  unfold recordSwitch
  (repeat' split) <;> simp

@[simp] theorem switchBankReply_ceiling (a : List Byte) (s : State) :
    ((switchBankReply a s).state).gas.ceiling = s.gas.ceiling := by
  unfold switchBankReply
  (repeat' split) <;> simp [refuse, answer]

@[simp] theorem advanceReply_ceiling (s : State) :
    ((advanceReply s).state).gas.ceiling = s.gas.ceiling := by
  unfold advanceReply
  (repeat' split) <;> simp [refuse, answer]

@[simp] theorem resumeReply_ceiling (s : State) :
    ((resumeReply s).state).gas.ceiling = s.gas.ceiling := by
  unfold resumeReply
  (repeat' split) <;> simp [refuse, answer]

/-- A 100 ms event takes the stored relief ceiling in force (R61). -/
@[simp] theorem hundredMsEvent_ceiling (n : Nat) (b : Bool) (s : State) :
    (hundredMsEvent n b s).gas.ceiling = s.setup.reliefCeiling := by
  unfold hundredMsEvent
  (repeat' split) <;> simp

end Sys2Proof.Machine
end

