-- ==== Sys2Proof/Laws/Inputs.lean ====
section
/-! SUPPORT. What the operations on one input can do, each said once: a reading and a delivery of a switch, an advance of
the divider chain, the judgement of received octets and the discard that follows it. -/

namespace Sys2Proof.Machine

@[simp] theorem Switch.deliver_active (w : Switch) : w.deliver.active = w.active := rfl
@[simp] theorem Switch.deliver_change (w : Switch) : w.deliver.change = w.change := rfl
@[simp] theorem Switch.deliver_undelivered (w : Switch) : w.deliver.undelivered = false := rfl

/-- A reading equal to the level clears the count; another adds one, or completes the count and turns the level over. -/
theorem Switch.read_cases (needed : Nat) (reading : Bool) (w : Switch) :
    (reading = w.active ∧ w.read needed reading = { w with change := 0 }) ∨
      (reading = (!w.active) ∧ w.change + 1 < needed ∧ w.read needed reading = { w with change := w.change + 1 }) ∨
      (reading = (!w.active) ∧ needed ≤ w.change + 1 ∧
        w.read needed reading = { active := !w.active, change := 0, undelivered := true }) := by
  unfold Switch.read
  split
  · exact .inl ⟨‹_›, rfl⟩
  · have : reading = (!w.active) := by cases reading <;> cases h : w.active <;> simp_all
    subst this
    split
    · exact .inr (.inr ⟨rfl, ‹_›, rfl⟩)
    · exact .inr (.inl ⟨rfl, by omega, rfl⟩)

@[simp] theorem begunAgain_none (n : Nat) : begunAgain n none = none := rfl
@[simp] theorem begunAgain_ended (n : Nat) : begunAgain n (some 0) = some 0 := rfl
@[simp] theorem begunAgain_running (n k : Nat) : begunAgain n (some (k + 1)) = some n := rfl

/-- Beginning a timer again neither starts nor stops it (R5). -/
@[simp] theorem begunAgain_isSome (n : Nat) (t : Timer) : (begunAgain n t).isSome = t.isSome := by
  cases t <;> rfl

/-- What keeps the next 10 ms event from coming: a coarser event, a switch change or the end of a duration on the present
one (R3, R5, R13). -/
theorem eventUnderWay_eq_true (s : State) :
    eventUnderWay s = true ↔ s.time.eventDue = true ∨ s.sampling.undelivered = true ∨ endToTake s = true := by
  simp [eventUnderWay, or_assoc]

/-- A part of an entry has run out of its lifetime exactly where one that is present has none left (R46 to R48). -/
theorem PeerEntry.lifetimeUp_eq_true (e : PeerEntry) :
    e.lifetimeUp = true ↔ (∃ p, e.bay = some p ∧ p.left = 0) ∨ (∃ p, e.draw = some p ∧ p.left = 0) ∨
      ∃ p, e.chiller = some p ∧ p.left = 0 := by
  simp [PeerEntry.lifetimeUp, Option.any_eq_true, or_assoc]

@[simp] theorem TimeBase.advance_uptime (t : TimeBase) : t.advance.uptime = t.uptime := rfl

/-- Octets judged a duplicate are good and name the own station (R40). -/
theorem judge_duplicate {os : List Byte} {s : State} (h : judge os s = .duplicate) :
    ∃ w p, readFrame os = .good w p ∧ w.src ≠ 0 ∧ w.src = s.ident.number := by
  unfold judge at h
  split at h
  · nomatch h
  · nomatch h
  · rename_i w p good
    split at h
    · nomatch h
    · split at h
      · exact ⟨w, p, good, ‹_›, ‹_›⟩
      · split at h
        · nomatch h
        · repeat' split at h
          all_goals nomatch h

/-- Octets that another row takes are good, from another station, and for a destination that is accepted (R33, R34). -/
theorem judge_routed {os : List Byte} {s : State} {row : Instr} (h : judge os s = .routed row) :
    ∃ w p d, readFrame os = .good w p ∧ w.src ≠ 0 ∧ w.src ≠ s.ident.number ∧ destOf w.destKind w.destNumber = some d ∧
      destAccepted s d = true ∧ routedRow w.cls w.src d p = some row := by
  unfold judge at h
  split at h
  · nomatch h
  · nomatch h
  · rename_i w p good
    split at h
    · nomatch h
    · split at h
      · nomatch h
      · split at h
        · nomatch h
        · rename_i d dest
          split at h
          · split at h
            · cases h
              exact ⟨w, p, d, good, ‹_›, ‹_›, dest, ‹_›, ‹_›⟩
            · nomatch h
          · nomatch h

/-- A discard leaves the part as it is, ends the reception, or silences the station on a duplicate (R32, R40). -/
theorem discardFrame_cases (rx : Reception) (s : State) :
    discardFrame rx s = s ∨ discardFrame rx s = endReception s ∨ discardFrame rx s = duplicateHeard (endReception s) ∨
      discardFrame rx s = s.mapLink (fun l => { l with bus := .ignoring, rx := .empty }) ∨
      discardFrame rx s = s.mapLink (fun l => { l with bus := .idle, rx := .empty }) := by
  unfold discardFrame
  repeat' split
  all_goals simp

end Sys2Proof.Machine
end

