-- ==== Sys2Proof/Tests/Slice0.lean ====
section
/-! SUPPORT. Tests on small states: the checks of WellFormed, the worked values of the spec, and for every statement of
Certificates/Slice0/Obligations.lean that has hypotheses a state and operands that meet them, each clause at a boundary
of its range. Expected values are the spec's or worked by hand from its rules. -/

namespace Sys2Proof.Tests

open Sys2Proof.Machine

/-! ### Small states -/

/-- A soaking SERVE step of one hour at 4 degrees, weight 2. -/
def soakStep : StepRecord :=
  { kind := .soak, target := 64, duration := 1, endKind := .time, gas := .serve 250, weight := 2, syncOut := none }

/-- A ramp of one degree a day to 5 degrees. -/
def rampStep : StepRecord := { soakStep with kind := .ramp 16, target := 80 }

/-- A step that waits for group 3. -/
def syncStep : StepRecord := { soakStep with endKind := .groupSync 3 }

/-- A bank whose first slot holds this record. -/
def bankOfOne (r : StepRecord) : List (Option StepRecord) := some r :: List.replicate 11 none

/-- Station 1 in RUN with a heater: sensors GOOD at 4 degrees and 1200 hPa, a keg with 5 L, the soak step RUNNING. -/
def runBay : State :=
  { State.reset with
    ident := { number := 1, heaterFitted := true }
    time := { uptime := 100 }
    setup := { groupSet := 0b0100#4 }
    sup := { station := .run }
    sampling :=
      { beer := { state := .good, validRun := 10, filtered := some 64 }
        jacket := { state := .good, validRun := 10, filtered := some 64 }
        transducer := { state := .good, validRun := 10, history := [1200, 1200] }
        keg := { active := true }
        lid := { active := true }
        levelsTaken := true }
    link := { reportCount := 1, bus := .receiving, rx := .filling }
    seq := { bankA := bankOfOne soakStep, profile := .running, phase := some .soaking }
    temp := { accumulator := 64 * 65536 }
    gas := { setpoint := 1200, leak := .armed }
    draw := {}
    disp := { level := 5000 } }

/-- The same bay in SETUP. -/
def setupBay : State :=
  { runBay with sup := {}, gas := { setpoint := 1200 } }

/-- A pour under way. -/
def thePour : Pour :=
  { number := 1, startMinute := 100, temperature := some 64, pressure := some 1200, portion := none, reason := none,
    elapsed := 0 }

/-- The bay with a pour FLOWING. -/
def pouringBay : State :=
  { runBay with
    gas := { setpoint := 1200 }
    draw := { urgency := .priority }
    disp := { state := .flowing, pour := some thePour, level := 5000, nextNumber := 2, stallTimer := some 0 } }

/-- The bay with a pour TAILING, ended by the handle. -/
def tailingBay : State :=
  { runBay with
    disp := { state := .tailing, pulses := 200, pour := some { thePour with reason := some .handle }, level := 5000,
              nextNumber := 2, tailTimer := some 0 } }

/-- A frame's header from station 5 to station 1. -/
def toMe : Header := { src := 5, dest := .station 1 }

/-- A frame's header from station 5 to ALL. -/
def toAll : Header := { src := 5, dest := .all }

/-! ### WellFormed refuses an ill-formed command, check by check -/

theorem test_wf_transducer_count : (Instr.event100ms 4608 true).wellFormed = false := by decide
theorem test_wf_beer_count : (Instr.event1s 4096 0).wellFormed = false := by decide
theorem test_wf_jacket_count : (Instr.event1s 0 4096).wellFormed = false := by decide
theorem test_wf_station_zero : (Instr.peerPartExpiry 0 .bay).wellFormed = false := by decide
theorem test_wf_station_sixteen : (Instr.peerPartExpiry 16 .bay).wellFormed = false := by decide
theorem test_wf_long_reception : (Instr.frameDiscarded (.octets (List.replicate 22 0#8))).wellFormed = false := by decide
theorem test_wf_source : (Instr.receiveDraw ⟨16, .all⟩ [0#8]).wellFormed = false := by decide
theorem test_wf_station_destination : (Instr.start ⟨5, .station 16⟩ 0#8 []).wellFormed = false := by decide
theorem test_wf_group_destination : (Instr.quiet ⟨5, .group 16⟩ 0#8 []).wellFormed = false := by decide
theorem test_wf_long_payload : (Instr.receivePour toAll (List.replicate 17 0#8)).wellFormed = false := by decide
theorem test_wf_long_arguments : (Instr.writeStep toMe 0#8 (List.replicate 15 0#8)).wellFormed = false := by decide
theorem test_wf_known_code : (Instr.unknownCommand toMe 0x53#8 0#8 []).wellFormed = false := by decide
theorem test_wf_long_unknown : (Instr.unknownCommand toMe 0x54#8 0#8 (List.replicate 15 0#8)).wellFormed = false := by
  decide
theorem test_wf_accepts :
    ([.event100ms 4607 true, .event1s 4095 4095, .peerPartExpiry 15 .draw, .writeStep toMe 0#8 (List.replicate 13 0#8),
      .unknownCommand toMe 0x54#8 0#8 [], .frameDiscarded (.octets (List.replicate 21 0#8))] : List Instr).all
      Instr.wellFormed = true := by
  decide

/-! ### Worked values of the spec -/

/-- The worked conversion of R6. -/
theorem test_probe_conversion : probeTemperature 1088 (-3) = 285 := by decide

/-- The worked filter sequence of R8, its first two and last two samples. -/
theorem test_filter_sequence :
    filterStep 288 300 3 = 289 ∧ filterStep 289 300 3 = 290 ∧ filterStep 292 300 3 = 293 ∧ filterStep 293 300 3 = 293 := by
  decide

/-- The table of R10. -/
theorem test_transducer_conversion :
    [0, 182, 183, 1000, 4187, 4188].map (transducerPressure · 4000) = [-500, -301, -299, 598, 4099, 4101] ∧
      [-301, -299, 4099, 4101].map (pressureValid · 4000) = [false, true, true, false] := by
  decide

/-- The worked case of R12. -/
theorem test_held_pressure :
    heldPressure (Transducer.sample 610 4000 { state := .good, history := [604, 598, 601, 596] }) = some 603 := by
  decide

/-- The increments of R95. -/
theorem test_ramp_increments : [1, 64, 512, 1024].map rampIncrement = [46, 2913, 23302, 46603] := by decide

/-- Windows 1, 5, 6 and 8 of the pull-down of chapter 6: proportional term, integral. -/
theorem test_worked_windows :
    [80, 18, -2, 1].map (proportional · 40) = [200, 45, -5, 2] ∧ nextIntegral .unclamped 0 80 8 = 640 ∧
      nextIntegral .high 640 72 8 = 640 ∧ nextIntegral .unclamped 784 (-2) 8 = 768 ∧
      nextIntegral .low 768 (-3) 8 = 768 ∧ nextIntegral .low 768 1 8 = 776 := by
  decide

/-- The worked heating window of chapter 6. -/
theorem test_heater_duty : heaterDuty (-24) 40 = 60 ∧ proportional (-24) 40 = -60 := by decide

/-- The worked three-bay share of chapter 7. -/
theorem test_three_bay_share :
    weightedShare 120 3 [(60, 1), (96, 1)] 200 = 120 ∧ weightedShare 60 1 [(120, 3), (96, 1)] 200 = 23 ∧
      weightedShare 96 1 [(120, 3), (60, 1)] 200 = 37 := by
  decide

/-- The tables of R118 and R119. -/
theorem test_grant_and_open_time :
    finalGrant 80 1 100 false = 60 ∧ finalGrant 23 1 100 false = 17 ∧ finalGrant 80 3 100 false = 20 ∧
      glycolSeconds 80 100 = 48 ∧ glycolSeconds 17 100 = 10 ∧ glycolSeconds 23 120 = 11 ∧ glycolSeconds 1 250 = 0 := by
  decide

/-- The worked setpoint cases of chapter 8: solubility and absolute pressure. -/
theorem test_setpoint_cases :
    [64, 88, 320, 0, -24, 16].map solubility = [1440, 1373, 880, 1650, 1650, 1598] ∧
      absolutePressure 250 1440 = 1736 ∧ absolutePressure 250 1373 = 1821 ∧ absolutePressure 300 880 = 3409 ∧
      absolutePressure 100 1650 = 606 ∧ absolutePressure 250 1650 = 1515 ∧ absolutePressure 250 1598 = 1564 := by
  decide

/-- Case (a) as the bay forms it. -/
theorem test_gas_setpoint : (computeSetpoint runBay).gas.setpoint = 723 := by decide

/-- The table of R168. -/
theorem test_metered_volume :
    meteredVolume 2 500 = 1 ∧ meteredVolume 3 500 = 2 ∧ meteredVolume 132 2500 = 330 ∧ meteredVolume 135 2500 = 338 ∧
      meteredVolume 65535 20000 = 1310700 := by
  decide

/-- The check value of R197: the ASCII digits 1 to 9. -/
theorem test_crc : crc16 [0x31, 0x32, 0x33, 0x34, 0x35, 0x36, 0x37, 0x38, 0x39] = 0x29B1#16 := by
  decide +kernel

/-- READ_VIEW's worked example in chapter 3, in the octets of R201. -/
theorem test_view_of_a_drawing_peer :
    viewOctets 3
      { bay := some { profile := .running, mode := .serve, demand := 40, weight := 2, interval := 5, supplyWeak := false,
                      gasLocked := false, pouring := true, left := 1269 }
        draw := some { draw := .drawing .priority, supplyWeak := false, left := 253 } } =
      [0x73#8, 0x74#8, 0xD0#8, 40#8, 5#8, 13#8, 26#8, 0#8, 0#8, 0#8] := by
  decide

/-! ### Reset and the queue -/

/-- R68: SETUP, no alarm, every output off but VENT, which R137 holds open. -/
theorem test_reset_outputs :
    State.reset.sup.station = .setup ∧ State.reset.sup.active = 0#11 ∧ ventPin State.reset = true ∧
      inletPin State.reset = false ∧ tapPin State.reset = false ∧ glycolPin State.reset = false ∧
      heaterPin State.reset = false := by
  decide

/-- The front command runs, the rest waits. -/
theorem test_step_takes_the_front :
    (match step { tailingBay with pending := [.flowPulse, .event1h] } with
      | .next t => decide (t.disp.pulses = 201 ∧ t.pending = [.event1h])
      | _ => false) = true := by
  decide

/-- No row spells bits, so no word spells a command. -/
theorem test_no_word_spells_a_command : decodeTableWord 8 0 = none := by decide

/-! ### Witnesses: hypotheses met together, clause by clause -/

/-- The bay with a press of the handle to be delivered. -/
def pressedBay : State :=
  { runBay with sampling := { runBay.sampling with handle := { active := true, undelivered := true } } }

/-- The bay with this record current, in this profile state and phase. -/
def stepBay (r : StepRecord) (p : ProfileState) (ph : Phase) : State :=
  { runBay with seq := { runBay.seq with bankA := bankOfOne r, profile := p, phase := some ph } }

/-- The bay with this record in slot 0 of the staged bank. -/
def stagedBay (r : StepRecord) : State := { runBay with seq := { runBay.seq with bankB := bankOfOne r } }

/-- The bay with an own attempt under way, this frame in flight behind one of ALARM. -/
def sendingBay (q : QFrame) : State :=
  { runBay with
    link := { queue := [{ frame := .alarm .leak true 3#4 }, { q with inFlight := true }], bus := .sending,
              attempt := some { octets := frameOctets runBay q.frame, carriesTxDropped := false, droppedSince := false } } }

/-- The bay on a 10 ms event on which every coarser event falls, the transducer's history empty. -/
def dueBay : State :=
  { runBay with
    time := { due100ms := true, due1s := true, due1min := true, due1h := true }
    sampling := { runBay.sampling with transducer := { state := .good } }
    temp := { runBay.temp with windowFormed := true } }

/-- That bay in TOPPING at 1200 hPa, its coordinator waiting. -/
def waitingBay : State :=
  { dueBay with gas := { setpoint := 1201, state := .topping }, draw := { state := .waiting, need := true } }

/-- A SPUND step that ends when two hours in a row have fewer than 3 pulses. -/
def activityStep : StepRecord := { soakStep with endKind := .activityLow 2 3, gas := .spund 250 }

/-- The octets of a frame with a good CRC. -/
def sealed (os : List Byte) : List Byte := os ++ be16 (crc16 os).toNat

/-- The state after a command. -/
def after (c : Instr) (s : State) : State :=
  match exec c s with
  | .next t => t
  | _ => s

/-- The bay in SAFE. -/
def safeBay : State := { runBay with sup := { station := .safe } }

/-- The bay in SILENT. -/
def silentBay : State :=
  { runBay with
    link := { silent := true, bus := .receiving, rx := .filling }
    sup := { station := .run, active := 0x200#11, latched := 0x200#11 } }

theorem witness_StepRunsFrontCommand :
    ({ runBay with pending := [.flowPulse] } : State).pending = .flowPulse :: [] ∧ runBay.pending = [] := by decide

theorem witness_WhatOnlyCertainCommandsChange :
    (∀ p, Instr.flowPulse ≠ .powerOn p) ∧ Instr.flowPulse ≠ .rstnHeldLow ∧
      (∀ h g a, Instr.flowPulse ≠ .setupItem h g a) ∧ (∀ h g a, Instr.flowPulse ≠ .writeStep h g a) ∧
      (∀ p, Instr.flowPulse ≠ .event10ms p) ∧ (∀ n b, Instr.flowPulse ≠ .event100ms n b) ∧
      (∀ m n, Instr.flowPulse ≠ .event1s m n) ∧ (∀ b, Instr.flowPulse ≠ .event1min b) ∧ Instr.flowPulse ≠ .event1h ∧
      (∀ h g a, Instr.flowPulse ≠ .setLevel h g a) ∧ Instr.flowPulse ≠ .tailTimerEnd ∧
      (∀ h g a, Instr.flowPulse ≠ .restart h g a) ∧ silentBay.link.silent = true ∧
      TimeOk { tens := 9, hundreds := 9, seconds := 59, minutes := 59 } ∧
      TimeOk { due100ms := true, due1s := true, due1min := true, due1h := true } := by
  and_intros <;> first | decide | nofun

theorem witness_PowerOnAndReset : runBay.pending = [] := by decide

theorem witness_RstnHoldsThePart :
    ({ runBay with held := true } : State).held = true ∧ (∀ p, Instr.flowPulse ≠ .powerOn p) ∧
      Instr.flowPulse ≠ .rstnHeldLow := by
  and_intros <;> first | decide | nofun

theorem witness_RestartKeepsAndResets :
    (Accepts toMe runBay ∧ toMe.dest = .station runBay.ident.number ∧ runBay.disp.pour = none) ∧
      (Accepts toMe pouringBay ∧ toMe.dest = .station pouringBay.ident.number ∧ pouringBay.disp.pour = some thePour) ∧
      (Accepts toMe silentBay ∧ hasAlarm silentBay.sup.latched .duplicate = true) ∧
      (let s := { runBay with sampling := { runBay.sampling with lid := {}, ext := { active := true } } }
       Accepts toMe s ∧ (s.sampling.levelsTaken && watchMismatch s) = true ∧ s.sampling.ext.active = true ∧
        s.link.silent = false) := by
  unfold Accepts; decide

/-- The bay with one 1 h event waiting, and what the step answers. -/
theorem witness_step : ∃ t, step { runBay with pending := [.event1h] } = .next t := ⟨_, rfl⟩

theorem witness_TransmitQueueKept : LinkOk (sendingBay { frame := .bayState, attempts := 3 }).link ∧ LinkOk silentBay.link := by
  unfold LinkOk QueueOk; decide

theorem witness_SetupAndSetpointKept : SetupOk runBay.setup ∧ GasOk runBay.setup { runBay.gas with setpoint := 2300 } := by
  refine ⟨?_, by unfold GasOk; decide⟩
  intro item; cases item <;> decide

theorem witness_legal :
    soakStep.Legal ∧
      ({ kind := .ramp 1024, target := -64, duration := 999, endKind := .activityLow 8 255, gas := .spund 400, weight := 4,
         syncOut := some 4 } : StepRecord).Legal := by
  unfold StepRecord.Legal
  and_intros <;> first | decide | (intros; simp_all [soakStep, GasTreatment.mode] <;> omega)

theorem witness_ProfileAndSetpointKept : SeqOk runBay.seq ∧ TempOk { runBay.temp with integral := 25600 } := by
  have legal := witness_legal.1
  refine ⟨⟨⟨by decide, ?_⟩, ⟨by decide, ?_⟩, by decide⟩, by unfold TempOk; decide⟩
  · intro r h
    rcases List.mem_cons.mp h with h | h
    · cases h; exact legal
    · exact absurd (List.eq_of_mem_replicate h) (by nofun)
  · intro r h
    exact absurd (List.eq_of_mem_replicate h) (by nofun)

theorem witness_CoolingGrantKept :
    SetupOk runBay.setup ∧ CoolOk { runBay.cool with throttle := 3, lastGrant := 100, openTime := 60, openTimer := some 6000 } := by
  refine ⟨witness_SetupAndSetpointKept.1, by decide, by decide, by decide, ?_⟩
  intro n h; cases h; decide

theorem witness_DrawStateKept :
    DrawOk { state := .drawing, need := true, keepTimer := some 100, keepCount := 3, rise := List.replicate 21 1200 } := by
  unfold DrawOk; decide

theorem witness_NeedKept :
    NeedInv { setupBay with draw := { state := .claiming, need := true }, drivers := { inlet := .forcedOn } } := by
  unfold NeedInv; decide

theorem witness_LockoutKept :
    (LockInv runBay ∧ runBay.held = false ∧ runBay.sampling.keg.undelivered = false) ∧
      LockInv State.reset ∧ State.reset.held = false ∧ State.reset.sampling.keg.undelivered = false := by
  unfold LockInv; decide

theorem witness_SensorVentKept : VentInv runBay ∧ VentInv State.reset := by unfold VentInv; decide

/-- A record with this number. -/
def recordOf (n : Nat) : PourRecord :=
  { number := n, startMinute := 0, duration := 0, volume := 0, outcome := .denied .safe, temperature := none,
    pressure := none, portion := none }

theorem witness_KegLevelAndLogKept : KegInv { tailingBay with disp := { tailingBay.disp with
    level := 20000, log := [recordOf 6, recordOf 7], pour := some { thePour with number := 8 }, nextNumber := 9 } } := by
  refine ⟨by decide, by decide, by decide, ?_, ?_, by decide⟩
  · intro r h; cases h; decide
  · intro p h; cases h; decide

theorem witness_PourOnlyWhileServing :
    (FlowInv pouringBay ∧ DriveInv pouringBay ∧ tapPin pouringBay = true ∧ pouringBay.sampling.keg.undelivered = false) ∧
      (let s := { pouringBay with sampling := { pouringBay.sampling with keg := { undelivered := true } } }
       FlowInv s ∧ DriveInv s ∧ tapPin s = true ∧ s.sampling.keg.active = false) := by
  unfold FlowInv DriveInv ServingApartFromKeg; decide

theorem witness_PeerViewKept :
    ViewInv { runBay with view := ({} : PeerView).fillChiller 9 { capacity := 2000, saturated := true, left := 1000 } } ∧
      PendingOk { runBay with pending := [.peerPartExpiry 15 .draw] } := by
  refine ⟨⟨by decide, ?_, by decide, by decide, by decide, by decide, ?_⟩, by unfold PendingOk; decide⟩
  · intro e h
    have h : e = {} ∨ e = { chiller := some { capacity := 2000, saturated := true, left := 1000 } } ∨ e = {} := by
      simpa [PeerView.fillChiller, PeerView.update, List.replicate] using h
    rcases h with rfl | rfl | rfl
    · exact ⟨by nofun, by nofun, by nofun⟩
    · refine ⟨by nofun, by nofun, ?_⟩
      intro p h; cases h; decide
    · exact ⟨by nofun, by nofun, by nofun⟩
  · intro n
    by_cases h : n ≤ 15
    · interval_cases n <;> decide
    · constructor
      · intro m; simp [PeerView.fillChiller, PeerView.update] at m; omega
      · rintro ⟨-, m, -⟩; omega

theorem witness_AlarmSetsKept : AlarmInv runBay ∧ AlarmInv silentBay := by unfold AlarmInv; decide

theorem witness_OwnFrameIsGood :
    (runBay.ident.number ≤ 15 ∧ (Frame.payload runBay .bayState).length = 16 ∧
      Dest.number (Frame.dest (.result 15 0#8 0#8 .done [])) ≤ 15 ∧
      (Frame.payload runBay (.alarm .leak true 3#4)).length ≤ 16) ∧
      (1 ≤ runBay.ident.number ∧ runBay.ident.number ≤ 8 ∧
        runBay.ident.number ≠ ({ runBay with ident := ⟨8, true⟩ } : State).ident.number ∧
        inGroupSet runBay 3 = true ∧ inGroupSet runBay 15 = false ∧ (List.replicate 13 0#8).length ≤ 13) := by
  decide

theorem witness_OutputInterlocks :
    (ventPin State.reset = true ∧ State.reset.held = false ∧ safetyVent State.reset = true) ∧
      glycolPin { runBay with cool := { openTimer := some 1 } } = true ∧ safeBay.sup.station = .safe ∧
      State.reset.ident.heaterFitted = false ∧
      (runBay.held = false ∧ runBay.sup.station ≠ .safe ∧
        inletPin { runBay with gas := { setpoint := 1200, state := .topping },
                               draw := { state := .drawing, need := true, keepTimer := some 1 } } = true ∧
        inletPin { setupBay with drivers := { inlet := .forcedOn },
                                 draw := { state := .drawing, need := true, keepTimer := some 1 } } = true ∧
        heaterPin { runBay with temp := { runBay.temp with onTimer := some 1 } } = true ∧ tapPin pouringBay = true) := by
  decide

theorem witness_SensorTables :
    ((-160 : Int) ≤ -160 ∧ (-160 : Int) ≤ 960) ∧ ((-160 : Int) ≤ 960 ∧ (960 : Int) ≤ 960) ∧
      (runBay.sampling.beer.state = .good ∧ runBay.sampling.beer.filtered = some 64) ∧
      ({ state := .fault, validRun := 8 } : Probe).validRun + 1 < 10 ∧
      10 ≤ ({ state := .fault, validRun := 9 } : Probe).validRun + 1 ∧
      ((-161 : Int) < -160 ∨ (960 : Int) < -161) ∧ ((961 : Int) < -160 ∨ (960 : Int) < 961) ∧
      ({ rejectRun := 3 } : Probe).rejectRun + 1 < 5 ∧ 5 ≤ ({ rejectRun := 4 } : Probe).rejectRun + 1 ∧
      ((-300 : Int) ≤ -300 ∧ (-300 : Int) ≤ 4000 + 100) ∧ ((-300 : Int) ≤ 4100 ∧ (4100 : Int) ≤ 4000 + 100) ∧
      ((-301 : Int) < -300 ∨ (4000 : Int) + 100 < -301) ∧ ((4101 : Int) < -300 ∨ (4000 : Int) + 100 < 4101) := by
  decide

theorem witness_FilterApproachesTheSample : ((288 : Int) ≤ 288) ∧ (288 : Int) ≤ 300 ∧ (300 : Int) ≤ 305 := by decide

theorem witness_DebounceNeedsEveryReading :
    (0 < 3 ∧ ({ active := false } : Switch).change = 0 ∧ ({ active := false } : Switch).undelivered = false ∧
      [true, true, true].length = 3) ∧
      (∀ r ∈ [true, true, true], r ≠ ({ active := false } : Switch).active) ∧
      ∃ r ∈ [true, true, false], r = ({ active := false } : Switch).active := by
  decide

theorem witness_TenMsEvent :
    (runBay.held = false ∧ eventUnderWay runBay = false ∧ runBay.sampling.levelsTaken = true) ∧
      (State.reset.held = false ∧ eventUnderWay State.reset = false ∧ State.reset.sampling.levelsTaken = false) ∧
      (({ tens := 9, hundreds := 9, seconds := 59, minutes := 59 } : TimeBase).phase + 1) % 360000 = 0 ∧
      (dueBay.held = false ∧ eventUnderWay dueBay = true ∧ eventUnderWay pressedBay = true ∧
        eventUnderWay tailingBay = true ∧
        eventUnderWay { runBay with view := ({} : PeerView).fillChiller 9 ⟨200, false, 0⟩ } = true) ∧
      (runBay.time.due100ms = false ∧ runBay.time.due1s = false ∧ runBay.time.due1min = false ∧
        runBay.time.due1h = false) := by
  decide

/-- Raw 0 makes the third reject of a run, raw 4187 a pressure above every ceiling, raw 1548 a pressure of 1200 hPa. -/
theorem witness_HundredMsEvent :
    (dueBay.held = false ∧ dueBay.time.due100ms = true) ∧
      ((({ state := .good, rejectRun := 2, history := [1200] } : Transducer).sample (transducerPressure 0 4000) 4000).state ≠
        .good) ∧
      (let x := ({ state := .good } : Transducer).sample (transducerPressure 4187 4000) 4000
       x.state = .good ∧ heldPressure x = some 4099 ∧ dueBay.setup.reliefCeiling < 4099) ∧
      (let x := (after (.event100ms 1548 true) dueBay).sampling.transducer
       x.state = .good ∧ heldPressure x = some 1200 ∧ 1200 ≤ dueBay.setup.reliefCeiling ∧
        enabledMode dueBay = some .serve ∧ dueBay.gas.state = .rest ∧ dueBay.draw.state ≠ .drawing) ∧
      (1159 + dueBay.setup.band < (1200 : Int) ∧ (1200 : Int) ≤ 1160 + dueBay.setup.band ∧
        1240 - dueBay.setup.band ≤ (1200 : Int) ∧ (1200 : Int) < 1241 - dueBay.setup.band) ∧
      enabledMode { dueBay with seq := { dueBay.seq with bankA := bankOfOne activityStep } } = some .spund ∧
      (0 ≤ dueBay.setup.band ∧ (1200 : Int) < 1201 ∧ (1200 : Int) ≤ 1200 + dueBay.setup.band) ∧
      (let draw (oldest : Int) (n : Nat) : Draw :=
         { state := .drawing, need := true, keepTimer := some 1, rise := List.replicate n 1200 ++ [oldest] }
       (draw 1191 19).causes.any = false ∧ (1200 :: (draw 1191 19).rise).length = 21 ∧ (1200 : Int) - 1191 < 10 ∧
        10 ≤ (1200 : Int) - 1190 ∧ (1200 :: (draw 1191 18).rise).length < 21) ∧
      (let x := ({ state := .good } : Transducer)
       heldPressure (x.sample 2401 4000) = some 2401 ∧ runBay.setup.reliefCeiling - 100 < 2401 ∧
        heldPressure (x.sample 2400 4000) = some 2400 ∧ 2400 ≤ runBay.setup.reliefCeiling - 100 ∧
        ({ runBay.gas with state := .relief } : Gas).state = .relief ∧
        handedMode (stepBay { soakStep with gas := .openKeg } .running .soaking) = some .openKeg ∧
        runBay.sup.station ≠ .safe ∧ runBay.gas.state ≠ .relief) ∧
      (pouringBay.disp.state = .flowing ∧ (1200 : Int) < 1301 - 100 ∧ ¬(1200 : Int) < 1300 - 100) ∧
      (let t := after (.event100ms 1548 true) waitingBay
       let forced := { waitingBay with gas := { setpoint := 1200 }, drivers := { inlet := .forcedOn } }
       heldPressure t.sampling.transducer = some 1200 ∧ t.sampling.transducer.state = .good ∧
        waitingBay.draw.state = .waiting ∧ waitingBay.draw.need = true ∧ waitingBay.draw.causes.any = false ∧
        (formCauses waitingBay).any = false ∧ 1200 ≤ waitingBay.setup.reliefCeiling ∧ waitingBay.gas.state = .topping ∧
        1200 < waitingBay.gas.setpoint ∧ enabledMode waitingBay = some .serve ∧ mayClaim waitingBay = true ∧
        waitingBay.link.silent = false ∧ waitingBay.link.queue.length < 6 ∧
        mayClaim { waitingBay with draw := { waitingBay.draw with supplyWeak := true } } = false ∧
        forced.gas.state ≠ .topping ∧ forced.drivers.inlet = .forcedOn) ∧
      (let fault : Transducer := { state := .fault, validRun := 9, history := [1200] }
       (fault.sample 1200 4000).state = .good ∧ hasAlarm runBay.sup.active .pressureSensor = false ∧
        hasAlarm ({ active := 0x04#11 } : Supervisor).active .pressureSensor = true ∧
        (after (.event100ms 4000 true) dueBay).gas.state = .relief ∧ dueBay.link.queue.length < 3) := by
  decide


/-- The supply test of R157 at a rise of 9 and of 10, over 21 pressures; and the examination of a coordinator that waits
(R53, R148), with the permission and without. -/
theorem test_supply_test_and_examination :
    let bay (oldest : Int) : State :=
      { dueBay with
        gas := { setpoint := 1201, state := .topping }
        draw := { state := .drawing, need := true, keepTimer := some 1, rise := List.replicate 19 1200 ++ [oldest] } }
    ((after (.event100ms 1548 false) (bay 1191)).draw.state = .recover ∧
      (after (.event100ms 1548 false) (bay 1191)).draw.supplyWeak = true) ∧
      (after (.event100ms 1548 false) (bay 1190)).draw.state = .drawing ∧
      (after (.event100ms 1548 true) waitingBay).draw.state = .claiming ∧
      (after (.event100ms 1548 false)
        { waitingBay with draw := { waitingBay.draw with supplyWeak := true } }).draw.state = .waiting := by
  decide

theorem witness_OneSecondEvent :
    (dueBay.held = false ∧ dueBay.time.due1s = true) ∧
      ((runBay.sampling.jacket.sample (864 - 800) 3).state = .good ∧ (runBay.sampling.jacket.sample (864 - 800) 3).rejectRun = 0 ∧
        (runBay.sampling.jacket.sample (864 - 800) 3).filtered = some 64) ∧
      (runBay.sampling.jacket.sample (4095 - 800) 3).rejectRun ≠ 0 ∧
      (({ runBay.sampling.beer with rejectRun := 4 } : Probe).sample (4095 - 800) 3).state = .fault ∧
      (dueBay.link.silent = false ∧ (after (.event1s 864 864) dueBay).sup.latched = dueBay.sup.latched ∧
        (after (.event1s 864 864) dueBay).sup.quiet = dueBay.sup.quiet) ∧
      (let s := { dueBay with sampling := { dueBay.sampling with beer := { state := .good, rejectRun := 4 } } }
       s.link.silent = false ∧ (after (.event1s 4095 864) s).sup.latched ≠ s.sup.latched) ∧
      silentBay.link.silent = true ∧
      (let faulty : Probe := { state := .fault, validRun := 9 }
       (faulty.sample 64 3).state = .good ∧ faulty.state = .fault ∧
        hasAlarm ({ active := 0x03#11 } : Supervisor).active .beerProbe = true ∧
        hasAlarm ({ active := 0x03#11 } : Supervisor).active .jacketProbe = true ∧
        hasAlarm dueBay.sup.active .beerProbe = false ∧
        (({ state := .good, rejectRun := 4 } : Probe).sample (4095 - 800) 3).state = .fault) ∧
      (let hot := { dueBay with setup := { dueBay.setup with jacketMax := 63 } }
       dueBay.temp.limitInForce = false ∧ (after (.event1s 864 864) hot).temp.limitInForce = true ∧
        (after (.event1s 864 864) { dueBay with temp := { dueBay.temp with limitInForce := true } }).temp.limitInForce =
          false) ∧
      (let s := { dueBay with gas := { setpoint := 1200, leak := .inWindow 1200 60 }, sampling := runBay.sampling }
       s.gas.leak = .inWindow 1200 60 ∧ leakConditions (after (.event1s 864 864) s) = true ∧
        dueBay.gas.leak = .armed) := by
  decide

/-- R142: a valid beer sample 5 sixteenths from the window's start temperature discards the window, one 4 from it does not. -/
theorem test_leak_drift :
    let bay (t0 : Int) : State := { dueBay with gas := { setpoint := 1200, leak := .inWindow 1200 t0 } }
    (after (.event1s 864 864) (bay 59)).gas.leak = .armed ∧
      (after (.event1s 864 864) (bay 60)).gas.leak = .inWindow 1200 60 := by
  decide

/-- R38: a 1 s event counts; one that queues a BAY_STATE, here for BEER_PROBE, returns the count to 0; and one on which a
BAY_STATE was queued before is not counted. -/
theorem test_report_count :
    (after (.event1s 864 864) dueBay).link.reportCount = 2 ∧
      (after (.event1s 4095 864)
        { dueBay with sampling := { dueBay.sampling with beer := { state := .good, rejectRun := 4 } } }).link.reportCount = 0 ∧
      (after (.event1s 864 864) (after (.quiet toMe 0#8 []) dueBay)).link.reportCount = 0 := by
  decide

/-- R5: the tail's last event has come, and no 10 ms event passes before its end is taken. -/
theorem test_no_event_passes_an_end :
    let pins : SwitchPins :=
      { handle := .high, kegPresent := .low, lidClosed := .low, dripFull := .high, extStop := .high }
    (after (.event10ms pins) tailingBay).time.tens = 0 ∧
      (after (.event10ms pins) (after .tailTimerEnd tailingBay)).time.tens = 1 := by
  decide

theorem witness_EveryMinuteFormsTheShare :
    (dueBay.held = false ∧ dueBay.time.due1min = true) ∧ runBay.view.chillerReading = none ∧ runBay.link.silent = false ∧
      (({} : PeerView).fillChiller 9 { capacity := 200, saturated := true, left := 0 }).chillerReading =
        some { capacity := 200, saturated := true, left := 0 } := by
  decide

theorem witness_WeightedShare :
    (120 + ([(60, 1), (20, 1)].map (·.1)).sum ≤ 200) ∧ 200 < 120 + ([(60, 1), (21, 1)].map (·.1)).sum := by decide

theorem witness_OneMinuteWindow :
    (let s := { dueBay with sup := { station := .safe } }
     s.held = false ∧ s.time.due1min = true ∧ s.sup.station ≠ .run) ∧
      (dueBay.held = false ∧ dueBay.time.due1min = true ∧ dueBay.temp.windowFormed = true ∧ dueBay.sup.station = .run ∧
        dueBay.seq.profile ≠ .idle ∧ dueBay.sampling.beer.state = .good ∧ dueBay.sampling.beer.filtered = some 64 ∧
        dueBay.seq.phase ≠ some .ramping) ∧
      ({ dueBay with temp := {} } : State).temp.windowFormed = false ∧
      (dueBay.seq.current = some soakStep ∧ dueBay.seq.phase = some .soaking ∧ dueBay.seq.profile = .running ∧
        dueBay.seq.count + 1 ≠ soakStep.duration * 60 ∧ dueBay.seq.count ≠ soakStep.duration * 60 ∧
        59 + 1 = soakStep.duration * 60 ∧ ∃ g, syncStep.endKind = .groupSync g) ∧
      (let s := { stepBay soakStep .ended .waiting with time := dueBay.time }
       s.held = false ∧ s.time.due1min = true ∧ s.seq.profile = .ended ∧ s.seq.current = some soakStep ∧
        s.seq.phase = some .waiting ∧ ({ s.seq with profile := .paused } : Sequencer).profile = .paused) := by
  refine ⟨by decide, by decide, by decide, ⟨by decide, by decide, by decide, by decide, by decide, by decide, 3, rfl⟩,
    by decide⟩

/-- The count of R75 and the idle timer of R184 gain one on a 1 min event; a pour holds the idle timer. -/
theorem test_minute_counts :
    (after (.event1min true) dueBay).seq.count = dueBay.seq.count + 1 ∧
      (after (.event1min true) dueBay).sup.idleCount = dueBay.sup.idleCount + 1 ∧
      (after (.event1min true) { dueBay with disp := pouringBay.disp }).sup.idleCount = dueBay.sup.idleCount := by
  decide +kernel

/-- R61: a ceiling of 1000 hPa written at 1200 hPa is not the one that a change of profile state evaluates against, and is the
one that the next 100 ms event does. -/
theorem test_ceiling_comes_in_force :
    let bay : State := { setupBay with seq := runBay.seq, time := dueBay.time }
    let written := after (.setupItem toMe 0#8 [12#8, 0x03#8, 0xE8#8]) bay
    let again (s : State) : State := { s with link := runBay.link }
    written.setup.reliefCeiling = 1000 ∧ (after (.pauseProfile toMe 0#8 []) (again written)).gas.state ≠ .relief ∧
      (after (.event100ms 1547 false) written).gas.state = .relief := by
  decide +kernel

/-- The ramp stands one increment and one part in 65536 below its target, and one increment below it. -/
theorem witness_RampMovesTowardItsTarget :
    (0 < (728 : Int) ∧ (0 : Int) ≤ 16 * 65536 ∧ (16 : Int) * 65536 ≤ 17 * 65536) ∧
      (let s := { stepBay rampStep .ended .ramping with time := dueBay.time, temp := { accumulator := 80 * 65536 - 729 } }
       s.held = false ∧ s.time.due1min = true ∧ s.sup.station = .run ∧
        (s.seq.profile = .running ∨ s.seq.profile = .ended) ∧ s.seq.phase = some .ramping ∧
        s.seq.current = some rampStep ∧ rampStep.kind = .ramp 16 ∧
        ((16 * 65536 + 720) / 1440 : Nat) < (s.temp.accumulator - rampStep.target * 65536).natAbs) ∧
      ((80 * 65536 - 728 : Int) - rampStep.target * 65536).natAbs ≤ (16 * 65536 + 720) / 1440 ∧ 0 < rampStep.duration := by
  decide

theorem witness_GasSetpoint :
    ((7, 715, 650) ∈ [((0 : Nat), (1650 : Nat), (1440 : Nat)), (1, 1440, 1260), (2, 1260, 1110), (3, 1110, 985),
        (4, 985, 880), (5, 880, 790), (6, 790, 715), (7, 715, 650)] ∧ 63 < 64) ∧ ((0 : Int) ≤ 0 ∧ (512 : Int) ≤ 512) ∧
      (64 : Int) ≤ 88 ∧ 0 < 1440 ∧ handedTarget runBay = some 250 ∧ runBay.sampling.beer.filtered = some 64 ∧
      250 ≤ ({ runBay.setup with reliefCeiling := 250 } : SetupItems).reliefCeiling := by
  decide

/-- A drop of the leak limit, and of one more; the last two hours below 3 pulses, and the last one not. -/
theorem witness_OneHourEvent :
    (let s := { dueBay with
       seq := { runBay.seq with profile := .ended }, sampling := runBay.sampling
       gas := { setpoint := 1200, leak := .inWindow 1261 64 } }
     s.held = false ∧ s.time.due1h = true ∧ s.seq.profile ≠ .running ∧ s.gas.bucketBegunNow = false ∧
      (dueBay.seq.profile = .running ∧ dueBay.seq.phase ≠ some .waiting ∧ dueBay.time.due1h = true) ∧
      ({ s.gas with bucketBegunNow := true } : Gas).bucketBegunNow = true ∧
      s.gas.leak = .inWindow 1261 64 ∧ heldPressure s.sampling.transducer = some 1200 ∧
      s.sampling.beer.filtered = some 64 ∧ s.setup.leakLimit < 1261 - 1200 ∧ hasAlarm s.sup.latched .leak = false ∧
      hasAlarm s.sup.active .leak = false ∧ (1260 : Int) - 1200 ≤ s.setup.leakLimit ∧ leakConditions s = true ∧
      ({ s.gas with leak := .armed } : Gas).leak = .armed) ∧
      (let s := { dueBay with
         seq := { runBay.seq with bankA := bankOfOne activityStep, phase := some .waiting }
         gas := { setpoint := 1200, openBucket := 2, buckets := [2] } }
       s.held = false ∧ s.time.due1h = true ∧ s.gas.bucketBegunNow = false ∧ s.sup.station = .run ∧
        s.seq.profile = .running ∧ s.seq.phase = some .waiting ∧ s.seq.current = some activityStep ∧
        activityStep.endKind ≠ .time ∧ s.seq.pendingSwitch = none ∧ nextSlot s.seq = none ∧
        EndMet activityStep { s with gas := { s.gas with buckets := (s.gas.openBucket :: s.gas.buckets).take 8 } } ∧
        nextSlot { s.seq with bankA := some activityStep :: bankOfOne soakStep } = some soakStep ∧
        0 < soakStep.duration) := by
  refine ⟨by decide, by decide, by decide, by decide, by decide, by decide, by decide, by decide, by decide, by decide,
    by decide, .inr ⟨2, 3, rfl, by decide, by decide, by decide⟩, by decide, by decide⟩

/-- Three pulses in the newest hour are not fewer than 3: the step's end is not met, and it goes on waiting. -/
theorem test_activity_not_low :
    let s := { dueBay with
      seq := { runBay.seq with bankA := bankOfOne activityStep, phase := some .waiting }
      gas := { setpoint := 1200, openBucket := 3, buckets := [2] } }
    (after .event1h s).seq = s.seq ∧ (after .event1h s).gas.buckets = [3, 2] := by
  decide

/-- Each condition of R165 alone, at its bound. -/
theorem witness_PressDenied :
    (let s := { pressedBay with disp := { level := 150 } }
     s.held = false ∧ s.sampling.handle.active = true ∧ s.sampling.handle.undelivered = true ∧ s.disp.state = .idle ∧
      denialReason s = some .emptyKeg) ∧
      safeBay.sup.station = .safe ∧ setupBay.sup.station = .setup ∧
      (runBay.sup.station = .run ∧ handedMode (stepBay { soakStep with gas := .openKeg } .running .soaking) ≠ some .serve) ∧
      (runBay.sup.station = .run ∧ handedMode runBay = some .serve ∧ runBay.sampling.keg.active = true ∧
        runBay.sampling.lid.active = true ∧ runBay.sampling.drip.active = false ∧ runBay.sampling.beer.state = .good ∧
        runBay.sampling.transducer.state = .good ∧ runBay.sampling.beer.filtered = some 64 ∧
        heldPressure runBay.sampling.transducer = some 1200) ∧
      runBay.setup.reserve < 151 ∧ runBay.setup.serveMax < 129 ∧ (128 : Int) ≤ runBay.setup.serveMax ∧
      (299 : Int) < runBay.setup.serveFloor ∧ runBay.setup.serveFloor ≤ 300 := by
  decide

theorem witness_PressGrantedOrDeferredAndRelease :
    (let s := { pressedBay with
       disp := { level := 151 }
       sampling := { pressedBay.sampling with
         beer := { state := .good, filtered := some 128 }, transducer := { state := .good, history := [300] } } }
     s.held = false ∧ s.sampling.handle.active = true ∧ s.sampling.handle.undelivered = true ∧ s.disp.state = .idle ∧
      Serving s ∧
      s.sampling.lid.active = true ∧ s.sampling.drip.active = false ∧ s.setup.reserve < s.disp.level ∧
      s.sampling.beer.filtered = some 128 ∧ (128 : Int) ≤ s.setup.serveMax ∧
      heldPressure s.sampling.transducer = some 300 ∧ s.setup.serveFloor ≤ 300) ∧
      (pressedBay.sampling.handle.active = true ∧ pressedBay.sampling.handle.undelivered = true ∧
        ({ pressedBay with disp := tailingBay.disp } : State).disp.state = .tailing) ∧
      (let s := { runBay with sampling := { runBay.sampling with handle := { undelivered := true } } }
       s.held = false ∧ s.sampling.handle.active = false ∧ s.sampling.handle.undelivered = true ∧ s.disp.state ≠ .flowing ∧
        ({ s with disp := pouringBay.disp } : State).disp.state = .flowing ∧ s.drivers.tap ≠ .forcedOn) := by
  unfold Serving ServingApartFromKeg; decide

/-- R180: a granted press queues POUR(START) with the pour's number, the tail's end POUR(END) with its volume, 100 mL. -/
theorem test_pour_frames :
    .pourStart 1 ∈ (after .handlePress pressedBay).link.queue.map (·.frame) ∧
      .pourEnd 1 100 (.poured .handle) ∈ (after .tailTimerEnd tailingBay).link.queue.map (·.frame) := by
  decide +kernel

theorem witness_LineChanges :
    (let s := { pouringBay with sampling := { runBay.sampling with
       keg := { undelivered := true }, lid := { undelivered := true }, drip := { active := true, undelivered := true } } }
     s.held = false ∧ s.sampling.levelsTaken = true ∧ s.sampling.keg.undelivered = true ∧ s.sampling.keg.active = false ∧
      s.disp.state = .flowing ∧ s.sampling.lid.undelivered = true ∧ s.sampling.lid.active = false ∧
      s.sup.station = .run ∧ s.sup.quiet = false ∧ s.setup.activitySet.getLsbD 4 = true ∧
      (let u := { s with sup := { s.sup with quiet := true }, setup := { s.setup with wakeSet := 16#6, watchSet := 0#4 } }
       u.sup.quiet = true ∧ u.setup.wakeSet.getLsbD 4 = true ∧ u.link.silent = false ∧
         (after (.auxLineChange .lidClosed) u).sup.active = u.sup.active) ∧
      (let u := { s with sup := { s.sup with quiet := true }, setup := { s.setup with watchSet := 0#4 } }
       u.setup.wakeSet.getLsbD 4 = false ∧ (after (.auxLineChange .lidClosed) u).sup.active = u.sup.active) ∧
      ({ s.setup with activitySet := 47#6 } : SetupItems).activitySet.getLsbD 4 = false ∧
      s.sampling.drip.undelivered = true ∧ s.setup.watchSet.getLsbD 0 = true ∧ s.setup.watchSet.getLsbD 1 = true ∧
      s.setup.watchSet.getLsbD 2 = true) ∧
      (({ active := true, undelivered := true } : Switch).active = true ∧
        ({ runBay.setup with watchSet := 0#4 } : SetupItems).watchSet.getLsbD 0 = false) ∧
      (let ext : Switch := { active := true, undelivered := true }
       let s := { runBay with sampling := { runBay.sampling with ext := ext } }
       let u := { safeBay with sampling := { runBay.sampling with ext := ext } }
       let v := { setupBay with sampling := { runBay.sampling with ext := ext } }
       let w := after (.leaveSafe toMe 0#8 []) u
       (s.held = false ∧ s.sampling.ext.active = true ∧ s.sampling.ext.undelivered = true ∧
         hasAlarm s.sup.active .extStop = false ∧ s.sup.station = .run) ∧
        (u.held = false ∧ u.sup.station = .safe ∧ u.sup.leaveSafeRefused = false ∧
          hasAlarm (after .extStopActive u).sup.active .extStop = true) ∧
        (w.held = false ∧ w.sup.station = .safe ∧ w.sup.leaveSafeRefused = true ∧ w.sampling.ext = ext ∧
          hasAlarm (after .extStopActive w).sup.active .extStop = false) ∧
        (v.held = false ∧ v.sup.station = .setup)) ∧
      (let s := { safeBay with sampling := { runBay.sampling with ext := { undelivered := true } } }
       s.held = false ∧ s.sampling.ext.active = false ∧ s.sampling.ext.undelivered = true) ∧
      (runBay.held = false ∧ runBay.sampling.undelivered = false) := by
  decide

theorem witness_FlowPulseCounts :
    (runBay.held = false ∧ runBay.disp.state = .idle) ∧ tailingBay.disp.state = .tailing ∧
      (let s := { pouringBay with disp := { pouringBay.disp with stallTimer := some 1 } }
       s.held = false ∧ s.disp.state = .flowing ∧ s.disp.pour = some thePour ∧ thePour.portion = none ∧
        (1 * s.setup.flowFactor + 500) / 1000 < s.setup.maxPour ∧ s.disp.stallTimer ≠ some 0) ∧
      ({ thePour with portion := some 330 } : Pour).portion = some 330 ∧ 330 ≤ (132 * 2500 + 500) / 1000 ∧
      (131 * 2500 + 500) / 1000 < 330 ∧ pouringBay.setup.maxPour ≤ (1199 * 500 + 500) / 1000 := by
  decide

/-- R170, R5: a pulse starts a running stall timer afresh, and not one that has run out. -/
theorem test_pulse_and_stall_timer :
    let bay (left : Nat) : State := { pouringBay with disp := { pouringBay.disp with stallTimer := some left } }
    (after .flowPulse (bay 1)).disp.stallTimer = some 200 ∧ (after .flowPulse (bay 0)).disp.stallTimer = some 0 := by
  decide

theorem witness_DurationElapses :
    (let s := stepBay soakStep .running .soaking
     let s := { s with seq := { s.seq with count := 60 } }
     s.held = false ∧ s.seq.current = some soakStep ∧ s.seq.phase = some .soaking ∧ s.seq.count = soakStep.duration * 60 ∧
      s.seq.profile = .running ∧ soakStep.endKind = .time ∧ nextSlot s.seq = none ∧ s.seq.pendingSwitch = none ∧
      s.link.silent = false) ∧
      (stepBay soakStep .paused .soaking).seq.profile = .paused ∧ (stepBay soakStep .ended .soaking).seq.profile = .ended ∧
      EndMet soakStep runBay ∧ ¬EndMet syncStep runBay ∧ EndMet activityStep { runBay with gas := { buckets := [2, 2] } } ∧
      ¬EndMet activityStep { setupBay with gas := { buckets := [2, 2] } } ∧
      nextSlot { runBay.seq with bankA := some soakStep :: bankOfOne rampStep } = some rampStep ∧
      (let q := { (stagedBay rampStep).seq with pendingSwitch := some ⟨.stepEnd, 0⟩ }
       q.slot q.staged 0 = some rampStep) ∧ 0 < rampStep.duration := by
  refine ⟨by decide, by decide, by decide, .inl rfl, (by rintro (h | ⟨_, _, h, _⟩) <;> cases h),
    .inr ⟨2, 3, rfl, by decide, by decide, by decide⟩, ?_, by decide, by decide, by decide⟩
  rintro (h | ⟨_, _, -, h, _⟩) <;> exact absurd h (by decide)

/-- R83, R85: with the ring low at the entry to WAITING the next slot's step starts, and queues its sync out (R79). -/
theorem test_elapsed_step_advances :
    let next : StepRecord := { rampStep with syncOut := some 2 }
    let s := { runBay with
      seq := { runBay.seq with bankA := some activityStep :: bankOfOne next, count := 60 }, gas := { buckets := [2, 2] } }
    (after .durationElapsed s).seq.index = 1 ∧ (after .durationElapsed s).seq.phase = some .ramping ∧
      .groupSync 2 ∈ (after .durationElapsed s).link.queue.map (·.frame) := by
  decide

theorem witness_TimerEnds :
    (let s := { pouringBay with
       temp := { onTimer := some 0 }, cool := { openTimer := some 0 }, gas := { state := .pulse, pulseTimer := some 0 }
       disp := { pouringBay.disp with stallDelay := some 0, stallTimer := some 0, portionTimer := some 0 } }
     s.held = false ∧ s.temp.onTimer = some 0 ∧ s.cool.openTimer = some 0 ∧ s.gas.state = .pulse ∧
      s.gas.pulseTimer = some 0 ∧ s.disp.state = .flowing ∧ s.disp.stallDelay = some 0 ∧ s.disp.portionTimer = some 0 ∧
      s.disp.stallTimer = some 0 ∧ s.disp.pour = some thePour ∧ thePour.portion = none ∧
      (1 * s.setup.flowFactor + 500) / 1000 < s.setup.maxPour) ∧
      (let s := { runBay with gas := { state := .settle, settleTimer := some 0, setpoint := 1159 } }
       s.held = false ∧ s.gas.state = .settle ∧ s.gas.settleTimer = some 0 ∧ enabledMode s = some .serve ∧
        goodPressure s.sampling.transducer = some 1200 ∧ 1200 ≤ s.gas.ceiling ∧
        s.gas.setpoint + effectiveBand s < 1200 ∧ 1160 - effectiveBand s ≤ 1200 ∧ 1200 ≤ 1160 + effectiveBand s) ∧
      (runBay.link.silent = false ∧ (if runBay.sup.quiet then 30 else 5) ≤ ({ reportCount := 5 } : Link).reportCount) ∧
      silentBay.link.silent = true ∧
      (let s := { runBay with sup := { station := .run, idleCount := 60 } }
       s.sup.station = .run ∧ s.sup.quiet = false ∧ 0 < s.setup.idlePeriod ∧ s.disp.state = .idle ∧
        s.setup.idlePeriod ≤ s.sup.idleCount ∧ ({ s with disp := pouringBay.disp } : State).disp.state = .flowing) := by
  decide

theorem witness_CoordinatorTimerEnds :
    (let s := { runBay with draw := { state := .claiming, need := true, settleWindow := some 0 } }
     s.held = false ∧ s.draw.state = .claiming ∧ s.draw.settleWindow = some 0 ∧ countedAgainst s < s.draw.limit) ∧
      (let s := { runBay with
         draw := { state := .claiming, limit := 1, need := true, settleWindow := some 0 }
         view := ({} : PeerView).fillDraw 5 { draw := .drawing .routine, supplyWeak := false, left := 1 } }
       s.draw.state = .claiming ∧ s.draw.limit ≤ countedAgainst s) ∧
      (let s := { runBay with draw := { state := .drawing, need := true, keepTimer := some 0, keepCount := 2 } }
       s.held = false ∧ s.draw.state = .drawing ∧ s.draw.keepTimer = some 0 ∧ s.draw.keepCount < 3) ∧
      3 ≤ ({ keepCount := 3 } : Draw).keepCount ∧
      (let s := { runBay with draw := { state := .backoff, need := true, backoffTimer := some 0 } }
       s.held = false ∧ s.draw.backoffTimer = some 0 ∧ s.draw.state = .backoff ∧ s.draw.need = true ∧ mayClaim s = true ∧
        s.link.silent = false ∧ s.link.queue.length < 6) ∧
      (let s := { runBay with draw := { state := .recover, need := true, backoffTimer := some 0, supplyWeak := true } }
       s.draw.backoffTimer = some 0 ∧ s.draw.state = .recover ∧ s.draw.need = true ∧ mayClaim s = false) ∧
      ({ state := .recover, backoffTimer := some 0 } : Draw).need = false ∧ runBay.draw.urgency = .routine ∧
      pouringBay.draw.urgency = .priority := by
  decide

/-- The table of R150 at station 3 with a ROUTINE claim, one peer a row; and the permission of R148 with one PRIORITY
drawer at a draw limit of 1. -/
theorem test_ranking_and_permission :
    let bay (n : Nat) (x : PeerDraw) : State :=
      { runBay with
        ident := { number := 3, heaterFitted := true }, setup := { drawLimit := 1 }
        view := ({} : PeerView).fillDraw n { draw := x, supplyWeak := false, left := 1 } }
    ([(2, .drawing .routine), (4, .claiming .priority), (2, .claiming .routine), (4, .claiming .routine),
        (2, .notDrawing)].map fun (n, x) => countedAgainst (bay n x)) = [1, 1, 1, 0, 0] ∧
      countedAgainst { bay 2 (.claiming .routine) with draw := { claimUrgency := .priority } } = 0 ∧
      (mayClaim (bay 2 (.drawing .routine)) = false ∧ mayClaim (bay 2 (.claiming .priority)) = true) ∧
      mayClaim { bay 2 (.drawing .routine) with draw := { urgency := .priority } } = true ∧
      mayClaim { bay 2 (.drawing .priority) with draw := { urgency := .priority } } = false := by
  decide

theorem witness_PourTimerEnds :
    (let s := { pouringBay with disp := { pouringBay.disp with level := 350, lowTimer := some 0 } }
     s.held = false ∧ s.disp.state = .flowing ∧ s.disp.pour = some thePour ∧ s.disp.stallTimer = some 0 ∧
      (s.disp.level : Int) - ((s.disp.pulses * s.setup.flowFactor + 500) / 1000 : Nat) ≤ s.setup.reserve + 200 ∧
      (s.setup.reserve : Int) + 200 < 351 ∧ s.disp.lowTimer = some 0) ∧
      (tailingBay.held = false ∧ tailingBay.disp.state = .tailing ∧ tailingBay.disp.tailTimer = some 0 ∧
        tailingBay.disp.pour = some { thePour with reason := some .handle } ∧ tailingBay.disp.deferred = false ∧
        tailingBay.sampling.handle.active = false) ∧
      (let s := { tailingBay with
         disp := { tailingBay.disp with deferred := true }
         sampling := { tailingBay.sampling with handle := { active := true } } }
       let shut := { s with sampling := { s.sampling with lid := {} } }
       s.held = false ∧ s.disp.deferred = true ∧ s.sampling.handle.active = true ∧
        denialReason { s with disp := { s.disp with level := 4900, state := .idle } } = none ∧
        (after .tailTimerEnd s).disp.state = .flowing ∧ (after .tailTimerEnd s).disp.pour.map (·.number) = some 2 ∧
        denialReason { shut with disp := { s.disp with level := 4900, state := .idle } } = some .lidOpen ∧
        (after .tailTimerEnd shut).disp.log.map (·.number) = [1, 2]) ∧
      ({ active := true, undelivered := true } : Switch).undelivered = true ∧
      ((recordOf 1).number = 1 ∧ (recordOf 2).number ≠ 1 ∧ (List.replicate 31 (recordOf 2)).length < 32 ∧
        32 ≤ (List.replicate 32 (recordOf 2)).length) ∧ 4294967294 < 4294967295 := by
  decide

/-- R174: the handle was released and pressed again, and the second press is not delivered at the tail's end: the deferred
request is withdrawn without a record, and the delivery tests the second press, here denied with the lid open. -/
theorem test_deferred_press_released :
    let s := { tailingBay with
      disp := { tailingBay.disp with deferred := true }
      sampling := { tailingBay.sampling with handle := { active := true, undelivered := true }, lid := {} } }
    let t := after .tailTimerEnd s
    t.disp.state = .idle ∧ t.disp.log.map (·.number) = [1] ∧ (after .handlePress t).disp.log.map (·.number) = [1, 2] := by
  decide

theorem witness_FramesJoinTheQueue :
    let claim : QFrame := { frame := .draw .claim .routine false }
    let alarm : QFrame := { frame := .alarm .leak true 3#4 }
    (silentBay.link.silent = true ∧ runBay.link.silent = false) ∧
      (coalescesWith claim.frame claim = true ∧ ∀ x ∈ ([{ frame := .bayState }] : List QFrame), coalescesWith claim.frame x = false) ∧
      (coalescesWith claim.frame alarm = false ∧ alarm.frame.priority ≤ claim.frame.priority ∧
        claim.frame.priority < Frame.bayState.priority) ∧
      (6 ≤ (List.replicate 6 alarm).length ∧ ∀ x ∈ List.replicate 6 alarm, x.frame.isBayState = true → x.inFlight = true) ∧
      Frame.bayState.isBayState = true := by
  decide

theorem witness_BusEventsAndSend :
    (runBay.held = false ∧ runBay.link.attempt = none ∧ ({ runBay.link with bus := .idle } : Link).bus = .idle) ∧
      ({ queue := [{ frame := .bayState }], bus := .idle } : Link).queue = { frame := .bayState } :: [] ∧
      (let s := sendingBay { frame := .draw .claim .routine false, liveClaim := true }
       s.held = false ∧ s.link.attempt.isSome = true ∧
        s.link.queue = [{ frame := .alarm .leak true 3#4 }] ++ { frame := .draw .claim .routine false, liveClaim := true, inFlight := true } :: [] ∧
        (∀ x ∈ ([{ frame := .alarm .leak true 3#4 }] : List QFrame), x.inFlight = false) ∧
        hasAlarm s.sup.active .linkFault = false ∧ s.draw.state ≠ .claiming) ∧
      (({ state := .claiming, need := true } : Draw).state = .claiming ∧ ({ state := .claiming, need := true } : Draw).settleWindow = none) ∧
      inGroupSet runBay 3 = true ∧ inGroupSet runBay 2 = false ∧ hasAlarm (0x400#11) .linkFault = true := by
  decide

/-- In the attempt of a DRAW the first recessive bit of the arbitration field is its priority's second. -/
theorem witness_AttemptsFail :
    let q : QFrame := { frame := .draw .keep .routine false, attempts := 3, inFlight := true }
    let s := sendingBay q
    let os := frameOctets runBay q.frame
    let claim : QFrame := { frame := .draw .claim .routine false, attempts := 3, liveClaim := true, inFlight := true }
    let u := { sendingBay claim with draw := { state := .claiming, need := true } }
    (s.held = false ∧ s.link.attempt = some { octets := os, carriesTxDropped := false, droppedSince := false } ∧
      s.link.queue = [{ frame := .alarm .leak true 3#4 }] ++ q :: [] ∧ q.inFlight = true ∧
      (∀ x ∈ ([{ frame := .alarm .leak true 3#4 }] ++ [] : List QFrame), x.inFlight = false) ∧
      (2 < 15 ∧ (wireBits os)[2]? = some true) ∧ isBitError os 0 = true ∧ 2 < 3 ∧ 3 ≤ q.attempts ∧ q.liveClaim = false ∧
      s.link.dropCount ≠ 2 ∧ ({ dropCount := 2 } : Link).dropCount = 2) ∧
      (u.held = false ∧ u.link.queue = [{ frame := .alarm .leak true 3#4 }] ++ claim :: [] ∧ 3 ≤ claim.attempts ∧
        claim.liveClaim = true ∧ u.draw.state = .claiming ∧ u.draw.settleWindow = none ∧ u.link.dropCount ≠ 2 ∧
        mayClaim u = true ∧ u.link.silent = false ∧
        mayClaim { u with draw := { u.draw with supplyWeak := true } } = false) := by
  decide +kernel

theorem witness_DuplicateSilencesTheStation :
    (runBay.held = false ∧ canReceive runBay = true ∧ FromTwin ⟨1, .all⟩ runBay ∧ runBay.link.silent = false) ∧
      Received ⟨1, .all⟩ (.receiveDraw ⟨1, .all⟩ [0#8]) ∧
      (let w : WireHeader := { priority := 3, cls := 4, src := 1, destNumber := 3, destKind := 1, length := 0 }
       readFrame (frameOctets runBay (.groupSync 3)) = .good w [] ∧ w.src ≠ 0 ∧ w.src = runBay.ident.number) ∧
      silentBay.link.silent = true ∧ canReceive silentBay = true := by
  refine ⟨by unfold FromTwin; decide, .inl ⟨_, .inr (.inl rfl)⟩, by decide +kernel, by decide⟩

/-- Of the octets, each is a BAY_STATE's length or less: source 0, kind 3, another station, class 0, class 9, an ALARM, a
RESULT, and a DRAW that is RECEIVE_DRAW's. -/
theorem witness_FramesWithoutEffect :
    (Unaccepted ⟨0, .all⟩ runBay ∧ Unaccepted ⟨5, .station 2⟩ runBay) ∧
      Received ⟨0, .all⟩ (CommandName.row ⟨0, .all⟩ 0#8 [] .quiet) ∧
      (runBay.held = false ∧ canReceive runBay = true) ∧
      (readFrame [0#8, 0x50#8, 0x11#8] = .tooLong ∧ readFrame [0#8, 0x50#8, 0x10#8] = .broken) ∧
      (readFrame (sealed [0x42#8, 0#8, 0x81#8, 0#8]) = .good ⟨2, 2, 0, 0, 2, 1⟩ [0#8] ∧
        readFrame (sealed [0x42#8, 0x50#8, 0xC1#8, 0#8]) = .good ⟨2, 2, 5, 0, 3, 1⟩ [0#8] ∧
        readFrame (sealed [0x86#8, 0x52#8, 0#8]) = .good ⟨4, 6, 5, 2, 0, 0⟩ [] ∧
        destOf 0 2 = some (.station 2) ∧ destAccepted runBay (.station 2) = false ∧
        readFrame (sealed [0x20#8, 0x50#8, 0x80#8]) = .good ⟨1, 0, 5, 0, 2, 0⟩ [] ∧
        readFrame (sealed [0x29#8, 0x50#8, 0x80#8]) = .good ⟨1, 9, 5, 0, 2, 0⟩ [] ∧
        readFrame (sealed [0x21#8, 0x50#8, 0x82#8, 0#8, 0#8]) = .good ⟨1, 1, 5, 0, 2, 2⟩ [0#8, 0#8] ∧
        readFrame (sealed [0xA7#8, 0x51#8, 0x03#8, 0#8, 0#8, 0#8]) = .good ⟨5, 7, 5, 1, 0, 3⟩ [0#8, 0#8, 0#8]) ∧
      judge (sealed [0x42#8, 0x50#8, 0x81#8, 0#8]) runBay = .routed (.receiveDraw ⟨5, .all⟩ [0#8]) ∧
      ({ runBay.link with bus := .busy } : Link).bus ≠ .receiving ∧
      Addressed toMe runBay ∧ ([0#8] : List Byte).length ≠ CommandName.quiet.argLength ∧ namesCommand 0x54#8 = false ∧
      (Accepts toAll runBay ∧ Accepts toMe runBay ∧ Accepts ⟨5, .group 3⟩ runBay ∧ toMe.dest ≠ .all ∧
        ([0#8, 0#8] : List Byte).length ≠ 1 ∧ 192 ≤ (0xC0#8).toNat ∧ ([2#8] ++ List.replicate 7 0#8).head? = some 2#8 ∧
        2 ≤ (2#8).toNat) ∧
      (readFrame (sealed [0x42#8, 0x51#8, 0x01#8, 0#8]) = .good ⟨2, 2, 5, 1, 0, 1⟩ [0#8] ∧
        FrameClass.draw.number = 2 ∧ destOf 0 1 = some (.station 1) ∧ Dest.station 1 ≠ .all) ∧
      (Addressed toMe silentBay ∧ LinkOk silentBay.link ∧ silentBay.link.silent = true ∧ CommandName.quiet ≠ .restart) := by
  refine ⟨by unfold Unaccepted; decide, .inr (.inl ⟨_, _, _, rfl⟩), by decide, by decide, by decide +kernel,
    by decide +kernel, by decide, by unfold Addressed Accepts; decide, by decide, by decide,
    by unfold Accepts; decide, by decide +kernel, by unfold Addressed Accepts LinkOk QueueOk; decide⟩

/-- R35, R40: in SILENT a command is acted on, and its RESULT is not queued. -/
theorem test_command_in_silent :
    let t := after (.quiet toMe 7#8 []) { runBay with link := { runBay.link with silent := true } }
    t.sup.quiet = true ∧ t.link.queue = [] := by
  decide

theorem witness_PeersFillTheView :
    (Accepts toAll runBay ∧ toAll.dest = .all ∧ runBay.draw.state ≠ .waiting ∧ runBay.draw.state ≠ .drawing) ∧
      (let s := { runBay with draw := { state := .waiting, need := true } }
       let view (p : PeerDraw) := s.view.fillDraw 5 { draw := p, supplyWeak := false, left := 300 }
       Accepts toAll s ∧ s.draw.state = .waiting ∧ s.link.silent = false ∧ s.link.queue.length < 6 ∧
        mayClaim { endReception s with view := view .notDrawing } = true ∧
        mayClaim { endReception s with view := view (.drawing .routine), setup := { s.setup with drawLimit := 1 } } =
          false) ∧
      ((0xFF#8).getLsbD 4 = true ∧ (0xFF#8).toNat / 64 = 3) ∧ (0x00#8).toNat / 64 = 0 ∧ (0x40#8).toNat / 64 = 1 ∧
      (0x80#8).toNat / 64 = 2 ∧ (runBay.view.entries.length = 15 ∧ 1 ≤ 1 ∧ 15 ≤ 15) ∧
      Addressed toMe runBay ∧ (1 ≤ (15#8).toNat ∧ (15#8).toNat ≤ 15) ∧ (0#8).toNat < 1 ∧ 15 < (16#8).toNat := by
  unfold Addressed Accepts; decide

theorem witness_YieldToPriority :
    let s := { runBay with draw := { state := .drawing, need := true, keepTimer := some 1 } }
    let view := s.view.fillDraw 5 { draw := .claiming .priority, supplyWeak := false, left := 100 }
    Accepts toAll s ∧ toAll.dest = .all ∧ s.draw.state = .drawing ∧ (0x20#8).toNat / 64 = 0 ∧ (0x20#8).getLsbD 5 = true ∧
      s.draw.urgency = .routine ∧ view.drawers.length + 1 < s.draw.limit ∧
      ({ limit := 1 } : Draw).limit ≤ view.drawers.length + 1 ∧
      (∀ d ∈ view.drawers, d.2 = .routine → d.1 ≤ s.ident.number) ∧
      ∃ d ∈ (view.fillDraw 2 { draw := .drawing .routine, supplyWeak := false, left := 1 }).drawers,
        d.2 = .routine ∧ s.ident.number < d.1 := by
  unfold Accepts; decide

theorem witness_GroupSyncActs :
    (let s := stagedBay soakStep
     let s := { s with seq := { s.seq with pendingSwitch := some ⟨.groupSync 3, 0⟩ } }
     Accepts ⟨5, .group 3⟩ s ∧ s.seq.pendingSwitch = some ⟨.groupSync 3, 0⟩ ∧
      s.seq.slot s.seq.staged 0 = some soakStep ∧ soakStep.kind = .soak ∧ 0 < soakStep.duration) ∧
      (let s := stepBay syncStep .running .waiting
       Accepts ⟨5, .group 3⟩ s ∧ s.seq.pendingSwitch = none ∧ s.seq.profile = .running ∧ s.seq.phase = some .waiting ∧
        s.seq.current = some syncStep ∧ syncStep.endKind = .groupSync 3 ∧ nextSlot s.seq = none) ∧
      Accepts ⟨5, .group 3⟩ runBay ∧ runBay.seq.pendingSwitch = none ∧ runBay.seq.phase ≠ some .waiting := by
  unfold Accepts; decide

theorem witness_GroupCommands :
    Accepts toAll runBay ∧ (∀ n, toAll.dest ≠ .station n) ∧ Accepts ⟨5, .group 3⟩ safeBay ∧
      CommandName.start.takenByGroup = false ∧ ([0#8] : List Byte).length ≠ CommandName.quiet.argLength := by
  refine ⟨by unfold Accepts; decide, by nofun, by unfold Accepts; decide, by decide, by decide⟩

theorem witness_SetupItems :
    (Addressed toMe runBay ∧ runBay.sup.station ≠ .setup) ∧ (Addressed toMe setupBay ∧ setupBay.sup.station = .setup) ∧
      26 ≤ (26#8).toNat ∧
      (itemNames[(3#8).toNat]? = some .filterShift ∧ ItemName.filterShift.values = .range 0 5 ∧
        setupBay.setup.get .filterShift ≠ 6 ∧ itemNames[(12#8).toNat]? = some .reliefCeiling ∧
        setupBay.setup.get .reliefCeiling = 2500) ∧
      (itemNames[(0#8).toNat]? = some .groupSet ∧ ItemName.groupSet.values = .members 4 ∧
        (2 : Int) ^ 4 ≤ signed16 0#8 16#8 ∧ signed16 0xFF#8 0xFF#8 < 0 ∧ 0 ≤ signed16 0#8 15#8 ∧
        signed16 0#8 15#8 < (2 : Int) ^ 4 ∧ itemNames[(24#8).toNat]? = some .watchReference ∧
        setupBay.setup.get .watchReference = signed16 0#8 3#8) ∧
      (let s := setupBay
       max 1000 (min 3500 (signed16 0x03#8 0xE8#8)) ≠ s.setup.reliefCeiling ∧ handedTarget s ≠ none ∧
        s.sampling.beer.filtered ≠ none ∧ handedTarget { s with seq := {} } = none ∧
        max 800 (min 1100 (signed16 0x03#8 0x20#8)) ≠ s.setup.atmosphere ∧ 50 ≤ s.gas.setpoint ∧
        s.gas.setpoint ≤ s.setup.reliefCeiling - 200) ∧
      (setupBay.sampling.levelsTaken = true ∧ (15#8).toNat < 16 ∧
        { setupBay.setup with watchSet := (14#8).setWidth 4 } ≠ setupBay.setup ∧
        { setupBay.setup with watchReference := (15#8).setWidth 4 } ≠ setupBay.setup) := by
  unfold Addressed Accepts; decide

/-- R128: a relief ceiling of 1300 with no target to compute from brings a gas setpoint of 1200 down to 1100, HIGH. -/
theorem test_ceiling_brings_the_setpoint_down :
    let t := after (.setupItem toMe 0#8 [12#8, 0x05#8, 0x14#8]) { setupBay with seq := {} }
    t.setup.reliefCeiling = 1300 ∧ t.gas.setpoint = 1100 ∧ t.gas.limitedHigh = true := by
  decide

theorem witness_Start :
    (Addressed toMe setupBay ∧ setupBay.sup.station = .setup ∧ setupBay.setup.serveFloor < setupBay.setup.reliefCeiling - 200 ∧
      setupBay.sampling.ext.active = false) ∧
      (Addressed toMe runBay ∧ runBay.sup.station ≠ .setup) ∧
      (let x : SetupItems := { serveFloor := 1000, reliefCeiling := 1200 }
       x.reliefCeiling - 200 ≤ x.serveFloor ∧ ({ x with serveFloor := 999 } : SetupItems).serveFloor < x.reliefCeiling - 200) ∧
      ({ setupBay with drivers := { inlet := .forcedOn } } : State).drivers.inlet = .forcedOn ∧ setupBay.gas.state ≠ .topping := by
  unfold Addressed Accepts; decide

theorem witness_ForceOutput :
    (Addressed toMe runBay ∧ runBay.sup.station ≠ .setup) ∧
      (Addressed toMe setupBay ∧ setupBay.sup.station = .setup ∧ setupBay.drivers.inlet ≠ .forcedOn ∧
        setupBay.ident.heaterFitted = true ∧ safetyVent setupBay = false) ∧
      (let bay (st : DrawState) : State :=
         { setupBay with drivers := { inlet := .forcedOn, vent := .forcedOff }, draw := { state := st, need := true } }
       ∀ st ∈ [DrawState.claiming, .drawing, .waiting, .backoff, .recover, .locked],
         Addressed toMe (bay st) ∧ (bay st).sup.station = .setup ∧ (bay st).drivers.inlet = .forcedOn ∧
          (bay st).draw.need = true ∧ safetyVent (bay st) = false) ∧
      5 ≤ (5#8).toNat ∧ ((4#8).toNat < 5 ∧ 2 ≤ (2#8).toNat) ∧
      (Addressed toMe { State.reset with link := runBay.link } ∧ State.reset.ident.heaterFitted = false ∧
        safetyVent State.reset = true) := by
  unfold Addressed Accepts; decide

theorem witness_BankCommands :
    (Addressed toMe runBay ∧ (stepOctets none).length = 12 ∧ 11 < (12#8).toNat ∧ (11#8).toNat ≤ 11 ∧
      runBay.seq.pendingSwitch = none ∧ (0x3F#8 :: List.replicate 11 0xFF#8).length = 12 ∧
      (0x3F#8 :: List.replicate 11 0xFF#8).head?.map (fun o => o.toNat / 64) = some 0) ∧
      ({ pendingSwitch := some ⟨.stepEnd, 0⟩ } : Sequencer).pendingSwitch.isSome = true ∧
      (rawStep [0x80#8, 0#8, 0#8, 0#8, 0#8, 0#8, 0#8, 0#8, 0#8, 0#8, 0#8, 0x20#8]).map
        (fun x => decide ((x.undefinedField = true ∨ (x.kind = 2 ∧ x.rate = 0) ∨ (x.ending = 1 ∧ x.mode ≠ 1)) ∧ x.kind ≠ 0)) =
        some true ∧
      ((rawStep (stepOctets (some rampStep))).map
          (fun x => decide (x.undefinedField = false ∧ x.kind = 2 ∧ x.rate = 16 ∧ x.ending ≠ 1 ∧ x.duration ≤ 999)) =
          some true ∧
        (rawStep (stepOctets (some { rampStep with duration := 1000 }))).map
          (fun x => decide (x.undefinedField = false ∧ x.kind = 2 ∧ min 999 x.duration ≠ x.duration)) = some true) ∧
      3 < (4#8).toNat ∧ (2#8 ≠ 0#8 ∧ runBay.seq.slot runBay.seq.staged 0 = none) ∧
      (Addressed toMe (stagedBay soakStep) ∧ (stagedBay soakStep).seq.slot (stagedBay soakStep).seq.staged (0#8).toNat ≠ none ∧
        (stagedBay soakStep).seq.profile = .running) ∧ (1 ≤ (4#8).toNat ∧ (4#8).toNat ≤ 4) ∧ 4 < (5#8).toNat := by
  unfold Addressed Accepts; decide

theorem witness_ReadingsChangeNothing :
    Addressed toMe runBay ∧ ((1#8).toNat < 2 ∧ (11#8).toNat ≤ 11) ∧ 2 ≤ (2#8).toNat ∧ 11 < (12#8).toNat ∧
      [recordOf 1][(0x80#8).toNat % 128]? = some (recordOf 1) ∧ runBay.disp.log.length ≤ (0#8).toNat % 128 := by
  unfold Addressed Accepts; decide

theorem witness_StepStarts :
    (Addressed toMe (stagedBay rampStep) ∧ 0 < rampStep.duration ∧ (0#8).toNat ≤ 11 ∧
      (stagedBay rampStep).seq.slot (stagedBay rampStep).seq.staged (0#8).toNat = some rampStep ∧
      rampStep.target ≠ (stagedBay rampStep).temp.accumulator / 65536) ∧
      (let s := { runBay with seq := { runBay.seq with bankA := some soakStep :: bankOfOne rampStep } }
       Addressed toMe s ∧ s.seq.profile = .running ∧ s.seq.pendingSwitch = none ∧ nextSlot s.seq = some rampStep) ∧
      (let s := stagedBay rampStep
       let q := { s.seq with pendingSwitch := some ⟨.stepEnd, 0⟩ }
       Addressed toMe { s with seq := q } ∧ q.profile = .running ∧ q.slot q.staged 0 = some rampStep) ∧
      ({ rampStep with syncOut := some 4 } : StepRecord).syncOut = some 4 ∧ rampStep.syncOut = none ∧
      (let s := { stagedBay soakStep with seq := { bankB := bankOfOne soakStep } }
       Addressed toMe s ∧ s.seq.profile = .idle ∧ s.seq.slot s.seq.staged (0#8).toNat = some soakStep ∧
        0 < soakStep.duration) ∧
      (({ soakStep with gas := .openKeg } : StepRecord).gas.target = none ∧ ({} : Probe).filtered = none) ∧
      ∃ rate, rampStep.kind = .ramp rate := by
  refine ⟨by unfold Addressed Accepts; decide, by unfold Addressed Accepts; decide, by unfold Addressed Accepts; decide,
    by decide, by decide, by unfold Addressed Accepts; decide, by decide, 16, rfl⟩

theorem witness_ProfileCommands :
    (Addressed toMe runBay ∧ runBay.seq.profile = .running ∧ runBay.seq.pendingSwitch = none ∧ nextSlot runBay.seq = none) ∧
      (let s := stepBay soakStep .paused .soaking
       Addressed toMe s ∧ s.seq.profile = .paused ∧ s.seq.phase ≠ some .waiting ∧ s.seq.profile ≠ .running) ∧
      (let s := stepBay soakStep .ended .soaking
       Addressed toMe s ∧ s.seq.profile = .ended ∧ s.seq.profile ≠ .paused ∧ s.seq.profile ≠ .idle) ∧
      (Addressed toMe { runBay with seq := {} } ∧ ({} : Sequencer).profile = .idle) ∧
      (let s := stepBay soakStep .paused .waiting
       Addressed toMe s ∧ s.seq.profile = .paused ∧ s.seq.phase = some .waiting ∧ s.seq.current = some soakStep) ∧
      (stepBay syncStep .paused .waiting).seq.current = some syncStep := by
  unfold Addressed Accepts; decide

theorem witness_KegCommands :
    (Addressed toMe runBay ∧ runBay.disp.state = .idle) ∧ (Addressed toMe tailingBay ∧ tailingBay.disp.state ≠ .idle) ∧
      (0x4E#8).toNat * 256 + (0x20#8).toNat = 20000 ∧ (0#8).toNat * 256 + (0#8).toNat = 0 ∧
      (0#8).toNat * 256 + (30#8).toNat ≠ 0 := by
  unfold Addressed Accepts; decide

theorem witness_SupplyQuietWakeAndLeaveSafe :
    (Addressed toMe runBay ∧ runBay.sup.station = .run ∧ (atDispatch runBay).sup.quiet = false) ∧
      (Addressed toMe setupBay ∧ setupBay.sup.station ≠ .run) ∧
      (Addressed toMe safeBay ∧ safeBay.sup.station = .safe ∧ safeBay.sampling.ext.active = false) ∧
      ({ safeBay with sampling := { runBay.sampling with ext := { active := true } } } : State).sampling.ext.active = true ∧
      (safeBay.gas.state = .rest ∧ goodPressure safeBay.sampling.transducer = some 1200 ∧
        1200 ≤ safeBay.gas.ceiling ∧ handedMode safeBay = some .serve ∧
        handedMode { safeBay with seq := { safeBay.seq with bankA := bankOfOne { soakStep with gas := .openKeg } } } =
          some .openKeg) ∧
      ((1159 : Int) + 40 < 1200 ∧ (1200 : Int) ≤ 1160 + 40 ∧ (1200 : Int) < 1241 - 40 ∧ (1240 : Int) - 40 ≤ 1200) ∧
      ((Activity.alarm, 5) ∈ [(Activity.handle, 0), (.peerPour, 1), (.command, 2), (.groupSync, 3), (.lid, 4), (.alarm, 5)] ∧
        runBay.sup.quiet = false ∧ runBay.setup.activitySet.getLsbD 5 = true ∧
        ({ activitySet := 31#6 } : SetupItems).activitySet.getLsbD 5 = false ∧
        ({ station := .run, quiet := true } : Supervisor).quiet = true ∧ runBay.setup.wakeSet.getLsbD 5 = true ∧
        runBay.setup.wakeSet.getLsbD 4 = false) := by
  unfold Addressed Accepts; decide

theorem witness_ClearAlarms :
    Addressed toMe runBay ∧ 8 ≤ (8#8).toNat ∧ (7#8).toNat < 8 ∧ (0#8 ++ 0x10#8).getLsbD Alarm.leak.code = true ∧
      (0#8 ++ 0xEF#8).getLsbD Alarm.leak.code = false ∧
      hasAlarm ({ latched := 0x10#11 } : Supervisor).latched .leak = true ∧ hasAlarm runBay.sup.active .leak = false ∧
      hasAlarm ({ active := 0x10#11 } : Supervisor).active .leak = true := by
  unfold Addressed Accepts; decide

/-! ### One step at a time -/

/-- The worked pour of chapter 10: pulse 132 at 2500 µL meets the portion of 330 mL; pulse 131 does not. -/
theorem test_flow_pulse_meets_the_portion :
    let bay (n : Nat) : State :=
      { pouringBay with setup := { flowFactor := 2500 }
                        disp := { pouringBay.disp with pulses := n, pour := some { thePour with portion := some 330 } } }
    (match exec .flowPulse (bay 131), exec .flowPulse (bay 130) with
      | .next t, .next u =>
        decide (t.disp.state = .tailing ∧ t.disp.pour = some { thePour with portion := some 330, reason := some .portion } ∧
          u.disp.state = .flowing ∧ u.disp.pulses = 131)
      | _, _ => false) = true := by
  decide

/-- The keg that runs dry of chapter 10: 420 - 90 is at most 350, so EMPTY; with 600 in the keg STALL. -/
theorem test_stall_end :
    let bay (level : Nat) : State :=
      { pouringBay with setup := { flowFactor := 2500 }
                        disp := { pouringBay.disp with pulses := 36, level := level } }
    (match exec .stallTimerEnd (bay 420), exec .stallTimerEnd (bay 600) with
      | .next t, .next u =>
        decide (t.disp.pour = some { thePour with reason := some .empty } ∧
          u.disp.pour = some { thePour with reason := some .stall })
      | _, _ => false) = true := by
  decide

/-- The first worked window of chapter 6: beer 112, setpoint 32, demand 100, clamped HIGH, integral 640. -/
theorem test_minute_forms_the_window :
    let s := { stepBay { soakStep with target := 32 } .running .soaking with
      time := dueBay.time
      temp := { accumulator := 32 * 65536, windowFormed := true }
      sampling := { runBay.sampling with beer := { state := .good, filtered := some 112 } } }
    (match exec (.event1min false) s with
      | .next t => decide (t.temp.lastDemand = 100 ∧ t.temp.clampSide = .high ∧ t.temp.integral = 640 ∧
          t.cool.demandUnits = 100 ∧ t.cool.openTime = 60)
      | _ => false) = true := by
  decide

/-- R40, R198: a frame that names station 1 as its source, met by station 1 as octets, puts it in SILENT. -/
theorem test_twin_octets :
    (match exec (.frameDiscarded (.octets (frameOctets runBay (.groupSync 3)))) runBay with
      | .next t => decide (t.link.silent = true ∧ t.draw.state = .locked)
      | _ => false) = true := by
  decide +kernel

/-- R193: LEAVE_SAFE with EXT_STOP active is refused, and the station stays in SAFE. -/
theorem test_leave_safe_refused :
    (match exec (.leaveSafe toMe 7#8 []) { safeBay with sampling := { runBay.sampling with ext := { active := true } } } with
      | .next t => decide (t.sup.station = .safe ∧
          t.link.queue.map (·.frame) = [.result 5 0x53#8 7#8 .refusedState []])
      | _ => false) = true := by
  decide

/-- R184: QUIET after the idle period's minutes, here the last of 60. -/
theorem test_idle_expiry :
    (match exec .idleTimerExpiry { runBay with sup := { station := .run, idleCount := 60 } },
        exec .idleTimerExpiry { runBay with sup := { station := .run, idleCount := 59 } } with
      | .next t, .next u => decide (t.sup.quiet = true ∧ u.sup.quiet = false)
      | _, _ => false) = true := by
  decide

end Sys2Proof.Tests
end

section
/-! ## Outputs, samples and the held part: O4, O21, O22, O23, O24 -/

namespace Sys2Proof.Machine

/-! ### The filter (R8) -/

/-- Truncating division of a number that is not negative stays between 0 and that number. -/
theorem tdiv_pow_bounds (d : Int) (k : Nat) (h : 0 ≤ d) : 0 ≤ d.tdiv (2 ^ k : Nat) ∧ d.tdiv (2 ^ k : Nat) ≤ d := by
  rw [Int.tdiv_eq_ediv_of_nonneg h]
  exact ⟨Int.ediv_nonneg h (by positivity), Int.ediv_le_self _ h⟩

/-- A fall of the sample is the mirror image of a rise. -/
theorem filterStep_neg (f t : Int) (k : Nat) : filterStep (-f) (-t) k = -filterStep f t k := by
  have : -t - -f = -(t - f) := by ring
  rw [filterStep, this, Int.neg_tdiv, filterStep]
  ring

/-- Upward the filter moves toward the sample without passing it (R8). -/
theorem filterStep_between {f t : Int} (k : Nat) (h : f ≤ t) : f ≤ filterStep f t k ∧ filterStep f t k ≤ t := by
  have ⟨low, high⟩ := tdiv_pow_bounds (t - f) k (by omega)
  unfold filterStep
  omega

/-- The filter stands still exactly where the sample is nearer than 2^k (R8). -/
theorem filterStep_eq_self (f t : Int) (k : Nat) : filterStep f t k = f ↔ (t - f).natAbs < 2 ^ k := by
  have quotient : ((t - f).tdiv (2 ^ k : Nat)).natAbs = (t - f).natAbs / 2 ^ k := by
    rw [Int.natAbs_tdiv, Int.natAbs_natCast]
    rfl
  have still : filterStep f t k = f ↔ ((t - f).tdiv (2 ^ k : Nat)).natAbs = 0 := by
    unfold filterStep
    omega
  rw [still, quotient, Nat.div_eq_zero_iff]
  simp

/-- Settles O23: a rise stays below the sample, a fall is its mirror image, and the quotient is 0 exactly below 2^k. -/
theorem filterApproachesTheSample : Obligations.FilterApproachesTheSample := by
  intro f t k
  refine ⟨filterStep_between k, fun h => ?_, filterStep_eq_self f t k, by simp [filterStep]⟩
  have mirrored := filterStep_between k (f := -f) (t := -t) (by omega)
  rw [filterStep_neg] at mirrored
  omega

/-! ### The debounce (R13) -/

/-- The readings of an input, one after another. -/
def Switch.readAll (needed : Nat) (rs : List Bool) (w : Switch) : Switch := rs.foldl (fun w r => w.read needed r) w

@[simp] theorem Switch.readAll_nil (needed : Nat) (w : Switch) : w.readAll needed [] = w := rfl

@[simp] theorem Switch.readAll_cons (needed : Nat) (r : Bool) (rs : List Bool) (w : Switch) :
    w.readAll needed (r :: rs) = (w.read needed r).readAll needed rs := rfl

/-- Readings that all differ from the level turn it over once they complete the count. -/
theorem Switch.readAll_differing (needed : Nat) (rs : List Bool) (w : Switch) (some : rs ≠ [])
    (complete : w.change + rs.length = needed) (differ : ∀ r ∈ rs, r ≠ w.active) :
    w.readAll needed rs = { active := !w.active, change := 0, undelivered := true } := by
  induction rs generalizing w with
  | nil => exact absurd rfl some
  | cons r rs ih =>
    have hr : r ≠ w.active := differ r (by simp)
    simp only [List.length_cons] at complete
    obtain ⟨same, -⟩ | ⟨-, short, read⟩ | ⟨-, enough, read⟩ := w.read_cases needed r
    · exact absurd same hr
    · rw [readAll_cons, read]
      refine ih _ ?_ (by simp; omega) fun x hx => differ x (by simp [hx])
      rintro rfl
      simp at complete
      omega
    · obtain rfl : rs = [] := List.eq_nil_of_length_eq_zero (by omega)
      rw [readAll_cons, read, readAll_nil]

/-- Readings too few to complete the count leave the level, with nothing to deliver. -/
theorem Switch.readAll_short (needed : Nat) (rs : List Bool) (w : Switch) (fresh : w.undelivered = false)
    (short : w.change + rs.length < needed) :
    (w.readAll needed rs).active = w.active ∧ (w.readAll needed rs).undelivered = false := by
  induction rs generalizing w with
  | nil => exact ⟨rfl, fresh⟩
  | cons r rs ih =>
    simp only [List.length_cons] at short
    obtain ⟨-, read⟩ | ⟨-, -, read⟩ | ⟨-, enough, -⟩ := w.read_cases needed r
    · rw [readAll_cons, read]
      exact ih _ fresh (by simp; omega)
    · rw [readAll_cons, read]
      exact ih _ fresh (by simp; omega)
    · omega

/-- One reading equal to the level, among readings that just complete the count, leaves the level. -/
theorem Switch.readAll_interrupted (needed : Nat) (rs : List Bool) (w : Switch) (fresh : w.undelivered = false)
    (complete : w.change + rs.length = needed) (equal : ∃ r ∈ rs, r = w.active) :
    (w.readAll needed rs).active = w.active ∧ (w.readAll needed rs).undelivered = false := by
  induction rs generalizing w with
  | nil => simp at equal
  | cons r rs ih =>
    simp only [List.length_cons] at complete
    obtain ⟨-, read⟩ | ⟨differs, -, read⟩ | ⟨differs, enough, -⟩ := w.read_cases needed r
    · rw [readAll_cons, read]
      exact readAll_short needed rs _ fresh (by simp; omega)
    · rw [readAll_cons, read]
      exact ih _ fresh (by simp; omega) (by simpa [differs] using equal)
    · obtain rfl : rs = [] := List.eq_nil_of_length_eq_zero (by omega)
      simp [differs] at equal

/-- Settles O24, by induction on the readings: each that differs counts, and one that does not clears the count, after which
too few are left. -/
theorem debounceNeedsEveryReading : Obligations.DebounceNeedsEveryReading := by
  intro w needed rs positive count fresh length
  refine ⟨fun differ => ?_, fun equal => ?_⟩
  · refine w.readAll_differing needed rs ?_ (by omega) differ
    rintro rfl
    simp at length
    omega
  · exact w.readAll_interrupted needed rs fresh (by omega) equal

/-! ### A probe and the transducer (R6, R7, R10 to R12) -/

theorem probeValid_iff (t : Int) : probeValid t = true ↔ -160 ≤ t ∧ t ≤ 960 := by simp [probeValid]

theorem pressureValid_iff (p fullScale : Int) : pressureValid p fullScale = true ↔ -300 ≤ p ∧ p ≤ fullScale + 100 := by
  simp [pressureValid]

/-- A valid sample begins or ends the run of valid ones (R7). -/
theorem Probe.sample_valid {t : Int} (k : Nat) (p : Probe) (valid : probeValid t = true) :
    p.sample t k =
      match p.state with
      | .unseen => { state := .good, rejectRun := 0, validRun := min 10 (p.validRun + 1), filtered := some t }
      | .good => { state := .good, rejectRun := 0, validRun := min 10 (p.validRun + 1),
                   filtered := some (filterStep (p.filtered.getD t) t k) }
      | .fault =>
        if 10 ≤ p.validRun + 1 then
          { state := .good, rejectRun := 0, validRun := min 10 (p.validRun + 1), filtered := some t }
        else { p with rejectRun := 0, validRun := min 10 (p.validRun + 1) } := by
  obtain ⟨state, rejectRun, validRun, filtered⟩ := p
  have run : min 10 (validRun + 1) = 10 ↔ 10 ≤ validRun + 1 := by omega
  cases state <;> simp [Probe.sample, valid, run]

/-- A sample that is not valid counts toward the fault and leaves the filtered value (R7). -/
theorem Probe.sample_invalid {t : Int} (k : Nat) (p : Probe) (invalid : probeValid t = false) :
    p.sample t k =
      { p with rejectRun := min 5 (p.rejectRun + 1), validRun := 0,
               state := if 5 ≤ p.rejectRun + 1 then .fault else p.state } := by
  have run : min 5 (p.rejectRun + 1) = 5 ↔ 5 ≤ p.rejectRun + 1 := by omega
  unfold Probe.sample
  rw [if_neg (by simp [invalid])]
  by_cases full : 5 ≤ p.rejectRun + 1 <;> simp [run, full]

/-- A valid pressure joins the history (R11, R12). -/
theorem Transducer.sample_valid {p fullScale : Int} (x : Transducer) (valid : pressureValid p fullScale = true) :
    x.sample p fullScale =
      { rejectRun := 0, validRun := min 10 (x.validRun + 1), history := (p :: x.history).take 4,
        state := if x.state = .fault ∧ ¬10 ≤ x.validRun + 1 then .fault else .good } := by
  obtain ⟨state, rejectRun, validRun, history⟩ := x
  have run : min 10 (validRun + 1) = 10 ↔ 10 ≤ validRun + 1 := by omega
  by_cases full : 10 ≤ validRun + 1 <;> cases state <;> simp [Transducer.sample, valid, run, full]

/-- A pressure that is not valid counts toward the fault and leaves the history (R11, R12). -/
theorem Transducer.sample_invalid {p fullScale : Int} (x : Transducer) (invalid : pressureValid p fullScale = false) :
    x.sample p fullScale =
      { x with rejectRun := min 3 (x.rejectRun + 1), validRun := 0,
               state := if 3 ≤ x.rejectRun + 1 then .fault else x.state } := by
  have run : min 3 (x.rejectRun + 1) = 3 ↔ 3 ≤ x.rejectRun + 1 := by omega
  unfold Transducer.sample
  rw [if_neg (by simp [invalid])]
  by_cases full : 3 ≤ x.rejectRun + 1 <;> simp [run, full]

/-- The held pressure of a history that is not empty (R12). -/
theorem heldPressure_of_history {x : Transducer} (h : x.history ≠ []) :
    heldPressure x = some (x.history.sum.tdiv x.history.length) := by
  obtain ⟨state, rejectRun, validRun, _ | ⟨p, ps⟩⟩ := x
  · exact absurd rfl h
  · simp [heldPressure]

/-- The held pressure is a matter of the history alone (R12). -/
theorem heldPressure_congr {x y : Transducer} (h : x.history = y.history) : heldPressure x = heldPressure y := by
  simp [heldPressure, h]

/-- Settles O22: a valid and an invalid sample of a probe by its state, and of the transducer. -/
theorem sensorTables : Obligations.SensorTables := by
  refine ⟨fun t k p => ⟨fun low high => ?_, fun out => ?_⟩, fun p fs x => ⟨fun low high => ?_, fun out => ?_⟩⟩
  · rw [p.sample_valid k ((probeValid_iff t).2 ⟨low, high⟩)]
    cases p.state
    case fault => by_cases run : 10 ≤ p.validRun + 1 <;> simp [run]
    all_goals simp_all [filterStep]
  · rw [p.sample_invalid k (by simpa [probeValid] using fun _ => by omega)]
    refine ⟨rfl, rfl, rfl, fun short => if_neg (by omega), fun enough => if_pos enough⟩
  · have sample := x.sample_valid ((pressureValid_iff p fs).2 ⟨low, high⟩)
    have held := heldPressure_of_history (x := x.sample p fs) (by simp [sample])
    rw [sample] at held ⊢
    refine ⟨rfl, rfl, rfl, held, fun h => if_neg (by simp [h]), fun h => ?_⟩
    by_cases run : 10 ≤ x.validRun + 1 <;> simp [h, run]
  · have sample := x.sample_invalid (by simpa [pressureValid] using fun _ => by omega : pressureValid p fs = false)
    refine ⟨by rw [sample], by rw [sample], by rw [sample], heldPressure_congr (by rw [sample]), by rw [sample]⟩

/-! ### Output pins (R18 to R22) -/

/-- An output is on where it is forced on, or in FUNCTION with its block's request (R18). -/
theorem Drive.apply_eq_true (d : Drive) (request : Bool) :
    d.apply request = true ↔ d = .forcedOn ∨ (d = .function ∧ request = true) := by
  cases d <;> simp [Drive.apply]

/-- Settles O21: each pin's conditions as its definition lists them, with R18 for the drive state. -/
theorem outputInterlocks : Obligations.OutputInterlocks := by
  intro s
  refine ⟨fun vent => ?_, fun glycol => ?_, fun up safety => ?_, fun safe => ?_, fun hold => ?_, ?_⟩
  · simp [inletPin, vent]
  · simp [heaterPin, glycol]
  · simp [ventPin, up, safety]
  · simp [inletPin, tapPin, glycolPin, heaterPin, safe]
  · obtain none | bad | hot := hold <;> simp_all [heaterPin]
  · intro on up
    refine ⟨?_, fun running => ⟨?_, ?_, ?_, ?_⟩⟩
    · simp [on, ventPin, up, safetyVent, Drive.apply_eq_true]
    · simp [on, inletPin, up, running, Drive.apply_eq_true, and_assoc]
    · simp [on, tapPin, up, running, Drive.apply_eq_true]
    · simp [on, glycolPin, up, running, Drive.apply_eq_true, Option.isSome_iff_ne_none]
    · simp [on, heaterPin, up, running, Drive.apply_eq_true, Option.isSome_iff_ne_none, and_assoc]

/-! ### The held part (R3) -/

/-- A part held in reset takes nothing (R3). -/
theorem perform_held (f : State → State) {s : State} (held : s.held = true) : perform f s = .next s := by
  simp [perform, held]

/-- A running part takes the effect, and then the leak check follows its conditions (R142). -/
theorem perform_running (f : State → State) {s : State} (up : s.held = false) :
    perform f s = .next (updateLeak (f s)) := by
  simp [perform, up]

/-- Settles O4: every command but POWER_ON and RSTN_HELD_LOW is a `perform`, which a held part does not take. -/
theorem rstnHoldsThePart : Obligations.RstnHoldsThePart := by
  refine ⟨fun s => rfl, fun s held => ?_, fun c s held notPower notHeld => ?_⟩
  · simp [inletPin, ventPin, tapPin, glycolPin, heaterPin, held]
  · cases c with
    | powerOn p => exact absurd rfl (notPower p)
    | rstnHeldLow => exact absurd rfl notHeld
    | _ =>
      dsimp only [exec]
      exact perform_held _ held

end Sys2Proof.Machine
end

section
/-! ## Alarm sets, and what the supervisor's operations do to them (R183, R188, R189) -/

namespace Sys2Proof.Machine

/-! ### Alarm sets (R199) -/

theorem Alarm.code_lt (a : Alarm) : a.code < 11 := by cases a <;> decide

theorem Alarm.code_inj {a b : Alarm} : a.code = b.code ↔ a = b := by
  have : ∀ a ∈ alarms, ∀ b ∈ alarms, a.code = b.code → a = b := by decide
  exact ⟨this a (by cases a <;> decide) b (by cases b <;> decide), congrArg _⟩

@[simp] theorem hasAlarm_withAlarm (x : AlarmSet) (a b : Alarm) :
    hasAlarm (withAlarm x a) b = (hasAlarm x b || decide (b = a)) := by
  have := b.code_lt
  simp [hasAlarm, withAlarm, this, Alarm.code_inj, eq_comm]

@[simp] theorem hasAlarm_withoutAlarm (x : AlarmSet) (a b : Alarm) :
    hasAlarm (withoutAlarm x a) b = (hasAlarm x b && decide (b ≠ a)) := by
  have := b.code_lt
  simp [hasAlarm, withoutAlarm, this, Alarm.code_inj, eq_comm]

@[simp] theorem hasAlarm_and (x y : AlarmSet) (a : Alarm) : hasAlarm (x &&& y) a = (hasAlarm x a && hasAlarm y a) := by
  simp [hasAlarm]

@[simp] theorem hasAlarm_not (x : AlarmSet) (a : Alarm) : hasAlarm (~~~x) a = !hasAlarm x a := by
  simp [hasAlarm, a.code_lt]

/-- Alarm sets with the same alarms are the same (R199). -/
theorem alarmSet_ext {x y : AlarmSet} (h : ∀ a, hasAlarm x a = hasAlarm y a) : x = y := by
  have coded : ∀ i < 11, ∃ a ∈ alarms, Alarm.code a = i := by decide
  refine BitVec.eq_of_getLsbD_eq fun i hi => ?_
  obtain ⟨a, -, rfl⟩ := coded i hi
  exact h a

theorem withAlarm_of_has {x : AlarmSet} {a : Alarm} (h : hasAlarm x a = true) : withAlarm x a = x :=
  alarmSet_ext fun b => by by_cases e : b = a <;> simp_all

theorem withoutAlarm_of_not_has {x : AlarmSet} {a : Alarm} (h : hasAlarm x a = false) : withoutAlarm x a = x :=
  alarmSet_ext fun b => by by_cases e : b = a <;> simp_all

/-! ### Activity events (R183) -/

/-- What an activity event does to the supervisor: in RUN it may wake, or start the idle timer anew (R183). -/
theorem activityEvent_sup (e : Activity) (s : State) :
    (activityEvent e s).sup =
      if s.sup.station = .run then
        if s.sup.quiet then
          if s.setup.wakeSet.getLsbD e.code then { s.sup with quiet := false, idleCount := 0 } else s.sup
        else if s.setup.activitySet.getLsbD e.code then { s.sup with idleCount := 0 } else s.sup
      else s.sup := by
  unfold activityEvent leaveQuiet
  by_cases run : s.sup.station = .run <;> simp only [run, ne_eq, not_true_eq_false, not_false_eq_true, if_true, if_false]
  (repeat' split) <;> simp [*]

/-- Outside RUN an activity event does nothing (R183). -/
theorem activityEvent_outside_run (e : Activity) {s : State} (h : s.sup.station ≠ .run) : activityEvent e s = s := by
  simp [activityEvent, h]

@[simp] theorem activityEvent_alarms (e : Activity) (s : State) :
    (activityEvent e s).sup.active = s.sup.active ∧ (activityEvent e s).sup.latched = s.sup.latched ∧
      (activityEvent e s).sup.leaveSafeRefused = s.sup.leaveSafeRefused := by
  rw [activityEvent_sup]
  (repeat' split) <;> simp

/-! ### Raisings and cause ends (R188, R189) -/

/-- After a raising the alarm is active (R188). -/
@[simp] theorem raiseAlarm_active (a : Alarm) (s : State) (l : BitVec 4) :
    (raiseAlarm a s l).sup.active = withAlarm s.sup.active a := by
  unfold raiseAlarm
  split
  · next h => exact (withAlarm_of_has h).symm
  · dsimp only
    split <;> simp

/-- A raising latches an alarm that was not active (R188). -/
@[simp] theorem raiseAlarm_latched (a b : Alarm) (s : State) (l : BitVec 4) :
    hasAlarm (raiseAlarm a s l).sup.latched b =
      (hasAlarm s.sup.latched b || (decide (b = a) && !hasAlarm s.sup.active a)) := by
  unfold raiseAlarm
  split
  · next h => simp [h]
  · next h =>
    dsimp only
    split <;> simp [h]

@[simp] theorem raiseAlarm_leaveSafeRefused (a : Alarm) (s : State) (l : BitVec 4) :
    (raiseAlarm a s l).sup.leaveSafeRefused = s.sup.leaveSafeRefused := by
  unfold raiseAlarm
  dsimp only
  (repeat' split) <;> simp

/-- An alarm that is active is not raised again (R188). -/
theorem raiseAlarm_of_active {a : Alarm} {s : State} (l : BitVec 4) (h : hasAlarm s.sup.active a = true) :
    raiseAlarm a s l = s := by
  simp [raiseAlarm, h]

/-- The end of a cause takes the alarm out of the active ones and changes nothing else of the supervisor (R189). -/
@[simp] theorem endAlarm_sup (a : Alarm) (s : State) :
    (endAlarm a s).sup = { s.sup with active := withoutAlarm s.sup.active a } := by
  unfold endAlarm
  split
  · simp
  · next h => simp [withoutAlarm_of_not_has (Bool.eq_false_iff.2 h)]

/-! ### The watch (R16) -/

/-- The watch moves no alarm but its own (R16). -/
@[simp] theorem evaluateWatch_otherAlarms {a : Alarm} (h : a ≠ .watch) (s : State) :
    hasAlarm (evaluateWatch s).sup.active a = hasAlarm s.sup.active a ∧
      hasAlarm (evaluateWatch s).sup.latched a = hasAlarm s.sup.latched a := by
  unfold evaluateWatch
  (repeat' split) <;> simp [h]

@[simp] theorem lineChanged_otherAlarms {a : Alarm} (h : a ≠ .watch) (n : Nat) (s : State) :
    hasAlarm (lineChanged n s).sup.active a = hasAlarm s.sup.active a ∧
      hasAlarm (lineChanged n s).sup.latched a = hasAlarm s.sup.latched a := by
  unfold lineChanged
  split <;> simp [h]

/-! ### The regulation state (R136) -/

/-- Entering and leaving a regulation state moves no alarm but OVERPRESSURE (R136, R137). -/
@[simp] theorem evaluateGas_otherAlarms {a : Alarm} (h : a ≠ .overpressure) (s : State) :
    hasAlarm (evaluateGas s).sup.active a = hasAlarm s.sup.active a ∧
      hasAlarm (evaluateGas s).sup.latched a = hasAlarm s.sup.latched a := by
  unfold evaluateGas moveGas enterGas leaveGas
  (repeat' split) <;> simp [h]

@[simp] theorem takeUpMode_otherAlarms {a : Alarm} (h : a ≠ .overpressure) (m : Option GasMode) (s : State) :
    hasAlarm (takeUpMode m s).sup.active a = hasAlarm s.sup.active a ∧
      hasAlarm (takeUpMode m s).sup.latched a = hasAlarm s.sup.latched a := by
  unfold takeUpMode
  split <;> simp [h]

@[simp] theorem settleEnd_otherAlarms {a : Alarm} (h : a ≠ .overpressure) (s : State) :
    hasAlarm (settleEnd s).sup.active a = hasAlarm s.sup.active a ∧
      hasAlarm (settleEnd s).sup.latched a = hasAlarm s.sup.latched a := by
  simp [settleEnd, h]

@[simp] theorem changeProfile_otherAlarms {a : Alarm} (h : a ≠ .overpressure) (p : ProfileState) (s : State) :
    hasAlarm (changeProfile p s).sup.active a = hasAlarm s.sup.active a ∧
      hasAlarm (changeProfile p s).sup.latched a = hasAlarm s.sup.latched a := by
  simp [changeProfile, h]

end Sys2Proof.Machine
end

section
/-! ## The lockout (R160, R161): O13

`LockInv` says that the coordinator is LOCKED exactly while it holds a cause, and that the causes it holds are those whose
conditions stand. An operation either leaves all of that as it is, which one lemma per operation says, or changes a
condition and has the coordinator form the causes afresh (`updateLockouts`), which makes the invariant hold whatever was
there before. -/

namespace Sys2Proof.Machine

/-! ### What the causes are formed from -/

/-- Forming the causes afresh makes the invariant hold (R160, R161). -/
@[simp] theorem lockInv_updateLockouts (s : State) : LockInv (updateLockouts s) := by
  have causes : (updateLockouts s).draw.causes = formCauses s := by
    unfold updateLockouts
    dsimp only
    (repeat' split) <;> simp
  have formed : formCauses (updateLockouts s) = formCauses s := by simp [formCauses, handedMode]
  have locked : (updateLockouts s).draw.state = .locked ↔ (formCauses s).any = true := by
    unfold updateLockouts enterLocked
    dsimp only
    (repeat' split) <;> simp_all [Draw.enter]
  exact fun _ => ⟨by rw [locked, causes], fun _ => by rw [causes, formed]⟩

/-- A part held in reset has not formed its causes yet (R3). -/
theorem lockInv_of_held {s : State} (h : s.held = true) : LockInv s := fun up => by simp [h] at up

/-! ### Operations that no cause hangs on -/

@[simp] theorem lockInv_mapTime (f : TimeBase → TimeBase) (s : State) : LockInv (s.mapTime f) ↔ LockInv s := Iff.rfl
@[simp] theorem lockInv_mapDrivers (f : Drivers → Drivers) (s : State) : LockInv (s.mapDrivers f) ↔ LockInv s := Iff.rfl
@[simp] theorem lockInv_mapView (f : PeerView → PeerView) (s : State) : LockInv (s.mapView f) ↔ LockInv s := Iff.rfl
@[simp] theorem lockInv_mapTemp (f : Temperature → Temperature) (s : State) : LockInv (s.mapTemp f) ↔ LockInv s := Iff.rfl
@[simp] theorem lockInv_mapCool (f : Cooling → Cooling) (s : State) : LockInv (s.mapCool f) ↔ LockInv s := Iff.rfl
@[simp] theorem lockInv_mapGas (f : Gas → Gas) (s : State) : LockInv (s.mapGas f) ↔ LockInv s := Iff.rfl
@[simp] theorem lockInv_mapDisp (f : Dispense → Dispense) (s : State) : LockInv (s.mapDisp f) ↔ LockInv s := Iff.rfl
@[simp] theorem lockInv_mapSetup (f : SetupItems → SetupItems) (s : State) : LockInv (s.mapSetup f) ↔ LockInv s := Iff.rfl

/-- What the causes are formed from (R160). -/
theorem formCauses_congr {s t : State} (leak : hasAlarm t.sup.latched .leak = hasAlarm s.sup.latched .leak)
    (sensor : t.sampling.transducer.state = s.sampling.transducer.state)
    (taken : t.sampling.levelsTaken = s.sampling.levelsTaken) (keg : t.sampling.keg = s.sampling.keg)
    (silent : t.link.silent = s.link.silent) (station : t.sup.station = s.sup.station)
    (record : t.seq.current = s.seq.current) : formCauses t = formCauses s := by
  unfold formCauses handedMode
  rw [leak, sensor, taken, keg, silent, station, record]

/-- Only SILENT counts of what the link controller holds. -/
theorem lockInv_mapLink {f : Link → Link} {s : State} (h : (f s.link).silent = s.link.silent) :
    LockInv (s.mapLink f) ↔ LockInv s := by
  have formed : formCauses (s.mapLink f) = formCauses s := formCauses_congr rfl rfl rfl rfl h rfl rfl
  simp [LockInv, formed]

/-- Only the station state and LEAK's latch count of what the supervisor holds. -/
theorem lockInv_mapSup {f : Supervisor → Supervisor} {s : State} (hs : (f s.sup).station = s.sup.station)
    (hl : hasAlarm (f s.sup).latched .leak = hasAlarm s.sup.latched .leak) : LockInv (s.mapSup f) ↔ LockInv s := by
  have formed : formCauses (s.mapSup f) = formCauses s := formCauses_congr hl rfl rfl rfl rfl hs rfl
  simp [LockInv, formed]

/-- Only the record handed counts of what the sequencer holds. -/
theorem lockInv_mapSeq {f : Sequencer → Sequencer} {s : State} (h : (f s.seq).current = s.seq.current) :
    LockInv (s.mapSeq f) ↔ LockInv s := by
  have formed : formCauses (s.mapSeq f) = formCauses s := formCauses_congr rfl rfl rfl rfl rfl rfl h
  simp [LockInv, formed]

/-- Of the samples only KEG_PRESENT, once the levels are taken, and the transducer's state count. -/
theorem lockInv_mapSampling {f : Sampling → Sampling} {s : State}
    (taken : (f s.sampling).levelsTaken = s.sampling.levelsTaken)
    (sensor : (f s.sampling).transducer.state = s.sampling.transducer.state)
    (keg : (f s.sampling).keg = s.sampling.keg) : LockInv (s.mapSampling f) ↔ LockInv s := by
  have formed : formCauses (s.mapSampling f) = formCauses s := formCauses_congr rfl sensor taken keg rfl rfl rfl
  simp [LockInv, formed, keg]

@[simp] theorem lockInv_queueFrame (f : Frame) (s : State) : LockInv (queueFrame f s) ↔ LockInv s := by
  simp [LockInv, formCauses, handedMode]

@[simp] theorem lockInv_queueBayState (s : State) : LockInv (queueBayState s) ↔ LockInv s := by
  simp [LockInv, formCauses, handedMode]

@[simp] theorem lockInv_leaveQuiet (s : State) : LockInv (leaveQuiet s) ↔ LockInv s := by
  simp [leaveQuiet, lockInv_mapSup]

@[simp] theorem lockInv_enterQuiet (s : State) : LockInv (enterQuiet s) ↔ LockInv s := by
  simp [enterQuiet, lockInv_mapSup]

@[simp] theorem lockInv_activityEvent (e : Activity) (s : State) : LockInv (activityEvent e s) ↔ LockInv s := by
  simp [LockInv, formCauses, handedMode]

/-- A raising of any alarm but LEAK. -/
@[simp] theorem lockInv_raiseAlarm {a : Alarm} (h : .leak ≠ a) (s : State) (l : BitVec 4) :
    LockInv (raiseAlarm a s l) ↔ LockInv s := by
  simp [LockInv, formCauses, handedMode, h]

@[simp] theorem lockInv_endAlarm (a : Alarm) (s : State) : LockInv (endAlarm a s) ↔ LockInv s := by
  simp [LockInv, formCauses, handedMode]

@[simp] theorem lockInv_raisePresentExtStop (s : State) : LockInv (raisePresentExtStop s) ↔ LockInv s := by
  unfold raisePresentExtStop
  split <;> simp

@[simp] theorem evaluateWatch_transducer (s : State) :
    (evaluateWatch s).sampling.transducer = s.sampling.transducer := by
  unfold evaluateWatch
  (repeat' split) <;> simp

@[simp] theorem lockInv_evaluateWatch (s : State) : LockInv (evaluateWatch s) ↔ LockInv s := by
  simp [LockInv, formCauses, handedMode]

@[simp] theorem lockInv_lineChanged (n : Nat) (s : State) : LockInv (lineChanged n s) ↔ LockInv s := by
  unfold lineChanged
  split <;> simp

@[simp] theorem lockInv_examine (s : State) : LockInv (examine s) ↔ LockInv s := by
  simp [LockInv, formCauses, handedMode]

@[simp] theorem lockInv_needArrives (s : State) : LockInv (needArrives s) ↔ LockInv s := by
  simp [LockInv, formCauses, handedMode]

@[simp] theorem lockInv_needEnds (s : State) : LockInv (needEnds s) ↔ LockInv s := by
  simp [LockInv, formCauses, handedMode]

@[simp] theorem lockInv_formUrgency (s : State) : LockInv (formUrgency s) ↔ LockInv s := by
  simp [LockInv, formCauses, handedMode]

@[simp] theorem supplyTest_leakLatch (s : State) :
    hasAlarm (supplyTest s).sup.latched .leak = hasAlarm s.sup.latched .leak := by
  unfold supplyTest
  dsimp only
  (repeat' split) <;> simp

@[simp] theorem lockInv_supplyTest (s : State) : LockInv (supplyTest s) ↔ LockInv s := by
  simp [LockInv, formCauses, handedMode]

@[simp] theorem lockInv_claimSent (s : State) : LockInv (claimSent s) ↔ LockInv s := by
  simp [LockInv, formCauses, handedMode]

@[simp] theorem lockInv_claimDropped (s : State) : LockInv (claimDropped s) ↔ LockInv s := by
  simp [LockInv, formCauses, handedMode]

@[simp] theorem lockInv_drawHeard (k : DrawKind) (u : Urgency) (s : State) : LockInv (drawHeard k u s) ↔ LockInv s := by
  simp [LockInv, formCauses, handedMode]

@[simp] theorem lockInv_requestPour (s : State) : LockInv (requestPour s) ↔ LockInv s := by
  unfold requestPour denyPour grantPour
  split <;> simp [pourStateChanged]

@[simp] theorem lockInv_endFlowing (r : EndReason) (s : State) : LockInv (endFlowing r s) ↔ LockInv s := by
  unfold endFlowing
  split <;> simp [pourStateChanged]

@[simp] theorem lockInv_completePour (s : State) : LockInv (completePour s) ↔ LockInv s := by
  unfold completePour takeDeferred
  dsimp only
  (repeat' split) <;> simp [pourStateChanged]

@[simp] theorem lockInv_flowPulse (s : State) : LockInv (flowPulse s) ↔ LockInv s := by
  unfold flowPulse
  dsimp only
  (repeat' split) <;> simp

@[simp] theorem lockInv_stallEnd (s : State) : LockInv (stallEnd s) ↔ LockInv s := by
  unfold stallEnd
  split <;> simp

@[simp] theorem lockInv_lowPressureTest (s : State) : LockInv (lowPressureTest s) ↔ LockInv s := by
  unfold lowPressureTest
  (repeat' split) <;> simp

@[simp] theorem lockInv_computeSetpoint (s : State) : LockInv (computeSetpoint s) ↔ LockInv s := by
  unfold computeSetpoint
  split <;> simp

@[simp] theorem lockInv_refitSetpoint (s : State) : LockInv (refitSetpoint s) ↔ LockInv s := by
  unfold refitSetpoint
  split <;> simp

@[simp] theorem lockInv_evaluateGas (s : State) : LockInv (evaluateGas s) ↔ LockInv s := by
  unfold evaluateGas moveGas enterGas leaveGas dropForcedInlet
  (repeat' split) <;> simp

@[simp] theorem lockInv_settleEnd (s : State) : LockInv (settleEnd s) ↔ LockInv s := by simp [settleEnd]

@[simp] theorem lockInv_takeUpMode (m : Option GasMode) (s : State) : LockInv (takeUpMode m s) ↔ LockInv s := by
  unfold takeUpMode
  split <;> simp

@[simp] theorem lockInv_updateLeak (s : State) : LockInv (updateLeak s) ↔ LockInv s := Iff.rfl

@[simp] theorem lockInv_leakDrift (t : Int) (s : State) : LockInv (leakDrift t s) ↔ LockInv s := by
  unfold leakDrift
  (repeat' split) <;> simp

@[simp] theorem lockInv_formWindow (s : State) : LockInv (formWindow s) ↔ LockInv s := by
  unfold formWindow formShare
  split <;> simp

@[simp] theorem lockInv_withdrawWindow (s : State) : LockInv (withdrawWindow s) ↔ LockInv s := Iff.rfl

@[simp] theorem lockInv_jacketLimitTest (f : Int) (s : State) : LockInv (jacketLimitTest f s) ↔ LockInv s := by
  unfold jacketLimitTest
  (repeat' split) <;> simp

@[simp] theorem lockInv_beerSample (n : Nat) (s : State) : LockInv (beerSample n s) ↔ LockInv s := by
  unfold beerSample
  dsimp only
  (repeat' split) <;> simp [lockInv_mapSampling]

@[simp] theorem lockInv_jacketSample (n : Nat) (s : State) : LockInv (jacketSample n s) ↔ LockInv s := by
  unfold jacketSample
  dsimp only
  (repeat' split) <;> simp [lockInv_mapSampling]

@[simp] theorem lockInv_countReport (s : State) : LockInv (countReport s) ↔ LockInv s := by
  unfold countReport
  split <;> simp [lockInv_mapLink]

@[simp] theorem lockInv_countIdle (s : State) : LockInv (countIdle s) ↔ LockInv s := by
  unfold countIdle
  split <;> simp [lockInv_mapSup]

@[simp] theorem lockInv_endReception (s : State) : LockInv (endReception s) ↔ LockInv s := by
  simp [endReception, lockInv_mapLink]

/-! ### The sequencer: a step start forms the causes afresh, and the handed mode changes in no other way -/

@[simp] theorem lockInv_beginStep (m : Option GasMode) (i : Nat) (r : StepRecord) (s : State) :
    LockInv (beginStep m i r s) := by
  unfold beginStep
  dsimp only
  split <;> simp

theorem lockInv_takeSwitch {n : Nat} {s : State} (inv : LockInv s) : LockInv (takeSwitch n s) := by
  unfold takeSwitch
  split
  · exact inv
  · simp

/-- A change of profile state that neither leaves nor enters IDLE hands the same record (R74). -/
theorem Sequencer.current_of_profile (q : Sequencer) {p : ProfileState} (hq : q.profile ≠ .idle) (hp : p ≠ .idle) :
    ({ q with profile := p } : Sequencer).current = q.current := by
  simp [Sequencer.current, Sequencer.slot, Sequencer.bank, hq, hp]

theorem lockInv_changeProfile {p : ProfileState} {s : State} (hs : s.seq.profile ≠ .idle) (hp : p ≠ .idle) :
    LockInv (changeProfile p s) ↔ LockInv s := by
  simp [changeProfile, lockInv_mapSeq (f := fun q => { q with profile := p }) (s.seq.current_of_profile hs hp)]

theorem lockInv_endStep {s : State} (hs : s.seq.profile ≠ .idle) (inv : LockInv s) : LockInv (endStep s) := by
  unfold endStep
  (repeat' split)
  · exact lockInv_takeSwitch inv
  · simp
  · exact (lockInv_changeProfile hs (by decide)).2 inv

/-- A chain goes on only while the profile is RUNNING (R84, R85). -/
theorem profile_of_waitingEndMet {s : State} (h : waitingEndMet s = true) : s.seq.profile = .running := by
  simp only [waitingEndMet, Bool.and_eq_true, decide_eq_true_eq] at h
  exact h.1.1

theorem lockInv_chain (n : Nat) {s : State} (inv : LockInv s) : LockInv (chain n s) := by
  induction n generalizing s with
  | zero => exact inv
  | succ n ih =>
    unfold chain
    split
    · next met => exact ih (lockInv_endStep (by simp [profile_of_waitingEndMet met]) inv)
    · exact inv

theorem lockInv_endStepChain {s : State} (hs : s.seq.profile ≠ .idle) (inv : LockInv s) : LockInv (endStepChain s) :=
  lockInv_chain _ (lockInv_endStep hs inv)

theorem lockInv_takeSwitchChain {n : Nat} {s : State} (inv : LockInv s) : LockInv (takeSwitchChain n s) :=
  lockInv_chain _ (lockInv_takeSwitch inv)

theorem lockInv_elapseDuration {s : State} (inv : LockInv s) : LockInv (elapseDuration s) := by
  unfold elapseDuration
  split
  · exact lockInv_chain _ ((lockInv_mapSeq rfl).2 inv)
  · exact inv

theorem lockInv_targetReached {s : State} (inv : LockInv s) : LockInv (targetReached s) := by
  unfold targetReached
  split
  · exact lockInv_chain _ ((lockInv_mapSeq rfl).2 inv)
  · exact inv

theorem lockInv_countMinute {s : State} (inv : LockInv s) : LockInv (countMinute s) := by
  unfold countMinute
  split
  · exact (lockInv_mapSeq rfl).2 inv
  · exact inv

theorem lockInv_sequencerMinute {b : Bool} {s : State} (inv : LockInv s) : LockInv (sequencerMinute b s) := by
  unfold sequencerMinute
  split
  exacts [lockInv_targetReached inv, lockInv_countMinute inv]

theorem lockInv_groupSyncAtSequencer {g : Nat} {s : State} (inv : LockInv s) : LockInv (groupSyncAtSequencer g s) := by
  unfold groupSyncAtSequencer
  (repeat' split)
  · exact lockInv_takeSwitchChain inv
  · next h => exact lockInv_endStepChain (by simp [h.1]) inv
  · exact inv
  · next h => exact lockInv_endStepChain (by simp [h.1]) inv
  · exact inv

theorem lockInv_groupSyncAccepted {g : Nat} {s : State} (inv : LockInv s) : LockInv (groupSyncAccepted g s) := by
  simpa [groupSyncAccepted] using lockInv_groupSyncAtSequencer inv

@[simp] theorem lockInv_rampMove (s : State) : LockInv (rampMove s).1 ↔ LockInv s := by
  unfold rampMove
  (repeat' split) <;> simp

end Sys2Proof.Machine
end

section
/-! ### The lockout at the events of the time base, of the lines and of the bus, and at the commands -/

namespace Sys2Proof.Machine

@[simp] theorem lockInv_powerOn (p : Straps) (s : State) : LockInv (powerOn p s) := by simp [powerOn, wakeBlocks]

@[simp] theorem lockInv_holdReset (s : State) : LockInv (holdReset s) := lockInv_of_held rfl

/-- A reading that leaves no change to deliver leaves the level. -/
theorem Switch.read_active {needed : Nat} {reading : Bool} {w : Switch} (h : (w.read needed reading).undelivered = false) :
    (w.read needed reading).active = w.active := by
  obtain ⟨-, read⟩ | ⟨-, -, read⟩ | ⟨-, -, read⟩ := w.read_cases needed reading <;> simp_all

/-- A later reading moves KEG_PRESENT only with a change to deliver, for which the causes wait (R13, R15). -/
theorem lockInv_laterReading {p : SwitchPins} {s : State} (fresh : s.sampling.undelivered = false) (inv : LockInv s) :
    LockInv (laterReading p s) := by
  intro up
  obtain ⟨locked, formed⟩ := inv up
  refine ⟨locked, fun kept => ?_⟩
  have keg : s.sampling.keg.undelivered = false := by
    simp only [Sampling.undelivered, Bool.or_eq_false_iff] at fresh
    tauto
  have level : (laterReading p s).sampling.keg.active = s.sampling.keg.active := Switch.read_active kept
  have causes : formCauses (laterReading p s) = formCauses s := by
    unfold formCauses
    rw [level]
    rfl
  rw [causes]
  exact formed keg

@[simp] theorem lockInv_firstReading (p : SwitchPins) (s : State) : LockInv (firstReading p s) := by simp [firstReading]

@[simp] theorem lockInv_countDurations (s : State) : LockInv (countDurations s) ↔ LockInv s := by
  simp [LockInv, formCauses, handedMode]

theorem lockInv_tenMsEvent {p : SwitchPins} {s : State} (done : eventUnderWay s = false) (inv : LockInv s) :
    LockInv (tenMsEvent p s) := by
  have fresh : s.sampling.undelivered = false := by
    simp only [eventUnderWay, Bool.or_eq_false_iff] at done
    exact done.1.2
  unfold tenMsEvent
  dsimp only
  rw [lockInv_countDurations]
  split
  · exact lockInv_laterReading fresh inv
  · simp

@[simp] theorem lockInv_coordinatorHandOver (w : Bool) (s : State) : LockInv (coordinatorHandOver w s) := by
  unfold coordinatorHandOver
  split <;> simp

@[simp] theorem lockInv_hundredMsEvent (n : Nat) (b : Bool) (s : State) : LockInv (hundredMsEvent n b s) := by
  unfold hundredMsEvent
  cases b <;> simp

@[simp] theorem lockInv_oneSecondEvent (m n : Nat) (s : State) : LockInv (oneSecondEvent m n s) ↔ LockInv s := by
  simp [oneSecondEvent]

theorem lockInv_oneMinuteEvent {b : Bool} {s : State} (inv : LockInv s) : LockInv (oneMinuteEvent b s) := by
  unfold oneMinuteEvent
  cases b
  · simpa using lockInv_sequencerMinute (by simpa using inv)
  · simpa using lockInv_elapseDuration (lockInv_sequencerMinute (by simpa using inv))

theorem lockInv_leakHour {s : State} (inv : LockInv s) : LockInv (leakHour s) := by
  unfold leakHour
  dsimp only
  (repeat' split) <;> simp [inv]

theorem lockInv_oneHourEvent {s : State} (inv : LockInv s) : LockInv (oneHourEvent s) := by
  have bucket : LockInv (completeBucket (leakHour (s.mapTime fun t => { t with due1h := false }))) := lockInv_leakHour inv
  unfold oneHourEvent bucketCompleted
  dsimp only
  split
  exacts [bucket, lockInv_chain _ bucket]

theorem lockInv_pressHandle {s : State} (inv : LockInv s) : LockInv (pressHandle s) := by
  unfold pressHandle
  dsimp only
  (repeat' split) <;> simpa [lockInv_mapSampling] using inv

theorem lockInv_releaseHandle {s : State} (inv : LockInv s) : LockInv (releaseHandle s) := by
  simpa [releaseHandle, lockInv_mapSampling] using inv

@[simp] theorem lockInv_changeKeg (s : State) : LockInv (changeKeg s) := by simp [changeKeg]

theorem lockInv_changeLid {s : State} (inv : LockInv s) : LockInv (changeLid s) := by
  unfold changeLid
  dsimp only
  split <;> simpa [lockInv_mapSampling] using inv

theorem lockInv_changeDrip {s : State} (inv : LockInv s) : LockInv (changeDrip s) := by
  simpa [changeDrip, lockInv_mapSampling] using inv

@[simp] theorem lockInv_stationChanged (s : State) : LockInv (stationChanged s) := by simp [stationChanged]

@[simp] theorem lockInv_enterSafe (s : State) : LockInv (enterSafe s) := by simp [enterSafe]

theorem lockInv_stopLineActive {s : State} (inv : LockInv s) : LockInv (stopLineActive s) := by
  have delivered : LockInv (s.mapSampling fun u => { u with ext := u.ext.deliver }) :=
    (lockInv_mapSampling rfl rfl rfl).2 inv
  have taken : LockInv ((s.mapSampling fun u => { u with ext := u.ext.deliver }).mapSup fun p =>
      { p with leaveSafeRefused := false }) := (lockInv_mapSup rfl rfl).2 delivered
  unfold stopLineActive
  dsimp only
  (repeat' split) <;> simp [taken]

theorem lockInv_stopLineInactive {s : State} (inv : LockInv s) : LockInv (stopLineInactive s) := by
  simpa [stopLineInactive, lockInv_mapSampling] using inv

/-- A draw in another state than LOCKED that goes to another such state. -/
theorem lockInv_of_unlocked {s t : State} (causes : t.draw.causes = s.draw.causes) (before : s.draw.state ≠ .locked)
    (after : t.draw.state ≠ .locked) (formed : formCauses t = formCauses s) (held : t.held = s.held)
    (keg : t.sampling.keg = s.sampling.keg) (inv : LockInv s) : LockInv t := by
  simpa [LockInv, causes, before, after, formed, held, keg] using inv

theorem lockInv_decideClaim {s : State} (h : s.draw.state ≠ .locked) (inv : LockInv s) : LockInv (decideClaim s) :=
  lockInv_of_unlocked (by simp) h (by simp) (by simp [formCauses, handedMode]) (by simp) (by simp) inv

theorem lockInv_keepPeriod {s : State} (h : s.draw.state ≠ .locked) (inv : LockInv s) : LockInv (keepPeriod s) := by
  refine lockInv_of_unlocked (by simp) h ?_ (by simp [formCauses, handedMode]) (by simp) (by simp) inv
  unfold keepPeriod
  split <;> simp [h]

theorem lockInv_contendAgain {s : State} (h : s.draw.state ≠ .locked) (inv : LockInv s) : LockInv (contendAgain s) :=
  lockInv_of_unlocked (by simp) h (by simp) (by simp [formCauses, handedMode]) (by simp) (by simp) inv

/-! ### The bus -/

theorem lockInv_startAttempt {s : State} (inv : LockInv s) : LockInv (startAttempt s) := by
  unfold startAttempt
  split <;> simp [lockInv_mapLink, inv]

theorem lockInv_countDrop {s : State} (inv : LockInv s) : LockInv (countDrop s) := by
  unfold countDrop
  dsimp only
  split <;> simpa [lockInv_mapLink] using inv

theorem lockInv_failAttempt {s : State} (inv : LockInv s) : LockInv (failAttempt s) := by
  unfold failAttempt dropFrame
  dsimp only
  (repeat' split)
  · exact (lockInv_mapLink rfl).2 inv
  · exact (lockInv_claimDropped _).2 (lockInv_countDrop ((lockInv_mapLink rfl).2 inv))
  · exact lockInv_countDrop ((lockInv_mapLink rfl).2 inv)
  · exact (lockInv_mapLink rfl).2 inv

theorem lockInv_reportSend {q : QFrame} {s : State} (inv : LockInv s) : LockInv (reportSend q s) := by
  have claimed : LockInv (if q.liveClaim then claimSent s else s) := by
    split
    exacts [(lockInv_claimSent s).2 inv, inv]
  unfold reportSend
  dsimp only
  generalize (if q.liveClaim then claimSent s else s) = x at claimed ⊢
  split
  · split
    exacts [lockInv_groupSyncAccepted claimed, claimed]
  all_goals exact claimed

theorem lockInv_completeSend {a : Attempt} {q : QFrame} {rest : List QFrame} {s : State} (inv : LockInv s) :
    LockInv (completeSend a q rest s) := by
  have base : LockInv (endAlarm .linkFault (s.mapLink fun l =>
      { l with queue := rest, attempt := none, bus := .busy, dropCount := 0,
               txDropped := l.txDropped && !(a.carriesTxDropped && !a.droppedSince) })) := by
    simpa [lockInv_mapLink] using inv
  exact lockInv_reportSend base

theorem lockInv_duplicateHeard {s : State} (inv : LockInv s) : LockInv (duplicateHeard s) := by
  unfold duplicateHeard
  split <;> simp [inv]

theorem lockInv_discardFrame {rx : Reception} {s : State} (inv : LockInv s) : LockInv (discardFrame rx s) := by
  obtain h | h | h | h | h := discardFrame_cases rx s <;> rw [h]
  · exact inv
  · simpa using inv
  · exact lockInv_duplicateHeard (by simpa using inv)
  · simpa [lockInv_mapLink] using inv
  · simpa [lockInv_mapLink] using inv

/-- A frame that is accepted (R33) keeps the lockout where its effect does. -/
theorem lockInv_acceptFrame {h : Header} {act : State → State} {s : State} (ha : ∀ s, LockInv s → LockInv (act s))
    (inv : LockInv s) : LockInv (acceptFrame h act s) :=
  acceptFrame_keeps (fun _ _ => (lockInv_endReception _).2) (fun _ => lockInv_duplicateHeard) (fun s _ _ => ha s) inv

/-- A COMMAND frame keeps the lockout where the command does. -/
theorem lockInv_commandFrame {c : CommandName} {h : Header} {tag : Byte} {args : List Byte} {p : State → Reply}
    {s : State} (hp : ∀ s, LockInv s → LockInv (p s).state) (inv : LockInv s) :
    LockInv (commandFrame c h tag args p s) :=
  commandFrame_keeps (fun _ _ => (lockInv_endReception _).2) (fun _ => lockInv_duplicateHeard)
    (fun _ => (lockInv_activityEvent _ _).2) (fun _ _ => (lockInv_queueFrame _ _).2) hp inv

/-! ### The commands -/

theorem lockInv_setupItemReply {a : List Byte} {s : State} (inv : LockInv s) : LockInv (setupItemReply a s).state := by
  unfold setupItemReply storeItem
  dsimp only [refuse]
  (repeat' split) <;> simpa using inv

theorem lockInv_startReply {s : State} (inv : LockInv s) : LockInv (startReply s).state := by
  unfold startReply startStation
  dsimp only [refuse, answer]
  (repeat' split) <;> simp [inv]

@[simp] theorem lockInv_restartStation (s : State) : LockInv (restartStation s) := by simp [restartStation, wakeBlocks]

theorem lockInv_forceOutputReply {a : List Byte} {s : State} (inv : LockInv s) :
    LockInv (forceOutputReply a s).state := by
  unfold forceOutputReply forceDrive
  dsimp only [refuse, answer]
  (repeat' split) <;> simpa using inv

/-- A write to the staged bank leaves the record handed (R69, R74). -/
theorem Sequencer.current_write (q : Sequencer) (i : Nat) (r : Option StepRecord) :
    (q.write i r).current = q.current := by
  unfold Sequencer.write
  split <;> next h => simp [Sequencer.current, Sequencer.slot, Sequencer.bank, h]

theorem lockInv_writeStepReply {a : List Byte} {s : State} (inv : LockInv s) : LockInv (writeStepReply a s).state := by
  unfold writeStepReply
  dsimp only [refuse, answer]
  (repeat' split) <;> simpa [lockInv_mapSeq, Sequencer.current_write] using inv

theorem lockInv_readStepReply {a : List Byte} {s : State} (inv : LockInv s) : LockInv (readStepReply a s).state := by
  unfold readStepReply
  dsimp only [refuse]
  (repeat' split) <;> exact inv

theorem lockInv_setPending {p : Option PendingSwitch} {s : State} (inv : LockInv s) : LockInv (setPending p s) :=
  (lockInv_mapSeq rfl).2 inv

theorem lockInv_recordSwitch {source start group : Nat} {s : State} (inv : LockInv s) :
    LockInv (recordSwitch source start group s) := by
  unfold recordSwitch
  (repeat' split)
  exacts [lockInv_takeSwitchChain inv, lockInv_setPending inv, lockInv_setPending inv]

theorem lockInv_switchBankReply {a : List Byte} {s : State} (inv : LockInv s) : LockInv (switchBankReply a s).state := by
  unfold switchBankReply
  dsimp only [refuse, answer]
  (repeat' split)
  exacts [inv, lockInv_setPending inv, inv, inv, lockInv_recordSwitch inv, lockInv_recordSwitch inv, inv]

theorem lockInv_advanceReply {s : State} (inv : LockInv s) : LockInv (advanceReply s).state := by
  unfold advanceReply
  split
  · next h => exact lockInv_endStepChain (by obtain h | h := h <;> simp [h]) inv
  · exact inv

theorem lockInv_pauseReply {s : State} (inv : LockInv s) : LockInv (pauseReply s).state := by
  unfold pauseReply
  split
  · next h => exact (lockInv_changeProfile (by simp [h]) (by decide)).2 inv
  · exact inv

theorem lockInv_resumeReply {s : State} (inv : LockInv s) : LockInv (resumeReply s).state := by
  unfold resumeReply
  split
  · next h => exact lockInv_chain _ ((lockInv_changeProfile (by simp [h]) (by decide)).2 inv)
  · exact inv

theorem lockInv_stopProfile {s : State} (inv : LockInv s) : LockInv (stopProfile s) := by
  unfold stopProfile
  split
  · exact lockInv_setPending inv
  · simp

theorem lockInv_clearSupply {s : State} (inv : LockInv s) : LockInv (clearSupply s) := by
  have flag : LockInv (s.mapDraw fun d => { d with supplyWeak := false }) := inv
  simpa [clearSupply] using flag

/-- LEAK's latch is no other alarm's to clear (R190). -/
@[simp] theorem hasAlarm_clearable_leak (set : AlarmSet) (p : Supervisor) : hasAlarm (clearable set p) .leak = false := by
  simp [clearable]

theorem lockInv_clearLatches {x : AlarmSet} {s : State} (inv : LockInv s) : LockInv (clearLatches x s) := by
  unfold clearLatches
  dsimp only
  (repeat' split) <;> simp [lockInv_mapSup, inv]

theorem lockInv_clearAlarmsReply {a : List Byte} {s : State} (inv : LockInv s) :
    LockInv (clearAlarmsReply a s).state := by
  unfold clearAlarmsReply
  dsimp only [refuse]
  (repeat' split)
  exacts [inv, lockInv_clearLatches inv, inv]

theorem lockInv_quietReply {s : State} (inv : LockInv s) : LockInv (quietReply s).state := by
  unfold quietReply
  dsimp only [refuse, answer]
  (repeat' split) <;> simpa using inv

theorem lockInv_wakeReply {s : State} (inv : LockInv s) : LockInv (wakeReply s).state := by
  unfold wakeReply
  dsimp only [answer]
  (repeat' split) <;> simpa [lockInv_mapSup] using inv

theorem lockInv_leaveSafeReply {s : State} (inv : LockInv s) : LockInv (leaveSafeReply s).state := by
  unfold leaveSafeReply leaveSafeState
  dsimp only [refuse, answer]
  (repeat' split) <;> simp [lockInv_mapSup, inv]

end Sys2Proof.Machine
end

section
/-! ### O13 -/

namespace Sys2Proof.Machine

/-- A command made by `perform` keeps the lockout where its effect on a running part does. -/
theorem lockInv_perform {f : State → State} {s t : State} (h : perform f s = .next t)
    (hf : LockInv s → LockInv (f s)) (inv : LockInv s) : LockInv t :=
  perform_keeps h (fun _ => (lockInv_updateLeak _).2) (fun _ => hf) inv

/-- A row that acts only on its occasion keeps the lockout where its action there does. -/
theorem lockInv_occasion {p : Prop} [Decidable p] {s t : State} (ht : p → LockInv t) (inv : LockInv s) :
    LockInv (if p then t else s) := by
  split
  · next h => exact ht h
  · exact inv

/-- Every command keeps the lockout (R160, R161). -/
theorem lockInv_exec {c : Instr} {s t : State} (h : exec c s = .next t) (inv : LockInv s) : LockInv t := by
  cases c <;> dsimp only [exec] at h
  case powerOn p => cases h; simp
  case rstnHeldLow => cases h; simp
  all_goals refine lockInv_perform h (fun inv => ?_) inv
  case event10ms pins =>
    split
    · exact inv
    · next h => exact lockInv_tenMsEvent (by simpa using h) inv
  case event100ms raw b => exact lockInv_occasion (fun _ => by simp) inv
  case event1s beer jacket => exact lockInv_occasion (fun _ => by simpa using inv) inv
  case event1min b => exact lockInv_occasion (fun _ => lockInv_oneMinuteEvent inv) inv
  case event1h => exact lockInv_occasion (fun _ => lockInv_oneHourEvent inv) inv
  case handlePress => exact lockInv_occasion (fun _ => lockInv_pressHandle inv) inv
  case handleRelease => exact lockInv_occasion (fun _ => lockInv_releaseHandle inv) inv
  case auxLineChange line =>
    cases line
    case kegPresent => exact lockInv_occasion (fun _ => by simp) inv
    case lidClosed => exact lockInv_occasion (fun _ => lockInv_changeLid inv) inv
    case dripFull => exact lockInv_occasion (fun _ => lockInv_changeDrip inv) inv
  case extStopActive => exact lockInv_occasion (fun _ => lockInv_stopLineActive inv) inv
  case extStopInactive => exact lockInv_occasion (fun _ => lockInv_stopLineInactive inv) inv
  case flowPulse => simpa using inv
  case durationElapsed => exact lockInv_elapseDuration inv
  case heaterOnTimeEnd => exact lockInv_occasion (fun _ => inv) inv
  case glycolOpenTimeEnd => exact lockInv_occasion (fun _ => inv) inv
  case reportTimer => exact lockInv_occasion (fun _ => by simpa using inv) inv
  case idleTimerExpiry => exact lockInv_occasion (fun _ => by simpa using inv) inv
  case pulseTimerEnd => exact lockInv_occasion (fun _ => inv) inv
  case settleEnd => exact lockInv_occasion (fun _ => by simpa using inv) inv
  case settleWindowEnd =>
    exact lockInv_occasion (fun h => lockInv_decideClaim (by simp_all [claimWindowUp]) inv) inv
  case keepTimerPeriod => exact lockInv_occasion (fun h => lockInv_keepPeriod (by simp_all [keepPeriodUp]) inv) inv
  case backoffEnd => exact lockInv_occasion (fun h => lockInv_contendAgain (by simp_all [backoffUp]) inv) inv
  case recoverEnd => exact lockInv_occasion (fun h => lockInv_contendAgain (by simp_all [recoverUp]) inv) inv
  case stallTimerStart => exact lockInv_occasion (fun _ => inv) inv
  case stallTimerEnd => exact lockInv_occasion (fun _ => by simpa using inv) inv
  case lowPressureTimerEnd => exact lockInv_occasion (fun _ => by simpa using inv) inv
  case tailTimerEnd => exact lockInv_occasion (fun _ => by simpa using inv) inv
  case portionExpiry => exact lockInv_occasion (fun _ => inv) inv
  case peerPartExpiry n part => exact inv
  case busIdle => exact lockInv_occasion (fun _ => (lockInv_mapLink rfl).2 inv) inv
  case txAttemptStart => exact lockInv_occasion (fun _ => lockInv_startAttempt inv) inv
  case arbitrationLost bit =>
    split
    · exact inv
    · exact lockInv_occasion (fun _ => (lockInv_mapLink rfl).2 inv) inv
  case bitError bit =>
    split
    · exact inv
    · exact lockInv_occasion (fun _ => lockInv_failAttempt inv) inv
  case frameSent =>
    split
    · exact lockInv_completeSend inv
    · exact inv
  case frameDiscarded rx => exact lockInv_discardFrame inv
  case firstStartBit => exact lockInv_occasion (fun _ => (lockInv_mapLink rfl).2 inv) inv
  case receiveBayState h payload =>
    refine lockInv_acceptFrame (fun s inv => ?_) inv
    split <;> simpa using inv
  case receiveDraw h payload =>
    refine lockInv_acceptFrame (fun s inv => ?_) inv
    split <;> simpa using inv
  case receiveCoolCap h payload =>
    refine lockInv_acceptFrame (fun s inv => ?_) inv
    split <;> exact inv
  case receivePour h payload =>
    refine lockInv_acceptFrame (fun s inv => ?_) inv
    dsimp only
    (repeat' split) <;> simpa using inv
  case receiveGroupSync h payload =>
    refine lockInv_acceptFrame (fun s inv => ?_) inv
    split
    exacts [lockInv_groupSyncAccepted inv, inv]
  case unknownCommand h code tag args =>
    refine lockInv_acceptFrame (fun s inv => ?_) inv
    dsimp only [queueResult, refuse]
    (repeat' split) <;> simpa using inv
  all_goals refine lockInv_commandFrame (fun s inv => ?_) inv
  case setupItem => exact lockInv_setupItemReply inv
  case start => exact lockInv_startReply inv
  case restart => exact lockInv_restartStation s
  case forceOutput => exact lockInv_forceOutputReply inv
  case writeStep => exact lockInv_writeStepReply inv
  case readStep => exact lockInv_readStepReply inv
  case switchBank => exact lockInv_switchBankReply inv
  case advance => exact lockInv_advanceReply inv
  case pauseProfile => exact lockInv_pauseReply inv
  case resumeProfile => exact lockInv_resumeReply inv
  case stopProfile => exact lockInv_stopProfile inv
  case clearSupply => exact lockInv_clearSupply inv
  case setLevel args => simpa [LockInv, formCauses, handedMode] using inv
  case armPortion args => simpa [LockInv, formCauses, handedMode] using inv
  case readPour args => simpa using inv
  case dropPours args => simpa [LockInv, formCauses, handedMode] using inv
  case readView args => simpa using inv
  case quiet => exact lockInv_quietReply inv
  case wake => exact lockInv_wakeReply inv
  case clearAlarms => exact lockInv_clearAlarmsReply inv
  case leaveSafe => exact lockInv_leaveSafeReply inv

/-- The command taken from the queue keeps the lockout, which does not hang on the queue. -/
theorem lockInv_step {s t : State} (h : step s = .next t) (inv : LockInv s) : LockInv t := by
  unfold step at h
  split at h
  · cases h
    exact inv
  · exact lockInv_exec h inv

/-- The gas mode handed is OPEN or SPUND exactly where the record of the current slot is one of these (R70, R74). -/
theorem handedMode_open_or_spund (s : State) :
    (handedMode s = some .openKeg ∨ handedMode s = some .spund) ↔
      ∃ r, s.seq.profile ≠ .idle ∧ s.seq.slot s.seq.active s.seq.index = some r ∧
        (r.gas = .openKeg ∨ ∃ v, r.gas = .spund v) := by
  have mode (g : GasTreatment) : (g.mode = .openKeg ∨ g.mode = .spund) ↔ (g = .openKeg ∨ ∃ v, g = .spund v) := by
    cases g <;> simp [GasTreatment.mode]
  by_cases idle : s.seq.profile = .idle
  · simp [handedMode, Sequencer.current, idle]
  · cases h : s.seq.slot s.seq.active s.seq.index <;> simp [handedMode, Sequencer.current, idle, h, mode]

/-- Settles O13: every command keeps the invariant, and the invariant with no undelivered change of KEG_PRESENT says that the
causes held are those of R160's table. -/
theorem lockoutKept : Obligations.LockoutKept := by
  refine ⟨fun s t h inv => lockInv_step h inv, fun s inv up delivered => ?_⟩
  obtain ⟨locked, formed⟩ := inv up
  have causes := formed delivered
  intro leak sensor keg silent gasMode
  have hLeak : s.draw.causes.leak = true ↔ leak := by simp [causes, formCauses, leak]
  have hSensor : s.draw.causes.sensor = true ↔ sensor := by simp [causes, formCauses, sensor]
  have hKeg : s.draw.causes.keg = true ↔ keg := by simp [causes, formCauses, keg]
  have hSilent : s.draw.causes.silent = true ↔ silent := by simp [causes, formCauses, silent]
  have hMode : s.draw.causes.gasMode = true ↔ gasMode := by
    simp only [causes, formCauses, gasMode, ← handedMode_open_or_spund, Bool.and_eq_true, Bool.or_eq_true,
      decide_eq_true_eq, beq_iff_eq]
  refine ⟨hLeak, hSensor, hKeg, hSilent, hMode, ?_⟩
  rw [locked, ← hLeak, ← hSensor, ← hKeg, ← hSilent, ← hMode]
  simp [Causes.any, or_assoc]

end Sys2Proof.Machine
end

section
/-! ## The 10 ms event (R3, R5, R13): O25 -/

namespace Sys2Proof.Machine

/-! ### The rows of the time base and of the lines -/

theorem exec_event10ms (pins : SwitchPins) (s : State) : exec (.event10ms pins) s = execEvent10ms pins s := by rfl
theorem exec_event100ms (raw : Nat) (b : Bool) (s : State) :
    exec (.event100ms raw b) s = execEvent100ms raw b s := by rfl
theorem exec_event1s (beer jacket : Nat) (s : State) :
    exec (.event1s beer jacket) s = execEvent1s beer jacket s := by rfl
theorem exec_event1min (b : Bool) (s : State) : exec (.event1min b) s = execEvent1min b s := by rfl
theorem exec_event1h (s : State) : exec .event1h s = execEvent1h s := by rfl

/-- A row that has no occasion leaves the part to the leak check. -/
theorem perform_idle {p : State → Prop} [DecidablePred p] (f : State → State) {s : State} (up : s.held = false)
    (h : ¬p s) : perform (fun s => if p s then f s else s) s = .next (updateLeak s) := by
  rw [perform_running _ up, if_neg h]

/-- A 10 ms event has no effect while the one before is under way. -/
theorem execEvent10ms_busy (pins : SwitchPins) {s : State} (up : s.held = false) (busy : eventUnderWay s = true) :
    execEvent10ms pins s = .next (updateLeak s) := by
  rw [execEvent10ms, perform_running _ up, if_pos busy]

theorem execEvent10ms_free (pins : SwitchPins) {s : State} (up : s.held = false) (free : eventUnderWay s = false) :
    execEvent10ms pins s = .next (updateLeak (tenMsEvent pins s)) := by
  rw [execEvent10ms, perform_running _ up, if_neg (by simp [free])]

/-! ### The divider chain (R3) -/

/-- The divider chain is a counter of 10 ms events within the hour, and the coarser events fall where their dividers divide
it (R3). -/
theorem TimeBase.advance_phase (t : TimeBase) (tens : t.tens < 10) (hundreds : t.hundreds < 10) (seconds : t.seconds < 60)
    (minutes : t.minutes < 60) :
    t.advance.phase = (t.phase + 1) % 360000 ∧ (t.advance.due100ms = true ↔ (t.phase + 1) % 10 = 0) ∧
      (t.advance.due1s = true ↔ (t.phase + 1) % 100 = 0) ∧ (t.advance.due1min = true ↔ (t.phase + 1) % 6000 = 0) ∧
      (t.advance.due1h = true ↔ (t.phase + 1) % 360000 = 0) := by
  by_cases ten : 10 ≤ t.tens + 1
  · by_cases hundred : 10 ≤ t.hundreds + 1
    · by_cases second : 60 ≤ t.seconds + 1
      · by_cases minute : 60 ≤ t.minutes + 1 <;>
          simp [TimeBase.advance, TimeBase.phase, ten, hundred, second, minute] <;> omega
      · simp [TimeBase.advance, TimeBase.phase, ten, hundred, second]
        omega
    · simp [TimeBase.advance, TimeBase.phase, ten, hundred]
      omega
  · simp [TimeBase.advance, TimeBase.phase, ten]
    omega

/-! ### The ends that keep the next 10 ms event from coming (R5) -/

/-- The report interval has run out (R38). -/
theorem reportUp_eq_true (s : State) :
    reportUp s = true ↔ s.link.silent = false ∧ (if s.sup.quiet then 30 else 5) ≤ s.link.reportCount := by
  simp only [reportUp, Bool.and_eq_true, Bool.not_eq_true', decide_eq_true_eq]
  rfl

/-- The idle period has run out (R184). -/
theorem idleTimeUp_eq_true (s : State) :
    idleTimeUp s = true ↔
      s.sup.station = .run ∧ s.sup.quiet = false ∧ 0 < s.setup.idlePeriod ∧ s.setup.idlePeriod ≤ s.sup.idleCount := by
  simp [idleTimeUp, idleStarted, Nat.pos_iff_ne_zero, and_assoc]

/-- The step's duration has run out, outside PAUSED (R75, R76). -/
theorem durationUp_eq_true (s : State) :
    durationUp s = true ↔
      ∃ r, s.seq.current = some r ∧ s.seq.profile ≠ .paused ∧ s.seq.phase = some .soaking ∧
        s.seq.count = r.duration * 60 := by
  unfold durationUp durationElapsed
  cases s.seq.current <;> simp [and_comm]

/-- The wait after a claim given up or a draw released has run out (R151, R155). -/
theorem waitUp_eq_true (s : State) :
    (backoffUp s = true ∨ recoverUp s = true) ↔
      (s.draw.state = .backoff ∨ s.draw.state = .recover) ∧ s.draw.backoffTimer = some 0 := by
  simp [backoffUp, recoverUp, due, or_and_right]

/-- One of the timers of a pour in FLOWING has run out (R170, R171). -/
theorem flowTimeUp_eq_true (s : State) :
    (stallDelayUp s = true ∨ stallTimeUp s = true ∨ lowPressureTimeUp s = true) ↔
      s.disp.state = .flowing ∧
        (s.disp.stallDelay = some 0 ∨ s.disp.stallTimer = some 0 ∨ s.disp.lowTimer = some 0) := by
  simp [stallDelayUp, stallTimeUp, lowPressureTimeUp, due, and_or_left]

/-- The ends of the window's requests and of a pulse or a settle (R102, R120, R134). -/
theorem outputTimeUp_eq_true (s : State) :
    (heaterTimeUp s = true ∨ glycolTimeUp s = true ∨ pulseTimeUp s = true ∨ settleTimeUp s = true) ↔
      s.temp.onTimer = some 0 ∨ s.cool.openTimer = some 0 ∨
        (s.gas.state = .pulse ∧ s.gas.pulseTimer = some 0) ∨ (s.gas.state = .settle ∧ s.gas.settleTimer = some 0) := by
  simp [heaterTimeUp, glycolTimeUp, pulseTimeUp, settleTimeUp, due]

/-- The ends of a claim's settle window and of a keep period (R150, R153). -/
theorem claimTimeUp_eq_true (s : State) :
    (claimWindowUp s = true ∨ keepPeriodUp s = true) ↔
      (s.draw.state = .claiming ∧ s.draw.settleWindow = some 0) ∨
        (s.draw.state = .drawing ∧ s.draw.keepTimer = some 0) := by
  simp [claimWindowUp, keepPeriodUp, due]

/-- The ends of a tail and of an armed portion (R173, R175). -/
theorem tailTimeUp_eq_true (s : State) :
    (tailTimeUp s = true ∨ portionTimeUp s = true) ↔
      (s.disp.state = .tailing ∧ s.disp.tailTimer = some 0) ∨ s.disp.portionTimer = some 0 := by
  simp [tailTimeUp, portionTimeUp, due]

/-- An end is to be taken exactly where one of the ends above is, or a part of the peer view has none of its lifetime left
(R46 to R48). -/
theorem endToTake_eq_true (s : State) :
    endToTake s = true ↔
      (heaterTimeUp s = true ∨ glycolTimeUp s = true ∨ pulseTimeUp s = true ∨ settleTimeUp s = true) ∨
        (claimWindowUp s = true ∨ keepPeriodUp s = true) ∨ (backoffUp s = true ∨ recoverUp s = true) ∨
        (stallDelayUp s = true ∨ stallTimeUp s = true ∨ lowPressureTimeUp s = true) ∨
        (tailTimeUp s = true ∨ portionTimeUp s = true) ∨ reportUp s = true ∨ idleTimeUp s = true ∨
        durationUp s = true ∨ ∃ e ∈ s.view.entries, e.lifetimeUp = true := by
  simp only [endToTake, Bool.or_eq_true, List.any_eq_true, or_assoc]

/-! ### The first reading (R13, R16, R68, R163) -/

/-- After an evaluation the watch is TRIPPED exactly while a watched line differs from its reference (R16). -/
theorem evaluateWatch_tripped {s : State} (taken : s.sampling.levelsTaken = true) :
    (evaluateWatch s).sampling.watch = .tripped ↔ watchMismatch s = true := by
  unfold evaluateWatch
  rw [if_neg (by simp [taken])]
  cases h : s.sampling.watch <;> dsimp only <;> split <;> simp_all

/-- An evaluation of the watch leaves all the samples but the watch. -/
theorem evaluateWatch_sampling (s : State) :
    (evaluateWatch s).sampling = { s.sampling with watch := (evaluateWatch s).sampling.watch } := by
  unfold evaluateWatch
  (repeat' split) <;> simp

/-- The mismatch is a matter of the four levels and of the setup items (R16). -/
theorem watchMismatch_congr {s t : State} (lines : lineLevels t.sampling = lineLevels s.sampling)
    (setup : t.setup = s.setup) : watchMismatch t = watchMismatch s := by
  unfold watchMismatch
  rw [lines, setup]

@[simp] theorem updateLockouts_causes (s : State) : (updateLockouts s).draw.causes = formCauses s := by
  unfold updateLockouts
  dsimp only
  (repeat' split) <;> simp

/-- With a cause the coordinator stands LOCKED (R160). -/
theorem updateLockouts_locked {s : State} (h : (formCauses s).any = true) :
    (updateLockouts s).draw.state = .locked := by
  unfold updateLockouts enterLocked
  dsimp only
  rw [if_pos (by simpa using h)]
  (repeat' split) <;> simp_all [Draw.enter]

/-- The levels that the first reading takes directly, with nothing to deliver (R13). -/
def takeLevels (p : SwitchPins) (u : Sampling) : Sampling :=
  { u with handle := { active := readsActive p.handle }, keg := { active := readsActive p.kegPresent },
           lid := { active := readsActive p.lidClosed }, drip := { active := readsActive p.dripFull },
           ext := { active := readsActive p.extStop }, levelsTaken := true }

/-- The first reading takes the levels, and then the watch, EXT_STOP and the lockout follow them (R13, R68, R163). -/
theorem firstReading_eq (p : SwitchPins) (s : State) :
    firstReading p s = updateLockouts (raisePresentExtStop (evaluateWatch (s.mapSampling (takeLevels p)))) := rfl

/-- After the first reading the levels are those of the pins, and the watch stands as its first evaluation has left it
(R16). -/
theorem firstReading_sampling (p : SwitchPins) (s : State) :
    ∃ w, (firstReading p s).sampling = { takeLevels p s.sampling with watch := w } ∧
      (w = .tripped ↔ watchMismatch (firstReading p s) = true) := by
  have sampling : (firstReading p s).sampling =
      { takeLevels p s.sampling with watch := (evaluateWatch (s.mapSampling (takeLevels p))).sampling.watch } := by
    simp only [firstReading_eq, updateLockouts_frame, raisePresentExtStop_frame]
    rw [evaluateWatch_sampling]
    rfl
  refine ⟨_, sampling, ?_⟩
  have lines : lineLevels (firstReading p s).sampling = lineLevels (takeLevels p s.sampling) := by
    rw [sampling]
    rfl
  rw [watchMismatch_congr (s := s.mapSampling (takeLevels p)) lines (by simp), evaluateWatch_tripped rfl]

/-- The first reading forms the KEG cause (R163). -/
theorem firstReading_kegCause (p : SwitchPins) (s : State) :
    (firstReading p s).draw.causes.keg = !readsActive p.kegPresent := by
  simp [firstReading_eq, formCauses]
  simp [takeLevels]

theorem Causes.any_of_keg {c : Causes} (h : c.keg = true) : c.any = true := by simp [Causes.any, h]

/-- A keg found missing at the first reading locks the coordinator (R160). -/
theorem firstReading_locked {p : SwitchPins} (s : State) (h : readsActive p.kegPresent = false) :
    (firstReading p s).draw.state = .locked := by
  have cause := firstReading_kegCause p s
  rw [firstReading_eq, updateLockouts_causes, h] at cause
  exact updateLockouts_locked (Causes.any_of_keg cause)

/-- An EXT_STOP found active at the first reading raises its alarm (R68). -/
theorem firstReading_extStop {p : SwitchPins} (s : State) (h : readsActive p.extStop = true) :
    hasAlarm (firstReading p s).sup.active .extStop = true := by
  have stop : (evaluateWatch (s.mapSampling (takeLevels p))).sampling.ext.active = true := by
    rw [evaluateWatch_sampling]
    exact h
  simp [firstReading_eq, raisePresentExtStop, stop]

/-! ### O25 -/

/-- The first 10 ms event is the first reading, then the leak check and the durations, which leave what it has formed. -/
theorem tenMsEvent_first {p : SwitchPins} {s : State} (first : s.sampling.levelsTaken = false) :
    tenMsEvent p s = countDurations (firstReading p (s.mapTime (·.advance))) := by
  simp [tenMsEvent, first]

/-- Every later 10 ms event reads the pins against the levels taken (R13). -/
theorem tenMsEvent_later {p : SwitchPins} {s : State} (taken : s.sampling.levelsTaken = true) :
    tenMsEvent p s = countDurations (laterReading p (s.mapTime (·.advance))) := by
  simp [tenMsEvent, taken]

end Sys2Proof.Machine

namespace Sys2Proof
open Sys2Proof.Machine

/-- Settles O25: a later event by its definition, the first by the laws of the first reading, the divider chain by arithmetic,
and what keeps the next event from coming end by end. -/
theorem tenMsEvent : Obligations.TenMsEvent := by
  refine ⟨fun pins s up free taken => ?_, fun pins s up free first => ?_, fun t tens hundreds seconds minutes => ?_,
    fun s => ?_, fun s up => ⟨fun busy pins => ?_, fun h raw b => ?_, fun h beer jacket => ?_, fun h b => ?_, fun h => ?_⟩⟩
  · rw [exec_event10ms, execEvent10ms_free pins up free]
    refine congrArg (fun x => Host.Outcome.next (updateLeak x)) ?_
    rw [tenMsEvent_later taken]
    simp only [countDurations, laterReading, State.mapTime, State.mapSampling, State.mapLink, State.mapTemp, State.mapCool,
      State.mapGas, State.mapDraw, State.mapDisp, State.mapView, tick, readsActive, handleReadings, kegReadings, lineReadings]
    rfl
  · rw [exec_event10ms, execEvent10ms_free pins up free]
    refine ⟨_, rfl, ?_⟩
    rw [tenMsEvent_first first]
    set r := firstReading pins (s.mapTime (·.advance)) with read
    obtain ⟨w, sampling, watch⟩ := firstReading_sampling pins (s.mapTime (·.advance))
    have keg := firstReading_kegCause pins (s.mapTime (·.advance))
    have locked := @firstReading_locked pins (s.mapTime (·.advance))
    have stop := @firstReading_extStop pins (s.mapTime (·.advance))
    rw [← read] at sampling watch keg locked stop
    have mismatch : watchMismatch (updateLeak (countDurations r)) = watchMismatch r :=
      watchMismatch_congr (by simp) (by simp)
    have level (l : Level) : l = .high → readsActive l = false := by rintro rfl; rfl
    have pressed (l : Level) : l = .low → readsActive l = true := by rintro rfl; rfl
    have missing (l : Level) : (!readsActive l) = decide (l = .high) := by cases l <;> rfl
    simp only [updateLeak_frame, countDurations_frame, countDurations_log, countDurations_causes,
      countDurations_drawLocked, sampling, mismatch, takeLevels]
    refine ⟨?_, trivial, rfl, rfl, rfl, rfl, rfl, watch, keg.trans (missing _), fun h => stop (pressed _ h),
      fun h => locked (level _ h), ?_⟩ <;> simp [read]
  · obtain ⟨phase, hundred, second, minute, hour⟩ := t.advance_phase tens hundreds seconds minutes
    exact ⟨phase, hundred, second, minute, hour, rfl⟩
  · rw [eventUnderWay_eq_true, endToTake_eq_true, outputTimeUp_eq_true, claimTimeUp_eq_true, waitUp_eq_true,
      flowTimeUp_eq_true, tailTimeUp_eq_true, reportUp_eq_true, idleTimeUp_eq_true, durationUp_eq_true]
    simp only [TimeBase.eventDue, Sampling.undelivered, Bool.or_eq_true, PeerEntry.lifetimeUp_eq_true, or_assoc]
  · rw [exec_event10ms, execEvent10ms_busy pins up busy]
  · rw [exec_event100ms, execEvent100ms, perform_idle _ up (by simp [h])]
  · rw [exec_event1s, execEvent1s, perform_idle _ up (by simp [h])]
  · rw [exec_event1min, execEvent1min, perform_idle _ up (by simp [h])]
  · rw [exec_event1h, execEvent1h, perform_idle _ up (by simp [h])]

end Sys2Proof
end

section
/-! ## FORCE_OUTPUT (R21, R22): O53 -/

namespace Sys2Proof.Machine

/-! ### A command to the own station (R35) -/

/-- In SILENT a queued frame is discarded (R40). -/
theorem queueFrame_of_silent (f : Frame) {s : State} (h : s.link.silent = true) : queueFrame f s = s := by
  simp [queueFrame, enqueue_silent _ _ h, State.mapLink]

/-- The leak check touches nothing of the gas regulator but its own state (R142). -/
@[simp] theorem updateLeak_gas (s : State) :
    (updateLeak s).gas.state = s.gas.state ∧ (updateLeak s).gas.limitedLow = s.gas.limitedLow ∧
      (updateLeak s).gas.limitedHigh = s.gas.limitedHigh := ⟨rfl, rfl, rfl⟩

@[simp] theorem atDispatch_frame (s : State) :
    (atDispatch s).pending = s.pending ∧ (atDispatch s).held = s.held ∧ (atDispatch s).ident = s.ident ∧
      (atDispatch s).setup = s.setup ∧ (atDispatch s).sampling = s.sampling ∧ (atDispatch s).drivers = s.drivers ∧
      (atDispatch s).seq = s.seq ∧ (atDispatch s).gas = s.gas ∧ (atDispatch s).draw = s.draw ∧
      (atDispatch s).disp = s.disp ∧ (atDispatch s).sup.station = s.sup.station := by
  simp [atDispatch]

/-- A command of the right length to the own station is performed, and its RESULT queued, or in SILENT discarded (R35,
R40). -/
theorem commandFrame_addressed {c : CommandName} {h : Header} {tag : Byte} {args : List Byte} {p : State → Reply}
    {s : State} (addressed : Addressed h s) (length : args.length = c.argLength)
    (silent : ∀ s, (p s).state.link.silent = s.link.silent) :
    perform (commandFrame c h tag args p) s =
      .next (withResult h c.code tag (p (atDispatch s)).code (p (atDispatch s)).data (p (atDispatch s)).state) := by
  obtain ⟨⟨up, receives, source, other, accepted⟩, dest⟩ := addressed
  have accepted' : destAccepted (endReception s) h.dest = true := by simp [destAccepted, dest]
  rw [perform_running _ up, commandFrame, acceptFrame, if_pos receives]
  dsimp only
  rw [if_neg source, if_neg (by simpa using other), if_pos accepted', dest]
  rw [answerCommand]
  dsimp only
  rw [if_pos length, withResult]
  split
  · next quiet =>
    rw [queueFrame_of_silent]
    · rfl
    · rw [silent, atDispatch, activityEvent_silent, quiet]
  · rfl

/-! ### The need (R146) -/

/-- Without a need there is none to end (R146). -/
theorem needEnds_of_none {s : State} (h : s.draw.need = false) : needEnds s = s := by simp [needEnds, h]

/-- The draw without its need in another state, every timer stopped (R146). -/
def Draw.withoutNeed (st : DrawState) (d : Draw) : Draw := ({ d with need := false } : Draw).enter st

/-- The end of the need releases a claim or a draw (R146). -/
theorem needEnds_releases {s : State} (need : s.draw.need = true)
    (h : s.draw.state = .claiming ∨ s.draw.state = .drawing) :
    needEnds s = queueFrame (.draw .release s.draw.urgency s.draw.supplyWeak) (s.mapDraw (·.withoutNeed .idle)) := by
  obtain h | h := h <;> simp [needEnds, need, h] <;> rfl

/-- The end of the need ends a wait (R146). -/
theorem needEnds_waits {s : State} (need : s.draw.need = true)
    (h : s.draw.state = .waiting ∨ s.draw.state = .backoff ∨ s.draw.state = .recover) :
    needEnds s = s.mapDraw (·.withoutNeed .idle) := by
  obtain h | h | h := h <;> simp [needEnds, need, h] <;> rfl

/-- The end of the need leaves IDLE and LOCKED (R146). -/
theorem needEnds_stays {s : State} (need : s.draw.need = true) (h : s.draw.state = .idle ∨ s.draw.state = .locked) :
    needEnds s = s.mapDraw fun d => { d with need := false } := by
  obtain h | h := h <;> simp [needEnds, need, h]

@[simp] theorem makeClaim_need (s : State) : (makeClaim s).draw.need = s.draw.need := by
  unfold makeClaim
  dsimp only
  split <;> simp [Draw.enter]

@[simp] theorem examine_need (s : State) : (examine s).draw.need = s.draw.need := by
  unfold examine
  dsimp only
  (repeat' split) <;> simp

/-- After its arrival the need is present (R146). -/
@[simp] theorem needArrives_need (s : State) : (needArrives s).draw.need = true := by
  unfold needArrives enterWaiting
  dsimp only
  (repeat' split) <;> simp_all [Draw.enter]

/-! ### Forced outputs (R21, R22) -/

/-- Outputs forced with INLET's drive state left alone change nothing but the drive states (R22). -/
theorem forceDrive_inlet_stands {o : Output} {on : Bool} {s : State}
    (h : (s.drivers.force o on).inlet = s.drivers.inlet) : forceDrive o on s = s.mapDrivers (·.force o on) := by
  unfold forceDrive
  simp only [State.mapDrivers_drivers, h]
  split <;> rfl

/-- INLET taken out of FORCED_ON ends its need (R22). -/
theorem forceDrive_inlet_drops {o : Output} {on : Bool} {s : State} (before : s.drivers.inlet = .forcedOn)
    (after : (s.drivers.force o on).inlet = .forcedOff) :
    forceDrive o on s = needEnds (s.mapDrivers (·.force o on)) := by
  simp [forceDrive, before, after]

/-- INLET off and VENT on, which take INLET out of FORCED_ON, where it was not there or had no need (R22). -/
theorem forceDrive_inlet_off {o : Output} {on : Bool} {s : State} (after : (s.drivers.force o on).inlet = .forcedOff)
    (h : s.drivers.inlet ≠ .forcedOn ∨ s.draw.need = false) : forceDrive o on s = s.mapDrivers (·.force o on) := by
  by_cases before : s.drivers.inlet = .forcedOn
  · rw [forceDrive_inlet_drops before after]
    exact needEnds_of_none (by simpa [before] using h)
  · simp [forceDrive, before, after]

/-- INLET forced on presents its need (R22). -/
theorem forceDrive_inlet_on {s : State} (h : s.drivers.inlet ≠ .forcedOn) :
    forceDrive .inlet true s = needArrives (s.mapDrivers (·.force .inlet true)) := by
  have forced : (s.drivers.force .inlet true).inlet = .forcedOn := rfl
  simp [forceDrive, forced, h]

/-! ### FORCE_OUTPUT's table (R21) -/

theorem exec_forceOutput (h : Header) (tag : Byte) (args : List Byte) (s : State) :
    exec (.forceOutput h tag args) s = execForceOutput h tag args s := by rfl

/-- FORCE_OUTPUT to the own station comes to its reply (R35). -/
theorem exec_forceOutput_addressed {h : Header} {s : State} (tag out value : Byte) (addressed : Addressed h s) :
    exec (.forceOutput h tag [out, value]) s =
      .next (withResult h 0x04#8 tag (forceOutputReply [out, value] (atDispatch s)).code
        (forceOutputReply [out, value] (atDispatch s)).data (forceOutputReply [out, value] (atDispatch s)).state) := by
  rw [exec_forceOutput, execForceOutput,
    commandFrame_addressed addressed (p := forceOutputReply [out, value]) rfl fun s => forceOutputReply_silent _ s]
  rfl

theorem outputOf_none {n : Nat} (h : 5 ≤ n) : outputOf n = none := by
  obtain ⟨k, rfl⟩ := Nat.exists_eq_add_of_le' h
  rfl

theorem outputOf_some {n : Nat} (h : n < 5) : ∃ o, outputOf n = some o := by
  interval_cases n <;> exact ⟨_, rfl⟩

/-- FORCE_OUTPUT is refused outside SETUP (R21). -/
theorem forceOutputReply_outside_setup {args : List Byte} {s : State} (h : s.sup.station ≠ .setup) :
    forceOutputReply args s = refuse .refusedState s := by
  simp [forceOutputReply, h]

/-- Off forces any output off (R21). -/
theorem forceOutputReply_off {out : Byte} {o : Output} {s : State} (setup : s.sup.station = .setup)
    (names : outputOf out.toNat = some o) : forceOutputReply [out, 0#8] s = answer .done (forceDrive o false s) := by
  simp [forceOutputReply, setup, names]

/-- On forces an output on that none of the refusals names (R21). -/
theorem forceOutputReply_on {out : Byte} {o : Output} {s : State} (setup : s.sup.station = .setup)
    (names : outputOf out.toNat = some o) (tap : o ≠ .tap) (heater : o = .heater → s.ident.heaterFitted = true)
    (inlet : o = .inlet → safetyVent s = false) : forceOutputReply [out, 1#8] s = answer .done (forceDrive o true s) := by
  have heater' : ¬(o = .tap ∨ o = .heater ∧ (!s.ident.heaterFitted) = true) := by
    rintro (h | ⟨h, unfitted⟩)
    · exact tap h
    · simp [heater h] at unfitted
  have inlet' : ¬(o = .inlet ∧ safetyVent s = true) := fun ⟨h, vents⟩ => by simp [inlet h] at vents
  simp only [forceOutputReply, setup, names, ne_eq, not_true_eq_false, if_false]
  rw [if_neg (by decide), if_neg (by decide), if_neg heater', if_neg inlet']

/-- Settles O53: each row of R21's table by FORCE_OUTPUT's reply, and INLET's need by what its end does in each draw state. -/
theorem forceOutput : Obligations.ForceOutput := by
  intro h tag s addressed refused forces
  have reply (out value : Byte) := exec_forceOutput_addressed tag out value addressed
  have refuses {out value : Byte} {code : ResultCode}
      (hr : forceOutputReply [out, value] (atDispatch s) = refuse code (atDispatch s)) : refused out value code := by
    simp only [refused, reply, hr]
    rfl
  have answers {out value : Byte} {t : State} (hr : forceOutputReply [out, value] (atDispatch s) = answer .done t) :
      exec (.forceOutput h tag [out, value]) s = .next (withResult h 0x04#8 tag .done [] t) := by
    rw [reply, hr]
    rfl
  have drivers : (atDispatch s).drivers = s.drivers := by simp
  have draw : (atDispatch s).draw = s.draw := by simp
  refine ⟨fun out value run => refuses (forceOutputReply_outside_setup (by simpa using run)), fun setup => ?_⟩
  have setup' : (atDispatch s).sup.station = .setup := by simpa using setup
  have vents : safetyVent (atDispatch s) = safetyVent s := by simp [safetyVent]
  have stands {out value : Byte} {o : Output} {on : Bool}
      (hr : forceOutputReply [out, value] (atDispatch s) = answer .done (forceDrive o on (atDispatch s)))
      (hi : (s.drivers.force o on).inlet = s.drivers.inlet) : forces out value (s.drivers.force o on) := by
    rw [forceDrive_inlet_stands (by rw [drivers, hi])] at hr
    exact (answers hr).trans (by rw [State.mapDrivers, drivers])
  refine ⟨fun out value high => refuses ?_, fun out value low high => refuses ?_, refuses ?_, fun unfitted => refuses ?_,
    fun venting => refuses ?_, stands (o := .vent) (on := false) (forceOutputReply_off setup' rfl) rfl,
    stands (o := .tap) (on := false) (forceOutputReply_off setup' rfl) rfl,
    stands (o := .glycol) (on := false) (forceOutputReply_off setup' rfl) rfl,
    stands (o := .heater) (on := false) (forceOutputReply_off setup' rfl) rfl,
    stands (o := .glycol) (on := true) (forceOutputReply_on setup' rfl nofun nofun nofun) rfl,
    fun fitted => stands (o := .heater) (on := true)
      (forceOutputReply_on setup' rfl nofun (fun _ => by simpa using fitted) nofun) rfl,
    fun out value x which => ?_, fun before quiet => ?_, fun quiet => ?_⟩
  · simp [forceOutputReply, setup, outputOf_none high]
  · obtain ⟨o, names⟩ := outputOf_some low
    simp only [forceOutputReply, setup', names, ne_eq, not_true_eq_false, if_false]
    rw [if_pos (by omega)]
  · simp [forceOutputReply, setup, outputOf]
  · simp [forceOutputReply, setup, outputOf, unfitted]
  · simp [forceOutputReply, setup, outputOf, vents, venting]
  · obtain ⟨o, on, hr, hx, after⟩ : ∃ o on,
        forceOutputReply [out, value] (atDispatch s) = answer .done (forceDrive o on (atDispatch s)) ∧
          x = s.drivers.force o on ∧ (s.drivers.force o on).inlet = .forcedOff := by
      obtain ⟨rfl, rfl, rfl⟩ | ⟨rfl, rfl, rfl⟩ := which
      · exact ⟨.inlet, false, forceOutputReply_off setup' rfl, rfl, rfl⟩
      · exact ⟨.vent, true, forceOutputReply_on setup' rfl nofun nofun nofun, rfl, rfl⟩
    intro noNeed
    refine ⟨fun idle => ?_, fun before need => ⟨fun drawing => ?_, fun waiting => ?_, fun still => ?_⟩⟩
    · rw [forceDrive_inlet_off (by rw [drivers, after]) (by rwa [drivers, draw])] at hr
      exact (answers hr).trans (by rw [State.mapDrivers, drivers, hx])
    all_goals
      rw [forceDrive_inlet_drops (by rw [drivers, before]) (by rw [drivers, after])] at hr
      rw [answers hr]
    · rw [needEnds_releases (by simpa using need) (by simpa using drawing)]
      simp [State.mapDrivers, State.mapDraw, hx, noNeed, Draw.withoutNeed, Draw.enter]
    · rw [needEnds_waits (by simpa using need) (by simpa using waiting)]
      simp [State.mapDrivers, State.mapDraw, hx, noNeed, Draw.withoutNeed, Draw.enter]
    · rw [needEnds_stays (by simpa using need) (by simpa using still)]
      simp [State.mapDrivers, State.mapDraw, hx]
  · have same : s.drivers.force .inlet true = { s.drivers with vent := .forcedOff } := by
      show ({ s.drivers with inlet := .forcedOn, vent := .forcedOff } : Drivers) = _
      rw [← before]
    rw [← same]
    exact stands (forceOutputReply_on setup' rfl nofun nofun fun _ => vents.trans quiet) before.symm
  · have hr := answers (forceOutputReply_on (out := 0#8) (o := .inlet) setup' rfl nofun nofun fun _ => vents.trans quiet)
    refine ⟨_, hr, ?_⟩
    by_cases before : s.drivers.inlet = .forcedOn
    · rw [forceDrive_inlet_stands (by rw [drivers, before]; rfl)]
      simp [withResult, before, Drivers.force, Drivers.set, Output.partner]
    · rw [forceDrive_inlet_on (by rwa [drivers])]
      simp [withResult, Drivers.force, Drivers.set, Output.partner]

end Sys2Proof.Machine
end

section
/-! ## What queueing leaves in the transmit queue (R28 to R30, R38)

A frame that is neither a BAY_STATE nor a DRAW leaves the queue by an attempt alone: no other frame takes its place, and no
eviction takes it. And only such a waiting BAY_STATE can be evicted, so that a queue with fewer than six firm frames takes
one more. -/

namespace Sys2Proof.Machine

/-! ### Firm frames -/

/-- A queued frame that no eviction takes: all but a BAY_STATE that waits (R30). -/
def QFrame.firm (q : QFrame) : Bool := !(q.frame.isBayState && !q.inFlight)

/-- The firm frames of the queue. -/
def Link.firmCount (l : Link) : Nat := l.queue.countP QFrame.firm

theorem Link.firmCount_le_length (l : Link) : l.firmCount ≤ l.queue.length := List.countP_le_length

/-- Where nothing can be evicted, nothing in the queue is a BAY_STATE that waits (R30). -/
theorem removeLast_none {p : QFrame → Bool} {q : List QFrame} (h : removeLast p q = none) : ∀ x ∈ q, p x = false := by
  induction q with
  | nil => simp
  | cons a q ih =>
    unfold removeLast at h
    split at h
    · nomatch h
    · next rest =>
      split at h
      · nomatch h
      · next here => simpa [here] using ih rest

theorem countP_insertFrame (f : QFrame) (q : List QFrame) (p : QFrame → Bool) :
    (insertFrame f q).countP p = q.countP p + if p f then 1 else 0 := by
  induction q with
  | nil => simp [insertFrame, List.countP_cons]
  | cons a q ih =>
    unfold insertFrame
    split
    · simp [List.countP_cons]
    · simp only [List.countP_cons, ih]
      omega

/-- Queueing adds at most the frame itself to the firm ones. -/
theorem enqueue_firmCount (f : QFrame) (l : Link) :
    (l.enqueue f).1.firmCount ≤ l.firmCount + if f.firm then 1 else 0 := by
  unfold Link.enqueue Link.firmCount
  split
  · exact Nat.le_add_right _ _
  split
  · next q hq =>
    obtain ⟨a, o, b, hl, rfl, -⟩ := replaceLast_some _ _ _ _ hq
    simp only [hl, List.countP_append, List.countP_cons]
    omega
  split
  · rw [countP_insertFrame]
  split
  · next q hq =>
    obtain ⟨a, o, b, hl, rfl, -⟩ := removeLast_some _ _ _ hq
    simp only [hl, countP_insertFrame, List.countP_append, List.countP_cons]
    omega
  · exact Nat.le_add_right _ _

/-- A queue with fewer than six firm frames takes one more (R28, R30). -/
theorem enqueue_takes {f : QFrame} {l : Link} (loud : l.silent = false) (room : l.firmCount < 6) :
    f.frame ∈ (l.enqueue f).1.queue.map (·.frame) := by
  unfold Link.enqueue
  rw [if_neg (by simp [loud])]
  split
  · next q hq =>
    obtain ⟨a, o, b, -, rfl, -⟩ := replaceLast_some _ _ _ _ hq
    simp
  split
  · exact List.mem_map_of_mem ((mem_insertFrame _ _ _).2 (.inl rfl))
  split
  · exact List.mem_map_of_mem ((mem_insertFrame _ _ _).2 (.inl rfl))
  · next _ long _ none =>
    have firm : l.firmCount = l.queue.length := List.countP_eq_length.2 fun x hx => by
      have waits := removeLast_none none x hx
      cases bay : x.frame.isBayState <;> simp_all [QFrame.firm]
    exact absurd (firm ▸ room : l.queue.length < queueLimit) long

theorem mem_replaced {α : Type} {x o f : α} {a b : List α} (h : x ∈ a ++ o :: b) (other : x ≠ o) : x ∈ a ++ f :: b := by
  simp only [List.mem_append, List.mem_cons] at h ⊢
  tauto

/-- A frame that is neither a BAY_STATE nor a DRAW stays in the queue beside a new one (R29, R30). -/
theorem enqueue_keeps (f : QFrame) {l : Link} {x : Frame} (bay : x.isBayState = false) (draw : x.isDraw = false)
    (h : x ∈ l.queue.map (·.frame)) : x ∈ (l.enqueue f).1.queue.map (·.frame) := by
  obtain ⟨y, hy, rfl⟩ := List.mem_map.1 h
  unfold Link.enqueue
  split
  · exact h
  split
  · next q hq =>
    obtain ⟨a, o, b, hl, rfl, hp⟩ := replaceLast_some _ _ _ _ hq
    have other : y ≠ o := by
      rintro rfl
      simp [coalescesWith, bay, draw] at hp
    exact List.mem_map_of_mem (mem_replaced (hl ▸ hy) other)
  split
  · exact List.mem_map_of_mem ((mem_insertFrame _ _ _).2 (.inr hy))
  split
  · next q hq =>
    obtain ⟨a, o, b, hl, rfl, hp⟩ := removeLast_some _ _ _ hq
    have other : y ≠ o := by
      rintro rfl
      simp [bay] at hp
    exact List.mem_map_of_mem ((mem_insertFrame _ _ _).2 (.inr (by simp_all)))
  · exact h

/-! ### Frames kept from one state to another -/

/-- Every queued frame of `s` that is neither a BAY_STATE nor a DRAW is still queued in `t`. -/
def FramesKept (s t : State) : Prop :=
  ∀ x : Frame, x.isBayState = false → x.isDraw = false → x ∈ s.link.queue.map (·.frame) →
    x ∈ t.link.queue.map (·.frame)

theorem FramesKept.refl (s : State) : FramesKept s s := fun _ _ _ h => h

theorem FramesKept.trans {s t u : State} (h : FramesKept s t) (k : FramesKept t u) : FramesKept s u :=
  fun x bay draw hx => k x bay draw (h x bay draw hx)

/-- A state with the same frames queued keeps what the other keeps. -/
theorem FramesKept.of_frames {s t u : State} (h : FramesKept s t)
    (same : u.link.queue.map (·.frame) = t.link.queue.map (·.frame)) : FramesKept s u :=
  fun x bay draw hx => same ▸ h x bay draw hx

section
variable {s t : State} (h : FramesKept s t)
include h

theorem FramesKept.queueFrame (f : Frame) : FramesKept s (queueFrame f t) :=
  h.trans fun _ bay draw hx => enqueue_keeps _ bay draw hx

theorem FramesKept.queueBayState : FramesKept s (queueBayState t) := by
  refine h.trans fun x bay draw hx => ?_
  rw [queueBayState_link]
  split
  · exact hx
  · exact enqueue_keeps _ bay draw hx

theorem FramesKept.activityEvent (e : Activity) : FramesKept s (activityEvent e t) := by
  unfold Machine.activityEvent leaveQuiet
  (repeat' split)
  exacts [h, FramesKept.queueBayState h, h, h, h]

theorem FramesKept.raiseAlarm (a : Alarm) (l : BitVec 4) : FramesKept s (raiseAlarm a t l) := by
  have queued : FramesKept s (Machine.queueFrame (.alarm a true l) (t.mapSup fun p =>
      { p with active := withAlarm p.active a, latched := withAlarm p.latched a })) := FramesKept.queueFrame h _
  unfold Machine.raiseAlarm
  dsimp only
  (repeat' split)
  exacts [h, queued.queueBayState.activityEvent _, queued.activityEvent _]

theorem FramesKept.endAlarm (a : Alarm) : FramesKept s (endAlarm a t) := by
  unfold Machine.endAlarm
  split
  exacts [FramesKept.queueFrame h _, h]

theorem FramesKept.evaluateWatch : FramesKept s (evaluateWatch t) := by
  have moved (w : WatchState) : FramesKept s (t.mapSampling fun u => { u with watch := w }) := h
  unfold Machine.evaluateWatch
  (repeat' split)
  exacts [h, (moved _).raiseAlarm _ _, moved _, h, (moved _).endAlarm _]

theorem FramesKept.lineChanged (n : Nat) : FramesKept s (lineChanged n t) := by
  unfold Machine.lineChanged
  split
  exacts [h.evaluateWatch, h]

theorem FramesKept.examine : FramesKept s (examine t) := by
  unfold Machine.examine makeClaim
  dsimp only
  (repeat' split)
  · refine (FramesKept.of_frames h ?_ : FramesKept s _).trans fun _ bay draw hx => enqueue_keeps _ bay draw hx
    simp
  · refine (FramesKept.of_frames h ?_ : FramesKept s _).trans fun _ bay draw hx => enqueue_keeps _ bay draw hx
    simp
  · exact h
  · exact h

theorem FramesKept.contendAgain : FramesKept s (contendAgain t) := by
  unfold Machine.contendAgain
  split
  · exact FramesKept.examine h
  · exact h

theorem FramesKept.formUrgency : FramesKept s (formUrgency t) := by
  have formed : FramesKept s (t.mapDraw fun d => { d with urgency := presentUrgency t }) := h
  unfold Machine.formUrgency shortenBackoff
  dsimp only
  (repeat' split)
  exacts [h, formed.examine, formed.queueFrame _, formed.contendAgain, formed, formed, formed, formed, formed, formed]

theorem FramesKept.needArrives : FramesKept s (needArrives t) := by
  unfold Machine.needArrives
  dsimp only
  (repeat' split)
  exacts [h, FramesKept.examine h, h]

theorem FramesKept.needEnds : FramesKept s (needEnds t) := by
  have entered : FramesKept s ((t.mapDraw fun d => { d with need := false }).mapDraw (·.enter .idle)) := h
  unfold Machine.needEnds
  dsimp only
  (repeat' split)
  exacts [h, entered.queueFrame _, entered.queueFrame _, entered, entered, entered, h, h]

theorem FramesKept.updateLockouts : FramesKept s (updateLockouts t) := by
  have formed (c : Causes) (e : DrawState) :
      FramesKept s ((t.mapDraw fun d => { d with causes := c }).mapDraw (·.enter e)) := h
  unfold Machine.updateLockouts enterLocked
  dsimp only
  (repeat' split)
  exacts [h, (formed _ _).queueFrame _, (formed _ _).queueFrame _, h, h, h, h, h, FramesKept.contendAgain h, h]

theorem FramesKept.endFlowing (r : EndReason) : FramesKept s (endFlowing r t) := by
  unfold Machine.endFlowing
  split
  exacts [FramesKept.formUrgency h, h]

theorem FramesKept.dropForcedInlet : FramesKept s (dropForcedInlet t) := by
  unfold Machine.dropForcedInlet
  split
  exacts [FramesKept.needEnds h, h]

theorem FramesKept.leaveGas (g : GasState) : FramesKept s (leaveGas g t) := by
  unfold Machine.leaveGas
  split
  exacts [h.needEnds, h.endAlarm _, h, h, h, h, h]

theorem FramesKept.enterGas (g : GasState) : FramesKept s (enterGas g t) := by
  unfold Machine.enterGas
  split
  exacts [h.needArrives, h.dropForcedInlet.raiseAlarm _ _, h.dropForcedInlet, h, h, h, h]

theorem FramesKept.evaluateGas : FramesKept s (evaluateGas t) := by
  have moved : FramesKept s (t.mapGas (·.moveTo (decideGas t))) := h
  unfold Machine.evaluateGas moveGas
  split
  exacts [h, (moved.leaveGas _).enterGas _]

theorem FramesKept.withdrawWindow : FramesKept s (withdrawWindow t) := h

theorem FramesKept.enterSafe : FramesKept s (enterSafe t) := by
  have entered : FramesKept s (t.mapSup fun p => { p with station := .safe, quiet := false }) := h
  unfold Machine.enterSafe stationChanged
  exact (entered.queueBayState.withdrawWindow.endFlowing _).updateLockouts.formUrgency.evaluateGas

theorem FramesKept.jacketLimitTest (f : Int) : FramesKept s (jacketLimitTest f t) := by
  have moved (i : Bool) : FramesKept s (t.mapTemp fun v => { v with limitInForce := i }) := h
  unfold Machine.jacketLimitTest
  (repeat' split)
  exacts [(moved _).endAlarm _, h, (moved _).raiseAlarm _ _, h]

end

/-! ### Frames queued -/

/-- The frame of a raising joins a queue that has room (R188). -/
theorem raiseAlarm_queued {a : Alarm} {s : State} (l : BitVec 4) (loud : s.link.silent = false)
    (room : s.link.firmCount < 6) (fresh : hasAlarm s.sup.active a = false) :
    .alarm a true l ∈ (raiseAlarm a s l).link.queue.map (·.frame) := by
  have queued : .alarm a true l ∈ (queueFrame (.alarm a true l) (s.mapSup fun p =>
      { p with active := withAlarm p.active a, latched := withAlarm p.latched a })).link.queue.map (·.frame) :=
    enqueue_takes (f := { frame := .alarm a true l }) loud room
  have kept := FramesKept.refl (queueFrame (.alarm a true l) (s.mapSup fun p =>
      { p with active := withAlarm p.active a, latched := withAlarm p.latched a }))
  unfold raiseAlarm
  rw [if_neg (by simp [fresh])]
  dsimp only
  split
  · exact kept.queueBayState.activityEvent _ _ rfl rfl queued
  · exact kept.activityEvent _ _ rfl rfl queued

/-- The frame of a cause's end joins a queue that has room (R189). -/
theorem endAlarm_queued {a : Alarm} {s : State} (loud : s.link.silent = false) (room : s.link.firmCount < 6)
    (active : hasAlarm s.sup.active a = true) : .alarm a false 0#4 ∈ (endAlarm a s).link.queue.map (·.frame) := by
  unfold endAlarm
  rw [if_pos active]
  exact enqueue_takes (f := { frame := .alarm a false 0#4 }) loud room

/-- An alarm raised in `u`, which `s` leads to with at most three firm frames more, is raised from `s` to `t` (R188). -/
theorem Raised.of_raise {a : Alarm} {s u t : State} (active : hasAlarm u.sup.active a = hasAlarm s.sup.active a)
    (silent : u.link.silent = s.link.silent) (room : u.link.firmCount ≤ s.link.firmCount + 3)
    (stays : hasAlarm t.sup.active a = true)
    (latches : hasAlarm (raiseAlarm a u).sup.latched a = true → hasAlarm t.sup.latched a = true)
    (kept : FramesKept (raiseAlarm a u) t) : Raised a s t := by
  intro fresh
  have fresh' : hasAlarm u.sup.active a = false := active.trans fresh
  refine ⟨stays, latches (by simp [fresh']), fun loud short => ?_⟩
  have := s.link.firmCount_le_length
  exact kept _ rfl rfl (raiseAlarm_queued 0#4 (silent.trans loud) (by omega) fresh')

/-- A cause ended in `u`, which `s` leads to with at most three firm frames more, is ended from `s` to `t` (R189). -/
theorem Ended.of_end {a : Alarm} {s u t : State} (active : hasAlarm u.sup.active a = hasAlarm s.sup.active a)
    (silent : u.link.silent = s.link.silent) (room : u.link.firmCount ≤ s.link.firmCount + 3)
    (gone : hasAlarm t.sup.active a = false) (latched : hasAlarm t.sup.latched a = hasAlarm s.sup.latched a)
    (kept : FramesKept (endAlarm a u) t) : Ended a s t := by
  intro was
  refine ⟨gone, latched, fun loud short => ?_⟩
  have := s.link.firmCount_le_length
  exact kept _ rfl rfl (endAlarm_queued (silent.trans loud) (by omega) (active.trans was))

end Sys2Proof.Machine
end

section
/-! ## Delivered changes of the lines (R13, R15, R16, R182): O36 -/

namespace Sys2Proof.Machine

/-! ### The rows of the lines -/

theorem exec_auxLineChange (line : AuxLine) (s : State) :
    exec (.auxLineChange line) s = execAuxLineChange line s := by rfl
theorem exec_handlePress (s : State) : exec .handlePress s = execHandlePress s := by rfl
theorem exec_handleRelease (s : State) : exec .handleRelease s = execHandleRelease s := by rfl
theorem exec_extStopActive (s : State) : exec .extStopActive s = execExtStopActive s := by rfl
theorem exec_extStopInactive (s : State) : exec .extStopInactive s = execExtStopInactive s := by rfl

/-! ### The watch's evaluation -/

/-- What an evaluation of the watch can do: nothing, a raising as TRIPPED, or a cause end as ARMED (R16). -/
theorem evaluateWatch_cases (s : State) :
    evaluateWatch s = s ∨
      (∃ l, evaluateWatch s = raiseAlarm .watch (s.mapSampling fun u => { u with watch := .tripped }) l) ∨
      evaluateWatch s = endAlarm .watch (s.mapSampling fun u => { u with watch := .armed }) := by
  unfold evaluateWatch
  (repeat' split)
  exacts [.inl rfl, .inr (.inl ⟨_, rfl⟩), .inl rfl, .inl rfl, .inr (.inr rfl)]

/-! ### What queueing leaves of the link controller -/

/-- The reception side of the link and its drop count stand. -/
def ReceptionStands (s t : State) : Prop :=
  t.link.bus = s.link.bus ∧ t.link.rx = s.link.rx ∧ t.link.dropCount = s.link.dropCount

theorem ReceptionStands.refl (s : State) : ReceptionStands s s := ⟨rfl, rfl, rfl⟩

section
variable {s t : State} (h : ReceptionStands s t)
include h

theorem ReceptionStands.queueFrame (f : Frame) : ReceptionStands s (queueFrame f t) := by
  simpa [ReceptionStands, Machine.queueFrame] using h

theorem ReceptionStands.queueBayState : ReceptionStands s (queueBayState t) := by
  unfold ReceptionStands
  rw [queueBayState_link]
  split <;> simpa [ReceptionStands] using h

theorem ReceptionStands.activityEvent (e : Activity) : ReceptionStands s (activityEvent e t) := by
  unfold Machine.activityEvent leaveQuiet
  (repeat' split)
  exacts [h, ReceptionStands.queueBayState h, h, h, h]

theorem ReceptionStands.raiseAlarm (a : Alarm) (l : BitVec 4) : ReceptionStands s (raiseAlarm a t l) := by
  have queued : ReceptionStands s (Machine.queueFrame (.alarm a true l) (t.mapSup fun p =>
      { p with active := withAlarm p.active a, latched := withAlarm p.latched a })) := ReceptionStands.queueFrame h _
  unfold Machine.raiseAlarm
  dsimp only
  (repeat' split)
  exacts [h, queued.queueBayState.activityEvent _, queued.activityEvent _]

theorem ReceptionStands.endAlarm (a : Alarm) : ReceptionStands s (endAlarm a t) := by
  unfold Machine.endAlarm
  split
  exacts [ReceptionStands.queueFrame h _, h]

theorem ReceptionStands.evaluateWatch : ReceptionStands s (evaluateWatch t) := by
  have moved (w : WatchState) : ReceptionStands s (t.mapSampling fun u => { u with watch := w }) := h
  rcases evaluateWatch_cases t with e | ⟨l, e⟩ | e <;> rw [e]
  exacts [h, (moved _).raiseAlarm _ _, (moved _).endAlarm _]

theorem ReceptionStands.lineChanged (n : Nat) : ReceptionStands s (lineChanged n t) := by
  unfold Machine.lineChanged
  split
  exacts [h.evaluateWatch, h]

theorem ReceptionStands.makeClaim : ReceptionStands s (makeClaim t) := by
  unfold Machine.makeClaim
  dsimp only
  split <;> simpa [ReceptionStands] using h

theorem ReceptionStands.examine : ReceptionStands s (examine t) := by
  have limited : ReceptionStands s (t.mapDraw fun d => { d with limit := t.setup.drawLimit }) := h
  unfold Machine.examine
  dsimp only
  (repeat' split)
  exacts [limited.makeClaim, limited, h]

theorem ReceptionStands.contendAgain : ReceptionStands s (contendAgain t) := by
  unfold Machine.contendAgain enterWaiting
  split
  exacts [ReceptionStands.examine h, h]

theorem ReceptionStands.formUrgency : ReceptionStands s (formUrgency t) := by
  have formed : ReceptionStands s (t.mapDraw fun d => { d with urgency := presentUrgency t }) := h
  unfold Machine.formUrgency shortenBackoff
  dsimp only
  (repeat' split)
  exacts [h, formed.examine, formed.queueFrame _, formed.contendAgain, formed, formed, formed, formed, formed, formed]

theorem ReceptionStands.updateLockouts : ReceptionStands s (updateLockouts t) := by
  have formed (c : Causes) (e : DrawState) :
      ReceptionStands s ((t.mapDraw fun d => { d with causes := c }).mapDraw (·.enter e)) := h
  unfold Machine.updateLockouts enterLocked
  dsimp only
  (repeat' split)
  exacts [h, (formed _ _).queueFrame _, (formed _ _).queueFrame _, h, h, h, h, h, ReceptionStands.contendAgain h, h]

theorem ReceptionStands.endFlowing (r : EndReason) : ReceptionStands s (endFlowing r t) := by
  unfold Machine.endFlowing pourStateChanged
  split
  exacts [ReceptionStands.formUrgency h, h]

end

/-! ### The pour's end (R172) -/

/-- What the end of FLOWING does to the dispense unit (R164, R172). -/
theorem endFlowing_disp (r : EndReason) (s : State) :
    (endFlowing r s).disp =
      if s.disp.state = .flowing then
        { s.disp with
          state := .tailing, pour := s.disp.pour.map fun p => { p with reason := some r }, stallDelay := none,
          stallTimer := none, lowTimer := none, tailTimer := some 100 }
      else s.disp := by
  unfold endFlowing pourStateChanged
  split <;> simp [ms]

/-! ### The watch (R16) -/

/-- An evaluation of the watch that moves no alarm leaves the supervisor (R16). -/
theorem evaluateWatch_sup {s : State} (same : (evaluateWatch s).sup.active = s.sup.active) :
    (evaluateWatch s).sup = s.sup := by
  rcases evaluateWatch_cases s with e | ⟨l, e⟩ | e <;> rw [e] at same ⊢
  · have active : hasAlarm s.sup.active .watch = true := by
      have := congrArg (hasAlarm · .watch) same
      simpa using this
    rw [raiseAlarm_of_active l (by exact active)]
    rfl
  · rw [endAlarm_sup] at same ⊢
    exact congrArg (fun a => ({ s.sup with active := a } : Supervisor)) same

/-- A raising wakes at most, and leaves a report count and an idle count of 0 (R183, R188). -/
theorem raiseAlarm_awake {a : Alarm} {s : State} {l : BitVec 4} (awake : s.sup.quiet = false) :
    (raiseAlarm a s l).sup.quiet = false := by
  unfold raiseAlarm
  dsimp only
  (repeat' split)
  · exact awake
  all_goals
    rw [activityEvent_sup]
    (repeat' split) <;> simp [awake]

theorem raiseAlarm_idleCount {a : Alarm} {s : State} {l : BitVec 4} (zero : s.sup.idleCount = 0) :
    (raiseAlarm a s l).sup.idleCount = 0 := by
  unfold raiseAlarm
  dsimp only
  (repeat' split)
  · exact zero
  all_goals
    rw [activityEvent_sup]
    (repeat' split) <;> simp [zero]

theorem queueBayState_reportCount {s : State} (zero : s.link.reportCount = 0) :
    (queueBayState s).link.reportCount = 0 := by
  rw [queueBayState_link]
  split
  exacts [zero, rfl]

theorem activityEvent_reportCount {e : Activity} {s : State} (zero : s.link.reportCount = 0) :
    (activityEvent e s).link.reportCount = 0 := by
  unfold activityEvent leaveQuiet
  (repeat' split)
  exacts [zero, queueBayState_reportCount zero, zero, zero, zero]

theorem raiseAlarm_reportCount {a : Alarm} {s : State} {l : BitVec 4} (zero : s.link.reportCount = 0) :
    (raiseAlarm a s l).link.reportCount = 0 := by
  have queued : (queueFrame (.alarm a true l) (s.mapSup fun p =>
      { p with active := withAlarm p.active a, latched := withAlarm p.latched a })).link.reportCount = 0 := by
    simpa [queueFrame] using zero
  unfold raiseAlarm
  dsimp only
  (repeat' split)
  exacts [zero, activityEvent_reportCount (queueBayState_reportCount queued), activityEvent_reportCount queued]

theorem evaluateWatch_awake {s : State} (awake : s.sup.quiet = false) : (evaluateWatch s).sup.quiet = false := by
  rcases evaluateWatch_cases s with e | ⟨l, e⟩ | e <;> rw [e]
  exacts [awake, raiseAlarm_awake awake, by simpa using awake]

theorem evaluateWatch_idleCount {s : State} (zero : s.sup.idleCount = 0) : (evaluateWatch s).sup.idleCount = 0 := by
  rcases evaluateWatch_cases s with e | ⟨l, e⟩ | e <;> rw [e]
  exacts [zero, raiseAlarm_idleCount zero, by simpa using zero]

theorem endAlarm_reportCount (a : Alarm) (s : State) : (endAlarm a s).link.reportCount = s.link.reportCount := by
  unfold endAlarm
  split <;> simp [queueFrame]

theorem evaluateWatch_reportCount {s : State} (zero : s.link.reportCount = 0) :
    (evaluateWatch s).link.reportCount = 0 := by
  rcases evaluateWatch_cases s with e | ⟨l, e⟩ | e <;> rw [e]
  exacts [zero, raiseAlarm_reportCount zero, (endAlarm_reportCount _ _).trans zero]

end Sys2Proof.Machine
end

section
/-! ### What a delivered change leaves, and what the watch makes of it -/

namespace Sys2Proof.Machine

/-- Of the alarms only WATCH has moved, and the blocks that no auxiliary line reaches stand (R15, R16). -/
def OthersStand (s t : State) : Prop :=
  (∀ a : Alarm, a ≠ .watch →
    hasAlarm t.sup.active a = hasAlarm s.sup.active a ∧ hasAlarm t.sup.latched a = hasAlarm s.sup.latched a) ∧
  t.sup.station = s.sup.station ∧ t.gas = { s.gas with leak := t.gas.leak } ∧
  t.link.silent = s.link.silent ∧ t.link.bus = s.link.bus ∧ t.link.rx = s.link.rx ∧
  t.link.dropCount = s.link.dropCount ∧ t.seq = s.seq ∧ t.temp = s.temp ∧ t.cool = s.cool ∧ t.setup = s.setup ∧
  t.view = s.view ∧ t.time = s.time ∧ t.drivers = s.drivers ∧ t.ident = s.ident

/-- A watched line's change evaluates the watch; an unwatched line's moves neither it nor an alarm (R16). -/
def WatchFollows (line : Nat) (s t : State) : Prop :=
  (s.setup.watchSet.getLsbD line = true → (t.sampling.watch = .tripped ↔ watchMismatch t = true)) ∧
  (s.setup.watchSet.getLsbD line = false →
    t.sampling.watch = s.sampling.watch ∧ t.sup.active = s.sup.active ∧ t.sup.latched = s.sup.latched)

/-- The leak check's own update is the only one of the regulator's (R142). -/
theorem updateLeak_leakOnly {s t : State} (h : t.gas = { s.gas with leak := t.gas.leak }) :
    (updateLeak t).gas = { s.gas with leak := (updateLeak t).gas.leak } := by
  have follows (l : LeakCheck) : { t.gas with leak := l } = { s.gas with leak := l } := by rw [h]
  exact follows _

/-- The watch's part of a line's change leaves the others. -/
theorem OthersStand.lineChanged {s t : State} (n : Nat) (h : OthersStand s t) :
    OthersStand s (updateLeak (lineChanged n t)) := by
  obtain ⟨alarms, station, gas, silent, bus, rx, drops, rest⟩ := h
  obtain ⟨bus', rx', drops'⟩ := (ReceptionStands.refl t).lineChanged n
  refine ⟨fun a ha => ?_, ?_, ?_, ?_, ?_, ?_, ?_, ?_⟩
  · simpa [ha] using alarms a ha
  · simpa using station
  · exact updateLeak_leakOnly (by simpa using gas)
  · simpa using silent
  · simpa using bus'.trans bus
  · simpa using rx'.trans rx
  · simpa using drops'.trans drops
  · simpa using rest

theorem lineChanged_sampling (n : Nat) (s : State) :
    (lineChanged n s).sampling = { s.sampling with watch := (lineChanged n s).sampling.watch } := by
  unfold lineChanged
  split
  · exact evaluateWatch_sampling s
  · rfl

/-- The watch follows a line's change from the state in which the change has been taken (R16). -/
theorem watchFollows_lineChanged {n : Nat} {s t : State} (taken : t.sampling.levelsTaken = true)
    (setup : t.setup = s.setup) (watch : t.sampling.watch = s.sampling.watch) (active : t.sup.active = s.sup.active)
    (latched : t.sup.latched = s.sup.latched) : WatchFollows n s (updateLeak (lineChanged n t)) := by
  refine ⟨fun watched => ?_, fun unwatched => ?_⟩
  · have evaluated : lineChanged n t = evaluateWatch t := if_pos (setup ▸ watched)
    have lines : lineLevels (evaluateWatch t).sampling = lineLevels t.sampling := by
      rw [evaluateWatch_sampling]
      rfl
    rw [evaluated]
    exact (evaluateWatch_tripped taken).trans (by rw [← watchMismatch_congr lines (by simp)]; rfl)
  · have quiet : lineChanged n t = t := if_neg (by simp [setup, unwatched])
    rw [quiet]
    exact ⟨watch, active, latched⟩

/-! ### KEG_PRESENT, LID_CLOSED, DRIP_FULL (R15) -/

theorem exec_kegPresent {s : State} (up : s.held = false) (h : s.sampling.keg.undelivered = true) :
    exec (.auxLineChange .kegPresent) s = .next (updateLeak (changeKeg s)) := by
  rw [exec_auxLineChange, execAuxLineChange, perform_running _ up]
  simp only [h, if_true]

theorem exec_lidClosed {s : State} (up : s.held = false) (h : s.sampling.lid.undelivered = true) :
    exec (.auxLineChange .lidClosed) s = .next (updateLeak (changeLid s)) := by
  rw [exec_auxLineChange, execAuxLineChange, perform_running _ up]
  simp only [h, if_true]

theorem exec_dripFull {s : State} (up : s.held = false) (h : s.sampling.drip.undelivered = true) :
    exec (.auxLineChange .dripFull) s = .next (updateLeak (changeDrip s)) := by
  rw [exec_auxLineChange, execAuxLineChange, perform_running _ up]
  simp only [h, if_true]

/-- KEG_PRESENT's change taken, and a pour ended where the keg is gone (R15, R172). -/
def kegTaken (s : State) : State :=
  if s.sampling.keg.active then s.mapSampling fun u => { u with keg := u.keg.deliver }
  else endFlowing .noKeg (s.mapSampling fun u => { u with keg := u.keg.deliver })

theorem changeKeg_eq (s : State) : changeKeg s = lineChanged 0 (updateLockouts (kegTaken s)) := rfl

theorem kegTaken_sampling (s : State) :
    (kegTaken s).sampling = { s.sampling with keg := { s.sampling.keg with undelivered := false } } := by
  unfold kegTaken
  split <;> simp [Switch.deliver]

theorem kegTaken_sup (s : State) : (kegTaken s).sup = s.sup := by
  unfold kegTaken
  split <;> simp

theorem kegTaken_setup (s : State) : (kegTaken s).setup = s.setup := by
  unfold kegTaken
  split <;> simp

theorem kegTaken_disp_of_gone {s : State} (gone : s.sampling.keg.active = false) :
    (kegTaken s).disp = (endFlowing .noKeg s).disp := by
  rw [kegTaken, if_neg (by simp [gone]), endFlowing_disp, endFlowing_disp]
  rfl

theorem kegTaken_disp_stands {s : State} (h : s.sampling.keg.active = true ∨ s.disp.state ≠ .flowing) :
    (kegTaken s).disp = s.disp := by
  unfold kegTaken
  split
  · rfl
  · next gone =>
    rw [endFlowing_disp]
    exact if_neg (h.resolve_left gone)

theorem kegTaken_others (s : State) : OthersStand s (updateLockouts (kegTaken s)) := by
  have reception : ReceptionStands s (updateLockouts (kegTaken s)) := by
    refine ReceptionStands.updateLockouts ?_
    have delivered : ReceptionStands s (s.mapSampling fun u => { u with keg := u.keg.deliver }) := .refl s
    unfold kegTaken
    split
    exacts [delivered, delivered.endFlowing _]
  obtain ⟨bus, rx, drops⟩ := reception
  refine ⟨fun a _ => ?_, ?_, ?_, ?_, bus, rx, drops, ?_⟩
  case refine_1 | refine_2 => simp [kegTaken_sup]
  all_goals
    unfold kegTaken
    split <;> simp

/-- A removed keg locks the coordinator (R160). -/
theorem kegTaken_locked {s : State} (taken : s.sampling.levelsTaken = true) (gone : s.sampling.keg.active = false) :
    (updateLockouts (kegTaken s)).draw.state = .locked :=
  updateLockouts_locked (Causes.any_of_keg (by simp [formCauses, kegTaken_sampling, taken, gone]))

/-- LID_CLOSED's change taken, with the activity event of an opened lid (R15). -/
def lidTaken (s : State) : State :=
  if s.sampling.lid.active then s.mapSampling fun u => { u with lid := u.lid.deliver }
  else activityEvent .lid (s.mapSampling fun u => { u with lid := u.lid.deliver })

theorem changeLid_eq (s : State) : changeLid s = lineChanged 1 (lidTaken s) := rfl

theorem lidTaken_frame (s : State) :
    (lidTaken s).sampling = { s.sampling with lid := { s.sampling.lid with undelivered := false } } ∧
      (lidTaken s).setup = s.setup ∧ (lidTaken s).draw = s.draw ∧ (lidTaken s).disp = s.disp ∧
      (lidTaken s).sup.active = s.sup.active ∧ (lidTaken s).sup.latched = s.sup.latched := by
  unfold lidTaken
  split <;> simp [Switch.deliver]

theorem lidTaken_others (s : State) : OthersStand s (lidTaken s) := by
  have reception : ReceptionStands s (lidTaken s) := by
    have delivered : ReceptionStands s (s.mapSampling fun u => { u with lid := u.lid.deliver }) := .refl s
    unfold lidTaken
    split
    exacts [delivered, delivered.activityEvent _]
  obtain ⟨bus, rx, drops⟩ := reception
  refine ⟨fun a _ => ?_, ?_, ?_, ?_, bus, rx, drops, ?_⟩
  all_goals
    unfold lidTaken
    split <;> simp

/-- A closed lid, and any lid outside RUN, is no activity (R15, R183). -/
theorem lidTaken_sup_stands {s : State} (h : s.sampling.lid.active = true ∨ s.sup.station ≠ .run) :
    (lidTaken s).sup = s.sup := by
  unfold lidTaken
  split
  · rfl
  · next opened =>
    rw [activityEvent_outside_run _ (by exact h.resolve_left opened)]
    rfl

/-- What an opened lid does to the supervisor in RUN (R15, R183). -/
theorem lidTaken_sup {s : State} (opened : s.sampling.lid.active = false) (run : s.sup.station = .run) :
    (lidTaken s).sup =
      if s.sup.quiet then
        if s.setup.wakeSet.getLsbD 4 then { s.sup with quiet := false, idleCount := 0 } else s.sup
      else if s.setup.activitySet.getLsbD 4 then { s.sup with idleCount := 0 } else s.sup := by
  simp [lidTaken, opened, activityEvent_sup, run, Activity.code]

theorem lidTaken_reportCount {s : State} (opened : s.sampling.lid.active = false) (run : s.sup.station = .run)
    (quiet : s.sup.quiet = true) (wakes : s.setup.wakeSet.getLsbD 4 = true) (loud : s.link.silent = false) :
    (lidTaken s).link.reportCount = 0 := by
  simp [lidTaken, opened, activityEvent, run, quiet, Activity.code, wakes, leaveQuiet, queueBayState_link, loud]

theorem lineChanged_awake {n : Nat} {s : State} (awake : s.sup.quiet = false) : (lineChanged n s).sup.quiet = false := by
  unfold lineChanged
  split
  exacts [evaluateWatch_awake awake, awake]

theorem lineChanged_idleCount {n : Nat} {s : State} (zero : s.sup.idleCount = 0) :
    (lineChanged n s).sup.idleCount = 0 := by
  unfold lineChanged
  split
  exacts [evaluateWatch_idleCount zero, zero]

theorem lineChanged_reportCount {n : Nat} {s : State} (zero : s.link.reportCount = 0) :
    (lineChanged n s).link.reportCount = 0 := by
  unfold lineChanged
  split
  exacts [evaluateWatch_reportCount zero, zero]

theorem lineChanged_sup {n : Nat} {s : State} (same : (lineChanged n s).sup.active = s.sup.active) :
    (lineChanged n s).sup = s.sup := by
  unfold lineChanged at same ⊢
  split
  · next watched => exact evaluateWatch_sup (by rwa [if_pos watched] at same)
  · rfl

/-- DRIP_FULL's change taken: nothing but the delivery (R15). -/
def dripTaken (s : State) : State := s.mapSampling fun u => { u with drip := u.drip.deliver }

theorem dripTaken_others (s : State) : OthersStand s (dripTaken s) := by simp [OthersStand, dripTaken]

/-! ### EXT_STOP (R182) -/

theorem exec_stopActive {s : State} (up : s.held = false) (active : s.sampling.ext.active = true)
    (h : s.sampling.ext.undelivered = true) : exec .extStopActive s = .next (updateLeak (stopLineActive s)) := by
  rw [exec_extStopActive, execExtStopActive, perform_running _ up]
  simp [Switch.changedTo, active, h]

theorem exec_stopInactive {s : State} (up : s.held = false) (inactive : s.sampling.ext.active = false)
    (h : s.sampling.ext.undelivered = true) : exec .extStopInactive s = .next (updateLeak (stopLineInactive s)) := by
  rw [exec_extStopInactive, execExtStopInactive, perform_running _ up]
  simp [Switch.changedTo, inactive, h]

/-! ### The entry to SAFE (R192) -/

/-- Entering and leaving a state of the regulator moves nothing of its own. -/
theorem moveGas_gas (new : GasState) (s : State) :
    (moveGas new s).gas = if new = s.gas.state then s.gas else s.gas.moveTo new := by
  unfold moveGas
  split <;> simp

theorem evaluateGas_state (s : State) : (evaluateGas s).gas.state = decideGas s := by
  rw [evaluateGas, moveGas_gas]
  split
  · next h => exact h.symm
  · rfl

/-- In SAFE the regulator rests or vents for safety (R130, R192). -/
theorem decideGas_in_safe {s : State} (safe : s.sup.station = .safe) :
    decideGas s = .rest ∨ decideGas s = .relief ∨ decideGas s = .sensorVent := by
  have off : enabledMode s = none := by simp [enabledMode, safe]
  unfold decideGas
  (repeat' split) <;> simp_all

end Sys2Proof.Machine
end

section
/-! ### EXT_STOP's rows step by step (R182, R192) -/

namespace Sys2Proof.Machine

/-- The evaluation of the regulation state wakes at most, and leaves a refused LEAVE_SAFE as it is. -/
theorem evaluateGas_awake {s : State} (awake : s.sup.quiet = false) : (evaluateGas s).sup.quiet = false := by
  have left (g : GasState) (x : State) : (leaveGas g x).sup.quiet = x.sup.quiet := by cases g <;> simp [leaveGas]
  have entered (g : GasState) {x : State} (h : x.sup.quiet = false) : (enterGas g x).sup.quiet = false := by
    cases g
    case relief => exact raiseAlarm_awake (by simpa using h)
    all_goals simpa [enterGas] using h
  unfold evaluateGas moveGas
  split
  · exact awake
  · exact entered _ ((left _ _).trans awake)

@[simp] theorem evaluateGas_leaveSafeRefused (s : State) :
    (evaluateGas s).sup.leaveSafeRefused = s.sup.leaveSafeRefused := by
  unfold evaluateGas moveGas leaveGas enterGas
  (repeat' split) <;> simp

@[simp] theorem lineChanged_leaveSafeRefused (n : Nat) (s : State) :
    (lineChanged n s).sup.leaveSafeRefused = s.sup.leaveSafeRefused := by
  unfold lineChanged
  split
  · rcases evaluateWatch_cases s with e | ⟨l, e⟩ | e <;> simp [e]
  · rfl

/-- The entry to SAFE up to the evaluation of the regulation state (R192). -/
def safeEntered (s : State) : State :=
  formUrgency (updateLockouts (endFlowing .stopped (withdrawWindow
    (queueBayState (s.mapSup fun p => { p with station := .safe, quiet := false })))))

theorem enterSafe_eq (s : State) : enterSafe s = evaluateGas (safeEntered s) := rfl

@[simp] theorem safeEntered_sup (s : State) : (safeEntered s).sup = { s.sup with station := .safe, quiet := false } := by
  simp [safeEntered]

@[simp] theorem enterSafe_station (s : State) : (enterSafe s).sup.station = .safe := by simp [enterSafe_eq]

@[simp] theorem enterSafe_awake (s : State) : (enterSafe s).sup.quiet = false := evaluateGas_awake (by simp)

@[simp] theorem enterSafe_leaveSafeRefused (s : State) : (enterSafe s).sup.leaveSafeRefused = s.sup.leaveSafeRefused := by
  simp [enterSafe_eq]

/-- The entry to SAFE moves no alarm but OVERPRESSURE (R192). -/
@[simp] theorem enterSafe_otherAlarms {a : Alarm} (h : a ≠ .overpressure) (s : State) :
    hasAlarm (enterSafe s).sup.active a = hasAlarm s.sup.active a ∧
      hasAlarm (enterSafe s).sup.latched a = hasAlarm s.sup.latched a := by
  simp [enterSafe_eq, h]

/-- The entry to SAFE withdraws the window's outputs (R192). -/
theorem enterSafe_window (s : State) :
    (enterSafe s).temp.onTimer = none ∧ (enterSafe s).temp.heaterDuty = 0 ∧ (enterSafe s).temp.lastDemand = 0 ∧
      (enterSafe s).cool.openTimer = none ∧ (enterSafe s).cool.demandUnits = 0 := by
  simp [enterSafe_eq, safeEntered, withdrawWindow]

/-- The entry to SAFE ends a pour (R192). -/
theorem enterSafe_disp (s : State) : (enterSafe s).disp = (endFlowing .stopped s).disp := by
  simp [enterSafe_eq, safeEntered, endFlowing_disp]

theorem endFlowing_not_flowing (r : EndReason) (s : State) : (endFlowing r s).disp.state ≠ .flowing := by
  rw [endFlowing_disp]
  split
  · simp
  · assumption

/-- The regulation state after the entry to SAFE (R192). -/
theorem enterSafe_gas (s : State) :
    (enterSafe s).gas.state = .rest ∨ (enterSafe s).gas.state = .relief ∨ (enterSafe s).gas.state = .sensorVent := by
  rw [enterSafe_eq, evaluateGas_state]
  exact decideGas_in_safe (by simp)

/-- In SAFE INLET, TAP, GLYCOL and HEATER are off (R20). -/
theorem pins_off_in_safe {s : State} (safe : s.sup.station = .safe) :
    inletPin s = false ∧ tapPin s = false ∧ glycolPin s = false ∧ heaterPin s = false := by
  simp [inletPin, tapPin, glycolPin, heaterPin, safe]

/-! ### The change to active -/

/-- A change of EXT_STOP that a LEAVE_SAFE has found taken, which raises no alarm (R193, notes/assumptions/8.md). -/
def stopSilenced (s : State) : Bool := s.sup.station = .safe && s.sup.leaveSafeRefused

/-- EXT_STOP's change delivered. -/
def stopDelivered (s : State) : State :=
  (s.mapSampling fun u => { u with ext := u.ext.deliver }).mapSup fun p => { p with leaveSafeRefused := false }

/-- EXT_STOP's change taken, with its alarm (R15, R187). -/
def stopRaised (s : State) : State :=
  if stopSilenced s then stopDelivered s else raiseAlarm .extStop (stopDelivered s)

/-- And with the entry to SAFE from RUN (R192). -/
def stopEntered (s : State) : State := if s.sup.station = .run then enterSafe (stopRaised s) else stopRaised s

@[simp] theorem stopRaised_station (s : State) : (stopRaised s).sup.station = s.sup.station := by
  unfold stopRaised
  split <;> simp [stopDelivered]

theorem stopLineActive_eq (s : State) : stopLineActive s = lineChanged 3 (stopEntered s) := by
  rw [stopEntered, ← stopRaised_station s]
  rfl

theorem stopRaised_frame (s : State) :
    (stopRaised s).sampling = { s.sampling with ext := { s.sampling.ext with undelivered := false } } ∧
      (stopRaised s).setup = s.setup ∧ (stopRaised s).seq = s.seq ∧ (stopRaised s).view = s.view ∧
      (stopRaised s).time = s.time ∧ (stopRaised s).temp = s.temp ∧ (stopRaised s).cool = s.cool ∧
      (stopRaised s).disp = s.disp ∧ (stopRaised s).draw = s.draw ∧ (stopRaised s).gas = s.gas ∧
      (stopRaised s).drivers = s.drivers ∧ (stopRaised s).sup.leaveSafeRefused = false := by
  unfold stopRaised
  split <;> simp [stopDelivered, Switch.deliver]

theorem stopRaised_otherAlarms {a : Alarm} (h : a ≠ .extStop) (s : State) :
    hasAlarm (stopRaised s).sup.active a = hasAlarm s.sup.active a ∧
      hasAlarm (stopRaised s).sup.latched a = hasAlarm s.sup.latched a := by
  unfold stopRaised
  split <;> simp [stopDelivered, h]

/-- The entry to SAFE, if any, leaves EXT_STOP's alarm. -/
theorem stopEntered_extStop (s : State) :
    hasAlarm (stopEntered s).sup.active .extStop = hasAlarm (stopRaised s).sup.active .extStop ∧
      hasAlarm (stopEntered s).sup.latched .extStop = hasAlarm (stopRaised s).sup.latched .extStop := by
  unfold stopEntered
  split <;> simp

theorem stopEntered_frame (s : State) :
    (stopEntered s).sampling = (stopRaised s).sampling ∧ (stopEntered s).setup = s.setup ∧
      (stopEntered s).seq = s.seq ∧ (stopEntered s).view = s.view ∧ (stopEntered s).time = s.time ∧
      (stopEntered s).disp.level = s.disp.level ∧ (stopEntered s).disp.log = s.disp.log ∧
      (stopEntered s).sup.leaveSafeRefused = false := by
  obtain ⟨-, setup, seq, view, time, -, -, disp, -, -, -, refused⟩ := stopRaised_frame s
  unfold stopEntered
  split
  · simp [*]
  · simp [*]

/-- The alarm that the change to active raises (R15, R187). -/
theorem stopLineActive_raised {s : State} (heard : stopSilenced s = false) :
    Raised .extStop s (updateLeak (stopLineActive s)) := by
  have raised : stopRaised s = raiseAlarm .extStop (stopDelivered s) := by simp [stopRaised, heard]
  have kept : FramesKept (stopRaised s) (stopEntered s) := by
    unfold stopEntered
    split
    exacts [(FramesKept.refl _).enterSafe, .refl _]
  obtain ⟨active, latched⟩ := stopEntered_extStop s
  rw [stopLineActive_eq]
  refine Raised.of_raise (u := stopDelivered s) rfl rfl (Nat.le_add_right _ _) ?_ (fun h => ?_)
    (raised ▸ kept.lineChanged 3)
  · simp [active, raised]
  · simpa [latched, raised] using h

/-! ### The change to inactive -/

/-- EXT_STOP's change to inactive delivered, with the end of its alarm's cause (R189). -/
def stopCleared (s : State) : State := endAlarm .extStop (s.mapSampling fun u => { u with ext := u.ext.deliver })

theorem stopLineInactive_eq (s : State) : stopLineInactive s = lineChanged 3 (stopCleared s) := rfl

theorem stopCleared_sampling (s : State) :
    (stopCleared s).sampling = { s.sampling with ext := { s.sampling.ext with undelivered := false } } := by
  simp [stopCleared, Switch.deliver]

theorem stopLineInactive_ended (s : State) : Ended .extStop s (updateLeak (stopLineInactive s)) := by
  rw [stopLineInactive_eq]
  refine Ended.of_end (u := s.mapSampling fun u => { u with ext := u.ext.deliver }) rfl rfl (Nat.le_add_right _ _) ?_ ?_
    ((FramesKept.refl (stopCleared s)).lineChanged 3)
  · simp [stopCleared]
  · simp [stopCleared]

end Sys2Proof.Machine
end

section
/-! ### O36 -/

namespace Sys2Proof.Machine

/-- Without a change to deliver every row of the lines leaves the part to the leak check (R15). -/
theorem lineRows_idle {s : State} (up : s.held = false) (none : s.sampling.undelivered = false) :
    (∀ line, exec (.auxLineChange line) s = .next (updateLeak s)) ∧
      exec .handlePress s = .next (updateLeak s) ∧ exec .handleRelease s = .next (updateLeak s) ∧
      exec .extStopActive s = .next (updateLeak s) ∧ exec .extStopInactive s = .next (updateLeak s) := by
  simp only [Sampling.undelivered, Bool.or_eq_false_iff] at none
  obtain ⟨⟨⟨⟨handle, keg⟩, lid⟩, drip⟩, ext⟩ := none
  refine ⟨fun line => ?_, ?_, ?_, ?_, ?_⟩
  · rw [exec_auxLineChange, execAuxLineChange, perform_running _ up]
    cases line <;> simp [keg, lid, drip]
  · rw [exec_handlePress]
    exact perform_idle _ up (by simp [Switch.changedTo, handle])
  · rw [exec_handleRelease]
    exact perform_idle _ up (by simp [Switch.changedTo, handle])
  · rw [exec_extStopActive]
    exact perform_idle _ up (by simp [Switch.changedTo, ext])
  · rw [exec_extStopInactive]
    exact perform_idle _ up (by simp [Switch.changedTo, ext])

/-- Settles O36: each row is its delivery, the block's effect, and the watch's part, in this order. -/
theorem lineChanges : Obligations.LineChanges := by
  refine ⟨fun s up taken => ⟨fun h => ?_, fun h => ?_, fun h => ?_⟩,
    fun s up => ⟨fun active h => ?_, fun inactive h => ?_, lineRows_idle up⟩⟩
  · refine ⟨_, exec_kegPresent up h, ?_, ?_, fun gone => ?_, fun gone flowing => ?_, fun stands => ?_, ?_, ?_⟩ <;>
      rw [changeKeg_eq]
    · simpa [kegTaken_sampling] using lineChanged_sampling 0 (updateLockouts (kegTaken s))
    · simp [formCauses, kegTaken_sampling, taken]
    · simpa using kegTaken_locked taken gone
    · simp [kegTaken_disp_of_gone gone, endFlowing_disp, flowing]
    · simpa using kegTaken_disp_stands stands
    · exact watchFollows_lineChanged (by simp [kegTaken_sampling, taken]) (by simp [kegTaken_setup])
        (by simp [kegTaken_sampling]) (by simp [kegTaken_sup]) (by simp [kegTaken_sup])
    · exact (kegTaken_others s).lineChanged 0
  · obtain ⟨sampling, setup, draw, disp, alarms, latches⟩ := lidTaken_frame s
    refine ⟨_, exec_lidClosed up h, ?_,
      fun opened run => ⟨fun awake acts => ?_, fun quiet wakes => ⟨?_, ?_, fun loud => ?_⟩, fun same idle => ?_⟩,
      fun stands same => ?_, ?_, ?_, ?_, ?_⟩ <;> rw [changeLid_eq] at *
    · simpa [sampling] using lineChanged_sampling 1 (lidTaken s)
    · exact lineChanged_idleCount (by simp [lidTaken_sup opened run, awake, acts])
    · exact lineChanged_awake (by simp [lidTaken_sup opened run, quiet, wakes])
    · exact lineChanged_idleCount (by simp [lidTaken_sup opened run, quiet, wakes])
    · exact lineChanged_reportCount (lidTaken_reportCount opened run quiet wakes loud)
    · have unmoved : (lidTaken s).sup = s.sup := by
        rw [lidTaken_sup opened run]
        rcases idle with ⟨awake, acts⟩ | ⟨quiet, wakes⟩
        · rw [if_neg (by simp [awake]), if_neg (ne_true_of_eq_false acts)]
        · rw [if_pos quiet, if_neg (ne_true_of_eq_false wakes)]
      exact (lineChanged_sup (same.trans alarms.symm)).trans unmoved
    · exact (lineChanged_sup (same.trans alarms.symm)).trans (lidTaken_sup_stands stands)
    · exact watchFollows_lineChanged (by simp [sampling, taken]) setup (by simp [sampling]) alarms latches
    · exact (lidTaken_others s).lineChanged 1
    · simpa using draw
    · simpa using disp
  · refine ⟨_, exec_dripFull up h, lineChanged_sampling 2 (dripTaken s), ?_, (dripTaken_others s).lineChanged 2, ?_, ?_⟩
    · exact watchFollows_lineChanged (t := dripTaken s) taken rfl rfl rfl rfl
    · simp [changeDrip]
    · simp [changeDrip]
  · obtain ⟨sampling, -, -, -, -, temp, cool, disp, draw, gas, drivers, -⟩ := stopRaised_frame s
    obtain ⟨sampling', setup, seq, view, time, level, log, refused⟩ := stopEntered_frame s
    obtain ⟨activeStands, latchStands⟩ := stopEntered_extStop s
    refine ⟨_, exec_stopActive up active h, ?_, ?_, fun heard => ?_, fun safe found => ?_,
      fun run => ?_, fun out => ?_, ?_⟩
    · rw [stopLineActive_eq]
      simpa [sampling, sampling'] using lineChanged_sampling 3 (stopEntered s)
    · simp [stopLineActive_eq, refused]
    · have heard' : stopSilenced s = false := by simpa [stopSilenced, ← imp_iff_not_or] using heard
      refine ⟨?_, stopLineActive_raised heard', fun fresh => (stopLineActive_raised heard' fresh).2.1⟩
      simp [stopLineActive_eq, activeStands, stopRaised, heard']
    · have silenced : stopSilenced s = true := by simp [stopSilenced, safe, found]
      simp [stopLineActive_eq, activeStands, latchStands, stopRaised, silenced, stopDelivered]
    · have entered : stopEntered s = enterSafe (stopRaised s) := if_pos run
      have safe : (updateLeak (stopLineActive s)).sup.station = .safe := by simp [stopLineActive_eq, entered]
      obtain ⟨onTimer, duty, demand, openTimer, units⟩ := enterSafe_window (stopRaised s)
      refine ⟨safe, ?_, ?_, ?_, ?_, ?_, ?_, ?_, ?_, pins_off_in_safe safe⟩ <;> rw [stopLineActive_eq, entered]
      · exact lineChanged_awake (enterSafe_awake _)
      · simpa using onTimer
      · simpa using duty
      · simpa using demand
      · simpa using openTimer
      · simpa using units
      · simpa [enterSafe_disp] using endFlowing_not_flowing .stopped (stopRaised s)
      · simpa using enterSafe_gas (stopRaised s)
    · have stays : stopEntered s = stopRaised s := if_neg out
      rw [stopLineActive_eq, stays]
      refine ⟨by simp, fun a watch ext => ?_, by simpa using temp, by simpa using cool, by simpa using disp,
        by simpa using draw, updateLeak_leakOnly (by simp [gas]), by simpa using drivers⟩
      simpa [watch] using stopRaised_otherAlarms ext s
    · simp [stopLineActive_eq, *]
  · refine ⟨_, exec_stopInactive up inactive h, ?_, fun a watch ext => ?_, stopLineInactive_ended s, ?_⟩
    · rw [stopLineInactive_eq]
      simpa [stopCleared_sampling] using lineChanged_sampling 3 (stopCleared s)
    · simp [stopLineInactive_eq, stopCleared, watch, ext]
    · refine ⟨?_, ?_, updateLeak_leakOnly ?_, ?_⟩
      all_goals simp [stopLineInactive_eq, stopCleared]

end Sys2Proof.Machine
end

section
/-! ## The 1 s event (R6, R7, R103, R106, R142, R38): O27

What the event may queue before each raising and cause end, what it tells of with a BAY_STATE, and the two samples. -/

namespace Sys2Proof.Machine

/-! ### Firm frames queued (R28 to R30) -/

theorem queueFrame_firmCount (f : Frame) (s : State) : (queueFrame f s).link.firmCount ≤ s.link.firmCount + 1 := by
  refine (enqueue_firmCount _ _).trans (Nat.add_le_add_left ?_ _)
  split <;> simp

/-- A BAY_STATE that waits is not firm: eviction takes it (R30). -/
theorem queueBayState_firmCount (s : State) : (queueBayState s).link.firmCount ≤ s.link.firmCount := by
  rw [queueBayState_link]
  split
  · exact Nat.le_refl _
  · exact enqueue_firmCount _ _

theorem activityEvent_firmCount (e : Activity) (s : State) :
    (activityEvent e s).link.firmCount ≤ s.link.firmCount := by
  unfold activityEvent leaveQuiet
  (repeat' split)
  exacts [Nat.le_refl _, queueBayState_firmCount _, Nat.le_refl _, Nat.le_refl _, Nat.le_refl _]

theorem raiseAlarm_firmCount (a : Alarm) (s : State) (l : BitVec 4) :
    (raiseAlarm a s l).link.firmCount ≤ s.link.firmCount + 1 := by
  have queued : (queueFrame (.alarm a true l) (s.mapSup fun p =>
      { p with active := withAlarm p.active a, latched := withAlarm p.latched a })).link.firmCount ≤
        s.link.firmCount + 1 := queueFrame_firmCount _ _
  unfold raiseAlarm
  dsimp only
  (repeat' split)
  · exact Nat.le_add_right _ _
  · exact (activityEvent_firmCount _ _).trans ((queueBayState_firmCount _).trans queued)
  · exact (activityEvent_firmCount _ _).trans queued

theorem endAlarm_firmCount (a : Alarm) (s : State) : (endAlarm a s).link.firmCount ≤ s.link.firmCount + 1 := by
  unfold endAlarm
  split
  · exact queueFrame_firmCount _ _
  · exact Nat.le_add_right _ _

theorem makeClaim_firmCount (s : State) : (makeClaim s).link.firmCount ≤ s.link.firmCount + 1 := by
  have unlived : ({ s.link with queue := s.link.queue.map fun q => { q with liveClaim := false } } : Link).firmCount =
      s.link.firmCount := by
    simp only [Link.firmCount, List.countP_map]
    rfl
  have claimed := enqueue_firmCount { frame := .draw .claim s.draw.urgency s.draw.supplyWeak, liveClaim := true }
    { s.link with queue := s.link.queue.map fun q => { q with liveClaim := false } }
  rw [unlived] at claimed
  unfold makeClaim
  dsimp only
  split <;> exact claimed

theorem examine_firmCount (s : State) : (examine s).link.firmCount ≤ s.link.firmCount + 1 := by
  unfold examine
  dsimp only
  (repeat' split)
  · exact makeClaim_firmCount _
  · exact Nat.le_add_right _ _
  · exact Nat.le_add_right _ _

theorem contendAgain_firmCount (s : State) : (contendAgain s).link.firmCount ≤ s.link.firmCount + 1 := by
  unfold contendAgain
  split
  · exact examine_firmCount _
  · exact Nat.le_add_right _ _

theorem formUrgency_firmCount (s : State) : (formUrgency s).link.firmCount ≤ s.link.firmCount + 1 := by
  unfold formUrgency shortenBackoff
  dsimp only
  have stands : s.link.firmCount ≤ s.link.firmCount + 1 := Nat.le_add_right _ _
  (repeat' split)
  exacts [stands, examine_firmCount _, queueFrame_firmCount _ _, contendAgain_firmCount _, stands, stands, stands, stands,
    stands, stands]

theorem endFlowing_firmCount (r : EndReason) (s : State) :
    (endFlowing r s).link.firmCount ≤ s.link.firmCount + 1 := by
  unfold endFlowing pourStateChanged
  split
  · exact formUrgency_firmCount _
  · exact Nat.le_add_right _ _

/-! ### What a BAY_STATE tells of (R38, R39) -/

/-- The report count stands, with the latched set and QUIET, of which a BAY_STATE would tell. -/
def ReportStands (s t : State) : Prop :=
  t.sup.latched = s.sup.latched ∧ t.sup.quiet = s.sup.quiet ∧ t.link.silent = s.link.silent ∧
    t.link.reportCount = s.link.reportCount ∧ t.link.reportBegunNow = s.link.reportBegunNow

theorem ReportStands.refl (s : State) : ReportStands s s := ⟨rfl, rfl, rfl, rfl, rfl⟩

section
variable {s t : State} (h : ReportStands s t)
include h

theorem ReportStands.queueFrame (f : Frame) : ReportStands s (queueFrame f t) := by
  simpa [ReportStands, Machine.queueFrame] using h

theorem ReportStands.endAlarm (a : Alarm) : ReportStands s (endAlarm a t) := by
  unfold Machine.endAlarm
  split
  exacts [ReportStands.queueFrame h _, h]

theorem ReportStands.makeClaim : ReportStands s (makeClaim t) := by
  unfold Machine.makeClaim
  dsimp only
  split <;> simpa [ReportStands] using h

theorem ReportStands.examine : ReportStands s (examine t) := by
  have limited : ReportStands s (t.mapDraw fun d => { d with limit := t.setup.drawLimit }) := h
  unfold Machine.examine
  dsimp only
  (repeat' split)
  exacts [limited.makeClaim, limited, h]

theorem ReportStands.contendAgain : ReportStands s (contendAgain t) := by
  unfold Machine.contendAgain enterWaiting
  split
  exacts [ReportStands.examine h, h]

theorem ReportStands.formUrgency : ReportStands s (formUrgency t) := by
  have formed : ReportStands s (t.mapDraw fun d => { d with urgency := presentUrgency t }) := h
  unfold Machine.formUrgency shortenBackoff
  dsimp only
  (repeat' split)
  exacts [h, formed.examine, formed.queueFrame _, formed.contendAgain, formed, formed, formed, formed, formed, formed]

theorem ReportStands.endFlowing (r : EndReason) : ReportStands s (endFlowing r t) := by
  unfold Machine.endFlowing pourStateChanged
  split
  exacts [ReportStands.formUrgency h, h]

end

/-- From `s` to `t` alarms are latched and QUIET is left at most; and either nothing of it happens and the report count
stands, or a BAY_STATE tells of it, which begins the count anew; in SILENT the count stands (R38, R39). -/
structure Tells (s t : State) : Prop where
  latches : ∀ a, hasAlarm s.sup.latched a = true → hasAlarm t.sup.latched a = true
  wakes : t.sup.quiet = true → s.sup.quiet = true
  silent : t.link.silent = s.link.silent
  deaf : s.link.silent = true → t.link.reportCount = s.link.reportCount
  told : s.link.silent = false → ReportStands s t ∨
    (t.sup.latched ≠ s.sup.latched ∨ t.sup.quiet ≠ s.sup.quiet) ∧ t.link.reportCount = 0 ∧ t.link.reportBegunNow = true

theorem Tells.of_stands {s t : State} (h : ReportStands s t) : Tells s t := by
  obtain ⟨latched, quiet, silent, count, -⟩ := id h
  exact ⟨fun a ha => by rwa [latched], fun q => quiet ▸ q, silent, fun _ => count, fun _ => .inl h⟩

theorem Tells.trans {s t u : State} (h : Tells s t) (k : Tells t u) : Tells s u where
  latches a ha := k.latches a (h.latches a ha)
  wakes q := h.wakes (k.wakes q)
  silent := k.silent.trans h.silent
  deaf deaf := (k.deaf (h.silent.trans deaf)).trans (h.deaf deaf)
  told loud := by
    rcases k.told (h.silent.trans loud) with ⟨latched, quiet, silent, count, begun⟩ | ⟨moved, count, begun⟩
    · rcases h.told loud with ⟨latched', quiet', silent', count', begun'⟩ | ⟨moved', count', begun'⟩
      · exact .inl ⟨latched.trans latched', quiet.trans quiet', silent.trans silent', count.trans count',
          begun.trans begun'⟩
      · exact .inr ⟨by rwa [latched, quiet], count.trans count', begun.trans begun'⟩
    · refine .inr ⟨?_, count, begun⟩
      by_contra same
      simp only [ne_eq, not_or, not_not] at same
      obtain ⟨latched, quiet⟩ := same
      have latched' : t.sup.latched = s.sup.latched := alarmSet_ext fun a => Bool.eq_iff_iff.2
        ⟨fun ha => latched ▸ k.latches a ha, h.latches a⟩
      have quiet' : t.sup.quiet = s.sup.quiet := Bool.eq_iff_iff.2 ⟨h.wakes, fun q => k.wakes (quiet ▸ q)⟩
      rcases moved with moved | moved
      · exact moved (latched.trans latched'.symm)
      · exact moved (quiet.trans quiet'.symm)

/-- A change of the latched set or a wake, told of with a BAY_STATE (R38, R39). -/
theorem Tells.of_bayState {s t : State}
    (latches : ∀ a, hasAlarm s.sup.latched a = true → hasAlarm t.sup.latched a = true)
    (wakes : t.sup.quiet = true → s.sup.quiet = true) (silent : t.link.silent = s.link.silent)
    (count : t.link.reportCount = s.link.reportCount)
    (moved : t.sup.latched ≠ s.sup.latched ∨ t.sup.quiet ≠ s.sup.quiet) : Tells s (queueBayState t) where
  latches := by simpa using latches
  wakes := by simpa using wakes
  silent := by simpa using silent
  deaf deaf := by
    rw [queueBayState_link, if_pos (silent.trans deaf)]
    exact count
  told loud := by
    rw [queueBayState_link, if_neg (by simp [silent, loud])]
    exact .inr ⟨by simpa using moved, rfl, rfl⟩

theorem activityEvent_tells (e : Activity) (s : State) : Tells s (activityEvent e s) := by
  have same : Tells s s := .of_stands (.refl s)
  unfold activityEvent leaveQuiet
  (repeat' split)
  · exact same
  · next quiet _ => exact .of_bayState (fun _ h => h) (fun q => nomatch q) rfl rfl (.inr (by simp [quiet]))
  · exact same
  · exact .of_stands (.refl s)
  · exact same

theorem raiseAlarm_tells (a : Alarm) (s : State) (l : BitVec 4) : Tells s (raiseAlarm a s l) := by
  unfold raiseAlarm
  dsimp only
  split
  · exact .of_stands (.refl s)
  · refine Tells.trans ?_ (activityEvent_tells _ _)
    split
    · next news =>
      have fresh : hasAlarm s.sup.latched a = false := by simpa using news
      refine .of_bayState (fun b hb => ?_) (by simp) (by simp) (by simp [queueFrame]) (.inl fun same => ?_)
      · simp [hb]
      · have := congrArg (hasAlarm · a) same
        simp [fresh] at this
    · next old =>
      have latched : hasAlarm s.sup.latched a = true := by simpa using old
      exact .of_stands (by simp [ReportStands, queueFrame, withAlarm_of_has latched])

end Sys2Proof.Machine
end

section
/-! ### The two samples (R6, R7, R103, R106, R142) -/

namespace Sys2Proof.Machine

/-- A sample ends a fault only as GOOD (R7). -/
theorem Probe.sample_recovers {t : Int} {k : Nat} {p : Probe} (fault : p.state = .fault)
    (now : (p.sample t k).state ≠ .fault) : (p.sample t k).state = .good := by
  cases valid : probeValid t
  · rw [p.sample_invalid k valid] at now
    simp [fault] at now
  · rw [p.sample_valid k valid, fault] at now ⊢
    dsimp only at now ⊢
    split
    · rfl
    · next short => simp [short] at now

/-- The beer probe after a sample of the raw count. -/
def beerReading (raw : Nat) (s : State) : Probe :=
  s.sampling.beer.sample (probeTemperature raw s.setup.beerOffset) s.setup.filterShift

/-- The jacket probe after a sample of the raw count. -/
def jacketReading (raw : Nat) (s : State) : Probe :=
  s.sampling.jacket.sample (probeTemperature raw s.setup.jacketOffset) s.setup.filterShift

/-- The beer sample taken, before anything follows it. -/
def beerTaken (raw : Nat) (s : State) : State := s.mapSampling fun u => { u with beer := beerReading raw s }

/-- The jacket sample taken, before anything follows it. -/
def jacketTaken (raw : Nat) (s : State) : State := s.mapSampling fun u => { u with jacket := jacketReading raw s }

/-- The start of a beer fault (R7, R106, R172). -/
theorem beerSample_of_fault {raw : Nat} {s : State} (now : (beerReading raw s).state = .fault)
    (before : s.sampling.beer.state ≠ .fault) :
    beerSample raw s = endFlowing .fault
      (if s.sampling.beer.state = .good then withdrawWindow (raiseAlarm .beerProbe (beerTaken raw s))
       else raiseAlarm .beerProbe (beerTaken raw s)) :=
  if_pos ⟨now, before⟩

/-- The beer sample taken, and on a recovery the end of the alarm's cause (R7). -/
def beerJudged (raw : Nat) (s : State) : State :=
  if (beerReading raw s).state = .good ∧ s.sampling.beer.state = .fault then endAlarm .beerProbe (beerTaken raw s)
  else beerTaken raw s

/-- A beer sample that begins no fault: a valid sample tests the leak window's drift (R142). -/
theorem beerSample_of_no_fault {raw : Nat} {s : State}
    (h : ¬((beerReading raw s).state = .fault ∧ s.sampling.beer.state ≠ .fault)) :
    beerSample raw s =
      if (beerReading raw s).state = .good ∧ (beerReading raw s).rejectRun = 0 then
        leakDrift ((beerReading raw s).filtered.getD 0) (beerJudged raw s)
      else beerJudged raw s :=
  if_neg h

theorem jacketSample_of_fault {raw : Nat} {s : State} (now : (jacketReading raw s).state = .fault)
    (before : s.sampling.jacket.state ≠ .fault) : jacketSample raw s = raiseAlarm .jacketProbe (jacketTaken raw s) :=
  if_pos ⟨now, before⟩

/-- The jacket sample taken, and on a recovery the end of the alarm's cause (R7). -/
def jacketJudged (raw : Nat) (s : State) : State :=
  if (jacketReading raw s).state = .good ∧ s.sampling.jacket.state = .fault then
    endAlarm .jacketProbe (jacketTaken raw s)
  else jacketTaken raw s

/-- A jacket sample that begins no fault: a valid sample tests the jacket limit (R103). -/
theorem jacketSample_of_no_fault {raw : Nat} {s : State}
    (h : ¬((jacketReading raw s).state = .fault ∧ s.sampling.jacket.state ≠ .fault)) :
    jacketSample raw s =
      if (jacketReading raw s).state = .good ∧ (jacketReading raw s).rejectRun = 0 then
        jacketLimitTest ((jacketReading raw s).filtered.getD 0) (jacketJudged raw s)
      else jacketJudged raw s :=
  if_neg h

/-! ### The jacket limit (R103) -/

/-- Between the two limits the test keeps what is in force (R103). -/
theorem jacketLimitTest_temp (f : Int) (s : State) :
    (jacketLimitTest f s).temp = { s.temp with
      limitInForce :=
        if s.temp.limitInForce then decide (s.setup.jacketMax - 16 < f) else decide (s.setup.jacketMax < f) } := by
  unfold jacketLimitTest
  by_cases inForce : s.temp.limitInForce = true
  · rw [if_pos inForce, if_pos inForce]
    split
    · next low => simp [Int.not_lt.2 low]
    · next high => simp [Int.not_le.1 high, ← inForce]
  · rw [if_neg inForce, if_neg inForce]
    split
    · next high => simp [high]
    · next low => simp [low, ← Bool.eq_false_iff.2 inForce]

theorem jacketLimitTest_raises {f : Int} {s : State} (before : s.temp.limitInForce = false)
    (after : (jacketLimitTest f s).temp.limitInForce = true) :
    jacketLimitTest f s = raiseAlarm .jacketHot (s.mapTemp fun t => { t with limitInForce := true }) := by
  have high : s.setup.jacketMax < f := by simpa [jacketLimitTest_temp, before] using after
  simp [jacketLimitTest, before, high]

theorem jacketLimitTest_ends {f : Int} {s : State} (before : s.temp.limitInForce = true)
    (after : (jacketLimitTest f s).temp.limitInForce = false) :
    jacketLimitTest f s = endAlarm .jacketHot (s.mapTemp fun t => { t with limitInForce := false }) := by
  have low : f ≤ s.setup.jacketMax - 16 := by simpa [jacketLimitTest_temp, before] using after
  simp [jacketLimitTest, before, low]

@[simp] theorem jacketLimitTest_otherAlarms {a : Alarm} (h : a ≠ .jacketHot) (f : Int) (s : State) :
    hasAlarm (jacketLimitTest f s).sup.active a = hasAlarm s.sup.active a ∧
      hasAlarm (jacketLimitTest f s).sup.latched a = hasAlarm s.sup.latched a := by
  unfold jacketLimitTest
  (repeat' split) <;> simp [h]

theorem jacketLimitTest_tells (f : Int) (s : State) : Tells s (jacketLimitTest f s) := by
  have moved (i : Bool) : ReportStands s (s.mapTemp fun v => { v with limitInForce := i }) := .refl s
  unfold jacketLimitTest
  (repeat' split)
  · exact .of_stands ((moved _).endAlarm _)
  · exact .of_stands (.refl s)
  · exact (Tells.of_stands (moved _)).trans (raiseAlarm_tells _ _ _)
  · exact .of_stands (.refl s)

/-! ### What both samples leave -/

theorem FramesKept.leakDrift {s t : State} (h : FramesKept s t) (f : Int) : FramesKept s (leakDrift f t) :=
  h.of_frames (by simp)

theorem beerSample_sampling (raw : Nat) (s : State) :
    (beerSample raw s).sampling = { s.sampling with beer := beerReading raw s } := by
  by_cases fault : (beerReading raw s).state = .fault ∧ s.sampling.beer.state ≠ .fault
  · rw [beerSample_of_fault fault.1 fault.2]
    split <;> simp [beerTaken]
  · rw [beerSample_of_no_fault fault, beerJudged]
    (repeat' split) <;> simp [beerTaken]

theorem beerSample_limit (raw : Nat) (s : State) : (beerSample raw s).temp.limitInForce = s.temp.limitInForce := by
  by_cases fault : (beerReading raw s).state = .fault ∧ s.sampling.beer.state ≠ .fault
  · rw [beerSample_of_fault fault.1 fault.2]
    split <;> simp [beerTaken, withdrawWindow]
  · rw [beerSample_of_no_fault fault, beerJudged]
    (repeat' split) <;> simp [beerTaken]

theorem beerSample_lastGrant (raw : Nat) (s : State) : (beerSample raw s).cool.lastGrant = s.cool.lastGrant := by
  by_cases fault : (beerReading raw s).state = .fault ∧ s.sampling.beer.state ≠ .fault
  · rw [beerSample_of_fault fault.1 fault.2]
    split <;> simp [beerTaken, withdrawWindow]
  · rw [beerSample_of_no_fault fault, beerJudged]
    (repeat' split) <;> simp [beerTaken]

/-- A beer sample moves no alarm but its own (R7). -/
@[simp] theorem beerSample_otherAlarms {a : Alarm} (h : a ≠ .beerProbe) (raw : Nat) (s : State) :
    hasAlarm (beerSample raw s).sup.active a = hasAlarm s.sup.active a ∧
      hasAlarm (beerSample raw s).sup.latched a = hasAlarm s.sup.latched a := by
  by_cases fault : (beerReading raw s).state = .fault ∧ s.sampling.beer.state ≠ .fault
  · rw [beerSample_of_fault fault.1 fault.2]
    split <;> simp [beerTaken, h]
  · rw [beerSample_of_no_fault fault, beerJudged]
    (repeat' split) <;> simp [beerTaken, h]

/-- A beer sample queues two frames at most: the alarm's, and the coordinator's at the pour's end. -/
theorem beerSample_firmCount (raw : Nat) (s : State) :
    (beerSample raw s).link.firmCount ≤ s.link.firmCount + 2 := by
  have raised : (raiseAlarm .beerProbe (beerTaken raw s)).link.firmCount ≤ s.link.firmCount + 1 :=
    raiseAlarm_firmCount _ _ _
  have ended : (endAlarm .beerProbe (beerTaken raw s)).link.firmCount ≤ s.link.firmCount + 1 := endAlarm_firmCount _ _
  have taken : (beerTaken raw s).link.firmCount ≤ s.link.firmCount + 1 := Nat.le_add_right _ _
  by_cases fault : (beerReading raw s).state = .fault ∧ s.sampling.beer.state ≠ .fault
  · rw [beerSample_of_fault fault.1 fault.2]
    refine (endFlowing_firmCount _ _).trans (Nat.add_le_add_right ?_ 1)
    split <;> exact raised
  · rw [beerSample_of_no_fault fault, beerJudged]
    refine Nat.le_succ_of_le ?_
    split
    · rw [show ∀ x, (leakDrift ((beerReading raw s).filtered.getD 0) x).link = x.link by simp]
      split <;> assumption
    · split <;> assumption

theorem beerSample_tells (raw : Nat) (s : State) : Tells s (beerSample raw s) := by
  have taken : ReportStands s (beerTaken raw s) := .refl s
  by_cases fault : (beerReading raw s).state = .fault ∧ s.sampling.beer.state ≠ .fault
  · rw [beerSample_of_fault fault.1 fault.2]
    have raised := (Tells.of_stands taken).trans (raiseAlarm_tells .beerProbe _ 0#4)
    refine raised.trans (.of_stands (ReportStands.endFlowing ?_ _))
    split
    exacts [.refl _, .refl _]
  · rw [beerSample_of_no_fault fault]
    have judged : ReportStands s (beerJudged raw s) := by
      unfold beerJudged
      split
      exacts [taken.endAlarm _, taken]
    refine .of_stands ?_
    split
    · simpa [ReportStands] using judged
    · exact judged

theorem jacketJudged_stands (raw : Nat) (s : State) : ReportStands s (jacketJudged raw s) := by
  have taken : ReportStands s (jacketTaken raw s) := .refl s
  unfold jacketJudged
  split
  exacts [taken.endAlarm _, taken]

theorem jacketJudged_frame (raw : Nat) (s : State) :
    (jacketJudged raw s).sampling = { s.sampling with jacket := jacketReading raw s } ∧
      (jacketJudged raw s).temp = s.temp ∧ (jacketJudged raw s).setup = s.setup := by
  unfold jacketJudged
  split <;> simp [jacketTaken]

theorem jacketJudged_otherAlarms {a : Alarm} (h : a ≠ .jacketProbe) (raw : Nat) (s : State) :
    hasAlarm (jacketJudged raw s).sup.active a = hasAlarm s.sup.active a ∧
      hasAlarm (jacketJudged raw s).sup.latched a = hasAlarm s.sup.latched a := by
  unfold jacketJudged
  split <;> simp [jacketTaken, h]

theorem jacketJudged_firmCount (raw : Nat) (s : State) :
    (jacketJudged raw s).link.firmCount ≤ s.link.firmCount + 1 := by
  unfold jacketJudged
  split
  · exact endAlarm_firmCount _ _
  · exact Nat.le_add_right _ _

theorem FramesKept.jacketJudged {s t : State} (h : FramesKept s t) (raw : Nat) : FramesKept s (jacketJudged raw t) := by
  have taken : FramesKept s (jacketTaken raw t) := h
  unfold Machine.jacketJudged
  split
  exacts [taken.endAlarm _, taken]

theorem jacketSample_sampling (raw : Nat) (s : State) :
    (jacketSample raw s).sampling = { s.sampling with jacket := jacketReading raw s } := by
  by_cases fault : (jacketReading raw s).state = .fault ∧ s.sampling.jacket.state ≠ .fault
  · rw [jacketSample_of_fault fault.1 fault.2]
    simp [jacketTaken]
  · rw [jacketSample_of_no_fault fault]
    split <;> simp [jacketJudged_frame]

theorem FramesKept.jacketSample {s t : State} (h : FramesKept s t) (raw : Nat) : FramesKept s (jacketSample raw t) := by
  by_cases fault : (jacketReading raw t).state = .fault ∧ t.sampling.jacket.state ≠ .fault
  · have taken : FramesKept s (jacketTaken raw t) := h
    rw [jacketSample_of_fault fault.1 fault.2]
    exact taken.raiseAlarm _ _
  · rw [jacketSample_of_no_fault fault]
    split
    exacts [(h.jacketJudged raw).jacketLimitTest _, h.jacketJudged raw]

/-- A jacket sample moves no alarm but its own two (R7, R103). -/
@[simp] theorem jacketSample_otherAlarms {a : Alarm} (probe : a ≠ .jacketProbe) (hot : a ≠ .jacketHot) (raw : Nat)
    (s : State) :
    hasAlarm (jacketSample raw s).sup.active a = hasAlarm s.sup.active a ∧
      hasAlarm (jacketSample raw s).sup.latched a = hasAlarm s.sup.latched a := by
  by_cases fault : (jacketReading raw s).state = .fault ∧ s.sampling.jacket.state ≠ .fault
  · rw [jacketSample_of_fault fault.1 fault.2]
    simp [jacketTaken, probe]
  · rw [jacketSample_of_no_fault fault]
    split <;> simp [jacketJudged_otherAlarms probe, hot]

theorem jacketSample_tells (raw : Nat) (s : State) : Tells s (jacketSample raw s) := by
  by_cases fault : (jacketReading raw s).state = .fault ∧ s.sampling.jacket.state ≠ .fault
  · have taken : ReportStands s (jacketTaken raw s) := .refl s
    rw [jacketSample_of_fault fault.1 fault.2]
    exact (Tells.of_stands taken).trans (raiseAlarm_tells _ _ _)
  · rw [jacketSample_of_no_fault fault]
    have judged := Tells.of_stands (jacketJudged_stands raw s)
    split
    exacts [judged.trans (jacketLimitTest_tells _ _), judged]

/-- A jacket sample moves of the temperature regulator the limit alone (R103). -/
theorem jacketSample_temp (raw : Nat) (s : State) :
    (jacketSample raw s).temp = { s.temp with limitInForce := (jacketSample raw s).temp.limitInForce } := by
  by_cases fault : (jacketReading raw s).state = .fault ∧ s.sampling.jacket.state ≠ .fault
  · rw [jacketSample_of_fault fault.1 fault.2]
    simp [jacketTaken]
  · rw [jacketSample_of_no_fault fault]
    split <;> simp [jacketJudged_frame, jacketLimitTest_temp]

/-- A valid sample of a GOOD jacket probe tests the limit (R103). -/
theorem jacketSample_limit {raw : Nat} {s : State} {f : Int} (good : (jacketReading raw s).state = .good)
    (valid : (jacketReading raw s).rejectRun = 0) (filtered : (jacketReading raw s).filtered = some f) :
    (jacketSample raw s).temp.limitInForce =
      if s.temp.limitInForce then decide (s.setup.jacketMax - 16 < f) else decide (s.setup.jacketMax < f) := by
  rw [jacketSample_of_no_fault (by simp [good]), if_pos ⟨good, valid⟩]
  simp [jacketLimitTest_temp, jacketJudged_frame, filtered]

/-- No other sample moves the limit (R103). -/
theorem jacketSample_limit_stands {raw : Nat} {s : State}
    (h : (jacketReading raw s).state ≠ .good ∨ (jacketReading raw s).rejectRun ≠ 0) :
    (jacketSample raw s).temp.limitInForce = s.temp.limitInForce := by
  by_cases fault : (jacketReading raw s).state = .fault ∧ s.sampling.jacket.state ≠ .fault
  · rw [jacketSample_of_fault fault.1 fault.2]
    simp [jacketTaken]
  · rw [jacketSample_of_no_fault fault, if_neg (by tauto)]
    simp [jacketJudged_frame]

/-! ### The leak window (R142) -/

/-- While its conditions stand a check that is not OFF goes on (R142). -/
theorem updateLeak_goesOn {s : State} (h : leakConditions s = true) (on : s.gas.leak ≠ .off) :
    (updateLeak s).gas.leak = s.gas.leak := by
  cases e : s.gas.leak <;> simp_all [updateLeak]

/-- The drift test discards a window that the temperature has left by more than 4 (R142). -/
theorem leakDrift_inWindow {s : State} {p0 t0 : Int} (f : Int) (h : s.gas.leak = .inWindow p0 t0) :
    (leakDrift f s).gas.leak = if 4 < (f - t0).natAbs then .armed else .inWindow p0 t0 := by
  unfold leakDrift
  rw [h]
  dsimp only
  split
  · rfl
  · exact h

theorem leakDrift_armed {s : State} (f : Int) (h : s.gas.leak = .armed) : (leakDrift f s).gas.leak = .armed := by
  simp [leakDrift, h]

/-- A beer sample that leaves the probe GOOD does at the leak check the drift test of a valid one (R142). -/
theorem beerSample_gas {raw : Nat} {s : State} (good : (beerReading raw s).state = .good) :
    (beerSample raw s).gas =
      if (beerReading raw s).rejectRun = 0 then (leakDrift ((beerReading raw s).filtered.getD 0) (beerJudged raw s)).gas
      else s.gas := by
  have judged : (beerJudged raw s).gas = s.gas := by
    unfold beerJudged
    split <;> simp [beerTaken]
  rw [beerSample_of_no_fault (by simp [good])]
  by_cases valid : (beerReading raw s).rejectRun = 0 <;> simp [good, valid, judged]

end Sys2Proof.Machine
end

section
/-! ### O27 -/

namespace Sys2Proof.Machine

theorem exec_event1s_due {rawBeer rawJacket : Nat} {s : State} (up : s.held = false) (due : s.time.due1s = true) :
    exec (.event1s rawBeer rawJacket) s = .next (updateLeak (oneSecondEvent rawBeer rawJacket s)) := by
  rw [exec_event1s, execEvent1s, perform_running _ up, if_pos due]

/-- The 1 s event taken. -/
def secondTaken (s : State) : State := s.mapTime fun t => { t with due1s := false }

/-- And the beer probe sampled. -/
def beerSensed (rawBeer : Nat) (s : State) : State :=
  beerSample rawBeer (secondTaken s)

/-- And the jacket probe. -/
def probesSensed (rawBeer rawJacket : Nat) (s : State) : State := jacketSample rawJacket (beerSensed rawBeer s)

theorem oneSecondEvent_eq (rawBeer rawJacket : Nat) (s : State) :
    oneSecondEvent rawBeer rawJacket s = countReport (probesSensed rawBeer rawJacket s) := rfl

section
variable (rawBeer rawJacket : Nat) (s : State)

theorem beerSensed_sampling :
    (beerSensed rawBeer s).sampling = { s.sampling with beer := beerReading rawBeer s } := beerSample_sampling _ _

theorem jacketReading_beerSensed : jacketReading rawJacket (beerSensed rawBeer s) = jacketReading rawJacket s := by
  unfold jacketReading
  rw [beerSensed_sampling, show (beerSensed rawBeer s).setup = s.setup by simp [beerSensed, secondTaken]]

theorem probesSensed_sampling :
    (probesSensed rawBeer rawJacket s).sampling =
      { s.sampling with beer := beerReading rawBeer s, jacket := jacketReading rawJacket s } := by
  rw [probesSensed, jacketSample_sampling, jacketReading_beerSensed, beerSensed_sampling]

theorem beerSensed_limit : (beerSensed rawBeer s).temp.limitInForce = s.temp.limitInForce := beerSample_limit _ _

theorem probesSensed_tells : Tells s (probesSensed rawBeer rawJacket s) :=
  have timed : ReportStands s (secondTaken s) := .refl s
  (Tells.of_stands timed).trans ((beerSample_tells _ _).trans (jacketSample_tells _ _))

theorem beerSensed_firmCount : (beerSensed rawBeer s).link.firmCount ≤ s.link.firmCount + 2 := beerSample_firmCount _ _

/-- The count of the report and the leak check leave the queue. -/
theorem FramesKept.secondDone {x : State} (h : FramesKept x (probesSensed rawBeer rawJacket s)) :
    FramesKept x (updateLeak (oneSecondEvent rawBeer rawJacket s)) := by
  refine h.of_frames ?_
  simp only [oneSecondEvent_eq, updateLeak_frame, countReport]
  split <;> rfl

/-- The event's last two parts leave the supervisor. -/
theorem secondDone_sup : (oneSecondEvent rawBeer rawJacket s).sup = (probesSensed rawBeer rawJacket s).sup := by
  simp [oneSecondEvent_eq]

/-! #### The beer probe's alarm (R7) -/

theorem beerProbe_raised {rawBeer : Nat} {s : State} (before : s.sampling.beer.state ≠ .fault)
    (now : (beerReading rawBeer s).state = .fault) :
    Raised .beerProbe s (updateLeak (oneSecondEvent rawBeer rawJacket s)) := by
  have sensed : beerSensed rawBeer s = _ := beerSample_of_fault (s := secondTaken s) now before
  have kept : FramesKept (raiseAlarm .beerProbe (beerTaken rawBeer (secondTaken s)))
      (beerSensed rawBeer s) := by
    rw [sensed]
    refine FramesKept.endFlowing ?_ _
    split
    exacts [(FramesKept.refl _).withdrawWindow, .refl _]
  have alarms : (beerSensed rawBeer s).sup =
      (raiseAlarm .beerProbe (beerTaken rawBeer (secondTaken s))).sup := by
    rw [sensed]
    split <;> simp
  refine Raised.of_raise (u := beerTaken rawBeer (secondTaken s)) rfl rfl
    (Nat.le_add_right _ _) ?_ (fun h => ?_) ((kept.jacketSample rawJacket).secondDone)
  · simp [secondDone_sup, probesSensed, alarms]
  · simpa [secondDone_sup, probesSensed, alarms] using h

theorem beerProbe_ended {rawBeer : Nat} {s : State} (before : s.sampling.beer.state = .fault)
    (now : (beerReading rawBeer s).state ≠ .fault) :
    Ended .beerProbe s (updateLeak (oneSecondEvent rawBeer rawJacket s)) := by
  have good : (beerReading rawBeer s).state = .good := Probe.sample_recovers before now
  have judged : beerJudged rawBeer (secondTaken s) =
      endAlarm .beerProbe (beerTaken rawBeer (secondTaken s)) := if_pos ⟨good, before⟩
  have sensed : beerSensed rawBeer s = _ := beerSample_of_no_fault (s := secondTaken s) fun h => now h.1
  rw [judged] at sensed
  have kept : FramesKept (endAlarm .beerProbe (beerTaken rawBeer (secondTaken s)))
      (beerSensed rawBeer s) := by
    rw [sensed]
    split
    exacts [(FramesKept.refl _).leakDrift _, .refl _]
  have alarms : (beerSensed rawBeer s).sup =
      (endAlarm .beerProbe (beerTaken rawBeer (secondTaken s))).sup := by
    rw [sensed]
    split <;> simp
  refine Ended.of_end (u := beerTaken rawBeer (secondTaken s)) rfl rfl
    (Nat.le_add_right _ _) ?_ ?_ ((kept.jacketSample rawJacket).secondDone)
  · simp [secondDone_sup, probesSensed, alarms]
  · simp [secondDone_sup, probesSensed, alarms, beerTaken, secondTaken]

/-! #### The jacket probe's two alarms (R7, R103) -/

theorem beerSensed_otherAlarms {a : Alarm} (h : a ≠ .beerProbe) :
    hasAlarm (beerSensed rawBeer s).sup.active a = hasAlarm s.sup.active a ∧
      hasAlarm (beerSensed rawBeer s).sup.latched a = hasAlarm s.sup.latched a := by
  simp [beerSensed, h, secondTaken]

theorem beerSensed_silent : (beerSensed rawBeer s).link.silent = s.link.silent := (beerSample_tells _ _).silent

theorem beerSensed_jacket : (beerSensed rawBeer s).sampling.jacket = s.sampling.jacket := by
  simp [beerSensed_sampling]

theorem jacketProbe_raised {rawJacket : Nat} {s : State} (before : s.sampling.jacket.state ≠ .fault)
    (now : (jacketReading rawJacket s).state = .fault) :
    Raised .jacketProbe s (updateLeak (oneSecondEvent rawBeer rawJacket s)) := by
  have sensed : probesSensed rawBeer rawJacket s = raiseAlarm .jacketProbe (jacketTaken rawJacket (beerSensed rawBeer s)) :=
    jacketSample_of_fault (by rwa [jacketReading_beerSensed]) (by rwa [beerSensed_jacket])
  have room := beerSensed_firmCount rawBeer s
  refine Raised.of_raise (u := jacketTaken rawJacket (beerSensed rawBeer s)) ?_ (beerSensed_silent _ _)
    (Nat.le_succ_of_le room) ?_ (fun h => ?_) (sensed ▸ (FramesKept.refl _).secondDone _ _ _)
  · exact (beerSensed_otherAlarms rawBeer s (by simp)).1
  · simp [secondDone_sup, sensed]
  · simpa [secondDone_sup, sensed] using h

theorem jacketProbe_ended {rawJacket : Nat} {s : State} (before : s.sampling.jacket.state = .fault)
    (now : (jacketReading rawJacket s).state ≠ .fault) :
    Ended .jacketProbe s (updateLeak (oneSecondEvent rawBeer rawJacket s)) := by
  have good : (jacketReading rawJacket s).state = .good := Probe.sample_recovers before now
  have judged : jacketJudged rawJacket (beerSensed rawBeer s) =
      endAlarm .jacketProbe (jacketTaken rawJacket (beerSensed rawBeer s)) :=
    if_pos ⟨by rwa [jacketReading_beerSensed], by rwa [beerSensed_jacket]⟩
  have sensed : probesSensed rawBeer rawJacket s = _ :=
    jacketSample_of_no_fault (s := beerSensed rawBeer s) (by simp [jacketReading_beerSensed, now])
  rw [judged] at sensed
  have kept : FramesKept (endAlarm .jacketProbe (jacketTaken rawJacket (beerSensed rawBeer s)))
      (probesSensed rawBeer rawJacket s) := by
    rw [sensed]
    split
    exacts [(FramesKept.refl _).jacketLimitTest _, .refl _]
  obtain ⟨active, latched⟩ : hasAlarm (probesSensed rawBeer rawJacket s).sup.active .jacketProbe = false ∧
      hasAlarm (probesSensed rawBeer rawJacket s).sup.latched .jacketProbe = hasAlarm s.sup.latched .jacketProbe := by
    rw [sensed]
    split <;> simp [jacketTaken, beerSensed_otherAlarms]
  have room := beerSensed_firmCount rawBeer s
  refine Ended.of_end (u := jacketTaken rawJacket (beerSensed rawBeer s)) ?_ (beerSensed_silent _ _)
    (Nat.le_succ_of_le room) ?_ ?_ (kept.secondDone _ _ _)
  · exact (beerSensed_otherAlarms rawBeer s (by simp)).1
  · simp [secondDone_sup, active]
  · simp [secondDone_sup, latched]

theorem probesSensed_limit_stands {rawJacket : Nat} {s : State}
    (h : (jacketReading rawJacket s).state ≠ .good ∨ (jacketReading rawJacket s).rejectRun ≠ 0) :
    (probesSensed rawBeer rawJacket s).temp.limitInForce = s.temp.limitInForce :=
  (jacketSample_limit_stands (by rwa [jacketReading_beerSensed])).trans (beerSensed_limit _ _)

/-- Only the limit's test moves what is in force (R103). -/
theorem probesSensed_tested {rawJacket : Nat} {s : State}
    (moved : (probesSensed rawBeer rawJacket s).temp.limitInForce ≠ s.temp.limitInForce) :
    probesSensed rawBeer rawJacket s =
      jacketLimitTest ((jacketReading rawJacket s).filtered.getD 0) (jacketJudged rawJacket (beerSensed rawBeer s)) := by
  obtain ⟨good, valid⟩ : (jacketReading rawJacket s).state = .good ∧ (jacketReading rawJacket s).rejectRun = 0 := by
    by_contra h
    exact moved (probesSensed_limit_stands _ (by tauto))
  rw [probesSensed, jacketSample_of_no_fault (by simp [jacketReading_beerSensed, good]),
    if_pos (by simp [jacketReading_beerSensed, good, valid]), jacketReading_beerSensed]

theorem jacketJudged_limit :
    (jacketJudged rawJacket (beerSensed rawBeer s)).temp.limitInForce = s.temp.limitInForce := by
  rw [(jacketJudged_frame _ _).2.1, beerSensed_limit]

/-- Before the limit's test the two samples have queued three frames at most. -/
theorem jacketJudged_beerSensed_firmCount :
    (jacketJudged rawJacket (beerSensed rawBeer s)).link.firmCount ≤ s.link.firmCount + 3 :=
  (jacketJudged_firmCount _ _).trans (Nat.add_le_add_right (beerSensed_firmCount _ _) 1)

theorem jacketJudged_hot :
    hasAlarm (jacketJudged rawJacket (beerSensed rawBeer s)).sup.active .jacketHot = hasAlarm s.sup.active .jacketHot ∧
      hasAlarm (jacketJudged rawJacket (beerSensed rawBeer s)).sup.latched .jacketHot =
        hasAlarm s.sup.latched .jacketHot := by
  obtain ⟨active, latched⟩ := jacketJudged_otherAlarms (a := .jacketHot) (by simp) rawJacket (beerSensed rawBeer s)
  obtain ⟨active', latched'⟩ := beerSensed_otherAlarms (a := .jacketHot) rawBeer s (by simp)
  exact ⟨active.trans active', latched.trans latched'⟩

theorem jacketJudged_silent : (jacketJudged rawJacket (beerSensed rawBeer s)).link.silent = s.link.silent :=
  (Tells.of_stands (jacketJudged_stands _ _)).silent.trans (beerSensed_silent _ _)

theorem jacketHot_raised {rawJacket : Nat} {s : State} (before : s.temp.limitInForce = false)
    (now : (probesSensed rawBeer rawJacket s).temp.limitInForce = true) :
    Raised .jacketHot s (updateLeak (oneSecondEvent rawBeer rawJacket s)) := by
  have tested := probesSensed_tested (rawBeer := rawBeer) (rawJacket := rawJacket) (s := s) (by simp [before, now])
  have sensed := tested.trans (jacketLimitTest_raises (by rw [jacketJudged_limit, before]) (by rwa [← tested]))
  have kept : FramesKept (probesSensed rawBeer rawJacket s) (updateLeak (oneSecondEvent rawBeer rawJacket s)) :=
    (FramesKept.refl _).secondDone _ _ _
  refine Raised.of_raise
    (u := (jacketJudged rawJacket (beerSensed rawBeer s)).mapTemp fun t => { t with limitInForce := true })
    (jacketJudged_hot rawBeer rawJacket s).1 (jacketJudged_silent rawBeer rawJacket s)
    (jacketJudged_beerSensed_firmCount rawBeer rawJacket s) ?_ (fun h => ?_) (sensed ▸ kept)
  · simp [secondDone_sup, sensed]
  · simpa [secondDone_sup, sensed] using h

theorem jacketHot_ended {rawJacket : Nat} {s : State} (before : s.temp.limitInForce = true)
    (now : (probesSensed rawBeer rawJacket s).temp.limitInForce = false) :
    Ended .jacketHot s (updateLeak (oneSecondEvent rawBeer rawJacket s)) := by
  have tested := probesSensed_tested (rawBeer := rawBeer) (rawJacket := rawJacket) (s := s) (by simp [before, now])
  have sensed := tested.trans (jacketLimitTest_ends (by rw [jacketJudged_limit, before]) (by rwa [← tested]))
  have kept : FramesKept (probesSensed rawBeer rawJacket s) (updateLeak (oneSecondEvent rawBeer rawJacket s)) :=
    (FramesKept.refl _).secondDone _ _ _
  refine Ended.of_end
    (u := (jacketJudged rawJacket (beerSensed rawBeer s)).mapTemp fun t => { t with limitInForce := false })
    (jacketJudged_hot rawBeer rawJacket s).1 (jacketJudged_silent rawBeer rawJacket s)
    (jacketJudged_beerSensed_firmCount rawBeer rawJacket s) ?_ ?_ (sensed ▸ kept)
  · simp [secondDone_sup, sensed]
  · simp [secondDone_sup, sensed, jacketJudged_hot]

end

end Sys2Proof.Machine
end

section
namespace Sys2Proof.Machine

/-- The drift test is a matter of the regulator alone. -/
theorem leakDrift_congr (f : Int) {s t : State} (h : t.gas = s.gas) : (leakDrift f t).gas = (leakDrift f s).gas := by
  unfold leakDrift
  rw [h]
  (repeat' split) <;> simp [h]

theorem leakDrift_on {s : State} (f : Int) (on : s.gas.leak ≠ .off) : (leakDrift f s).gas.leak ≠ .off := by
  cases e : s.gas.leak with
  | off => exact absurd e on
  | armed => simp [leakDrift_armed f e]
  | inWindow p0 t0 =>
    rw [leakDrift_inWindow f e]
    split <;> simp

section
variable (rawBeer rawJacket : Nat) (s : State)

theorem oneSecondEvent_parts :
    (oneSecondEvent rawBeer rawJacket s).sampling = (probesSensed rawBeer rawJacket s).sampling ∧
      (oneSecondEvent rawBeer rawJacket s).temp =
        { (beerSensed rawBeer s).temp with limitInForce := (probesSensed rawBeer rawJacket s).temp.limitInForce } ∧
      (oneSecondEvent rawBeer rawJacket s).cool = (beerSensed rawBeer s).cool ∧
      (oneSecondEvent rawBeer rawJacket s).disp = (beerSensed rawBeer s).disp ∧
      (oneSecondEvent rawBeer rawJacket s).gas = (beerSensed rawBeer s).gas := by
  have temp := jacketSample_temp rawJacket (beerSensed rawBeer s)
  refine ⟨?_, ?_, ?_, ?_, ?_⟩ <;> rw [oneSecondEvent_eq]
  case refine_2 => simpa [probesSensed] using temp
  all_goals simp [probesSensed]

/-- The start of a beer fault from GOOD withdraws the window's outputs and ends a pour (R106, R172). -/
theorem beerSensed_withdraws {rawBeer : Nat} {s : State} (good : s.sampling.beer.state = .good)
    (fault : (beerReading rawBeer s).state = .fault) :
    (beerSensed rawBeer s).temp.onTimer = none ∧ (beerSensed rawBeer s).temp.lastDemand = 0 ∧
      (beerSensed rawBeer s).temp.clampSide = .unclamped ∧ (beerSensed rawBeer s).cool.openTimer = none ∧
      (beerSensed rawBeer s).cool.demandUnits = 0 ∧ (beerSensed rawBeer s).disp.state ≠ .flowing := by
  have sensed : beerSensed rawBeer s = _ :=
    beerSample_of_fault (s := secondTaken s) fault (show s.sampling.beer.state ≠ .fault by simp [good])
  rw [if_pos (by exact good)] at sensed
  have ended := endFlowing_not_flowing .fault (withdrawWindow (raiseAlarm .beerProbe (beerTaken rawBeer (secondTaken s))))
  rw [← sensed] at ended
  refine ⟨?_, ?_, ?_, ?_, ?_, ended⟩ <;> simp [sensed, withdrawWindow]

/-- While the leak check's conditions stand, the event does to a check that is not OFF what the drift test does (R142). -/
theorem oneSecondEvent_leakTested (stands : leakConditions (oneSecondEvent rawBeer rawJacket s) = true)
    (on : s.gas.leak ≠ .off) :
    (updateLeak (oneSecondEvent rawBeer rawJacket s)).gas.leak =
      if (beerReading rawBeer s).rejectRun = 0 then (leakDrift ((beerReading rawBeer s).filtered.getD 0) s).gas.leak
      else s.gas.leak := by
  have good : (beerReading rawBeer s).state = .good := by
    simp only [leakConditions, Bool.and_eq_true, decide_eq_true_eq, oneSecondEvent_parts, probesSensed_sampling] at stands
    exact stands.2
  obtain ⟨-, -, -, -, gas⟩ := oneSecondEvent_parts rawBeer rawJacket s
  have tested : (oneSecondEvent rawBeer rawJacket s).gas =
      if (beerReading rawBeer s).rejectRun = 0 then (leakDrift ((beerReading rawBeer s).filtered.getD 0) s).gas
      else s.gas := by
    rw [gas]
    refine (beerSample_gas (s := secondTaken s) good).trans ?_
    have judged : (beerJudged rawBeer (secondTaken s)).gas = s.gas := by
      unfold beerJudged
      split <;> simp [beerTaken, secondTaken]
    rw [leakDrift_congr _ judged]
    rfl
  rw [updateLeak_goesOn stands, tested]
  · split <;> rfl
  · rw [tested]
    split
    exacts [leakDrift_on _ on, on]

/-- A leak window whose conditions stand meets the drift test of a valid sample (R142). -/
theorem oneSecondEvent_leak {p0 t0 f : Int} (window : s.gas.leak = .inWindow p0 t0)
    (filtered : (beerReading rawBeer s).filtered = some f)
    (stands : leakConditions (oneSecondEvent rawBeer rawJacket s) = true) :
    (updateLeak (oneSecondEvent rawBeer rawJacket s)).gas.leak =
      if (beerReading rawBeer s).rejectRun = 0 ∧ 4 < (f - t0).natAbs then .armed else .inWindow p0 t0 := by
  rw [oneSecondEvent_leakTested _ _ _ stands (by simp [window]), filtered]
  by_cases valid : (beerReading rawBeer s).rejectRun = 0
  · simpa [valid] using leakDrift_inWindow f window
  · simpa [valid] using window

/-- An ARMED leak check whose conditions stand stays so (R142). -/
theorem oneSecondEvent_armed (armed : s.gas.leak = .armed)
    (stands : leakConditions (oneSecondEvent rawBeer rawJacket s) = true) :
    (updateLeak (oneSecondEvent rawBeer rawJacket s)).gas.leak = .armed := by
  rw [oneSecondEvent_leakTested _ _ _ stands (by simp [armed])]
  split
  exacts [leakDrift_armed _ armed, armed]

end

/-- In SILENT the report count stands; else it counts below its interval, unless it has begun on this event (R38, R39). -/
theorem countReport_link (s : State) :
    (countReport s).link.reportCount =
      if s.link.silent = false ∧ s.link.reportBegunNow = false ∧ s.link.reportCount < reportInterval s then
        s.link.reportCount + 1
      else s.link.reportCount := by
  unfold countReport
  split
  · simp [*]
  · next loud => simp [Bool.eq_false_iff.2 loud]

end Sys2Proof.Machine

namespace Sys2Proof
open Sys2Proof.Machine

/-- Settles O27: the two samples, each with its alarms, then the report count. -/
theorem oneSecondEvent : Obligations.OneSecondEvent := by
  intro rawBeer rawJacket s up due beer jacket
  have tells := probesSensed_tells rawBeer rawJacket s
  obtain ⟨sampling, temp, cool, disp, gas⟩ := oneSecondEvent_parts rawBeer rawJacket s
  have limit : (updateLeak (Machine.oneSecondEvent rawBeer rawJacket s)).temp.limitInForce =
      (probesSensed rawBeer rawJacket s).temp.limitInForce := by simp [temp]
  refine ⟨_, exec_event1s_due up due, ?_, fun f good valid filtered => ?_, fun h => ?_, fun good fault => ?_,
    fun before now => beerProbe_raised rawJacket before now, fun before now => beerProbe_ended rawJacket before now,
    fun before now => jacketProbe_raised rawBeer before now, fun before now => jacketProbe_ended rawBeer before now,
    fun before now => jacketHot_raised rawBeer before (limit ▸ now),
    fun before now => jacketHot_ended rawBeer before (limit ▸ now),
    fun p0 t0 window f filtered stands => oneSecondEvent_leak rawBeer rawJacket s window filtered stands,
    fun armed stands => oneSecondEvent_armed rawBeer rawJacket s armed stands, ?_, fun deaf => ?_,
    fun loud latched quiet => ?_, fun loud moved => ?_, ?_⟩
  · exact sampling.trans (probesSensed_sampling rawBeer rawJacket s)
  · rw [limit, probesSensed, jacketSample_limit (f := f) (by rwa [jacketReading_beerSensed])
      (by rwa [jacketReading_beerSensed]) (by rwa [jacketReading_beerSensed]), beerSensed_limit]
    simp [beerSensed, secondTaken]
  · rw [limit, probesSensed_limit_stands rawBeer h]
  · simpa [temp, cool, disp] using beerSensed_withdraws good fault
  · simpa [oneSecondEvent_eq] using tells.silent
  · have silent := tells.silent.trans deaf
    simpa [oneSecondEvent_eq, countReport_link, silent] using tells.deaf deaf
  · simp only [updateLeak_frame, secondDone_sup] at latched quiet
    have stands : ReportStands s (probesSensed rawBeer rawJacket s) :=
      (tells.told loud).resolve_right fun h => h.1.elim (· latched) (· quiet)
    obtain ⟨-, -, silent, count, begun⟩ := stands
    simp [oneSecondEvent_eq, countReport_link, reportInterval, silent, loud, count, begun, quiet]
  · simp only [updateLeak_frame, secondDone_sup] at moved
    have told := (tells.told loud).resolve_left fun h => moved.elim (· h.1) (· h.2.1)
    obtain ⟨-, count, begun⟩ := told
    simp [oneSecondEvent_eq, countReport_link, count, begun]
  · have time : (Machine.oneSecondEvent rawBeer rawJacket s).time = { s.time with due1s := false } := by
      simp [oneSecondEvent_eq, probesSensed, beerSensed, secondTaken]
    simp [temp, cool, disp, time, beerSensed, beerSample_lastGrant, secondTaken]

end Sys2Proof
end

section
/-! ## The 1 min event (R4, R114 to R120, R128, R184): O28 -/

namespace Sys2Proof.Machine

/-! ### The window's share (R114 to R120) -/

/-- No share is more than the own demand (R116). -/
theorem weightedShare_le_demand (u0 w0 : Nat) (peers : List (Nat × Nat)) (capacity : Nat) :
    weightedShare u0 w0 peers capacity ≤ u0 := by
  unfold weightedShare
  dsimp only
  split
  exacts [Nat.le_refl _, Nat.min_le_left _ _]

/-- No share is more than the capacity: the own part of the weights is at most their sum (R116). -/
theorem weightedShare_le_capacity (u0 w0 : Nat) (peers : List (Nat × Nat)) (capacity : Nat) :
    weightedShare u0 w0 peers capacity ≤ capacity := by
  unfold weightedShare
  dsimp only
  split
  · omega
  · refine (Nat.min_le_right _ _).trans (Nat.div_le_of_le_mul ?_)
    rw [Nat.mul_assoc, Nat.mul_comm]
    exact Nat.mul_le_mul_right _ (Nat.le_add_right _ _)

/-- The cap in SILENT and the throttle only lower a share (R118). -/
theorem finalGrant_le (share throttle fallback : Nat) (silent : Bool) :
    finalGrant share throttle fallback silent ≤ share := by
  have capped : (if silent then min share (fallback / 2) else share) ≤ share := by split <;> omega
  unfold finalGrant
  refine Nat.div_le_of_le_mul ((Nat.mul_le_mul capped (Nat.sub_le 4 throttle)).trans ?_)
  omega

/-- A window's request in 10 ms events (R5, R120). -/
theorem windowTimer_eq (seconds : Nat) : windowTimer seconds = if seconds = 0 then none else some (seconds * 100) := by
  unfold windowTimer ms
  split
  · rfl
  · exact congrArg some (by omega)

/-- The window's share is formed in the state it begins in, from some demand (R112). -/
theorem formWindow_cool (s : State) : ∃ demand, (formWindow s).cool = (formShare demand s).cool := by
  unfold formWindow
  split
  exacts [⟨_, rfl⟩, ⟨_, rfl⟩]

/-- What a window's share is, whatever the demand handed (R114, R117 to R120). -/
theorem formShare_cool (demand : Nat) (s : State) :
    let c := (formShare demand s).cool
    c.capacity = capacityInUse s ∧
      c.throttle = nextThrottle s.cool.throttle ((s.view.chillerReading.map (·.saturated)).getD false) ∧
      c.lastGrant = finalGrant (weightedShare c.demandUnits c.weight (s.view.demands.map (·.2)) c.capacity) c.throttle
        s.setup.fallbackCapacity s.link.silent ∧
      c.openTime = glycolSeconds c.lastGrant s.setup.valveCapacity ∧ c.openTimer = windowTimer c.openTime := by
  simp [formShare]

/-! ### The gas setpoint (R126 to R128) -/

theorem SetpointStands.refl (s : State) : SetpointStands s s := ⟨rfl, rfl, rfl⟩

theorem SetpointStands.trans {s t u : State} (h : SetpointStands s t) (k : SetpointStands t u) : SetpointStands s u := by
  obtain ⟨setpoint, low, high⟩ := h
  obtain ⟨setpoint', low', high'⟩ := k
  exact ⟨setpoint'.trans setpoint, low'.trans low, high'.trans high⟩

theorem SetpointStands.of_gas {s t : State} (h : t.gas = s.gas) : SetpointStands s t := by simp [SetpointStands, h]

theorem evaluateGas_setpointStands (s : State) : SetpointStands s (evaluateGas s) := by
  unfold SetpointStands evaluateGas
  rw [moveGas_gas]
  split <;> simp [Gas.moveTo]

theorem takeUpMode_setpointStands (m : Option GasMode) (s : State) : SetpointStands s (takeUpMode m s) := by
  have rested : SetpointStands s (s.mapGas (·.moveTo .rest)) := by simp [SetpointStands, Gas.moveTo]
  refine SetpointStands.trans ?_ (evaluateGas_setpointStands _)
  split
  exacts [rested, .refl s]

/-- Without a carbonation target or a temperature there is nothing to compute (R128). -/
theorem computeSetpoint_of_none {s : State} (h : handedTarget s = none ∨ s.sampling.beer.filtered = none) :
    computeSetpoint s = s := by
  unfold computeSetpoint
  rcases h with h | h
  · rw [h]
  · rw [h]
    cases handedTarget s <;> rfl

theorem clamp_eq_max_min {lo hi : Int} (h : lo ≤ hi) (x : Int) : clamp lo hi x = max lo (min hi x) := by
  unfold clamp
  split
  · omega
  · split <;> omega

/-- The computation gives what the statement asks for (R127, R128). -/
theorem computeSetpoint_computed (s : State) : SetpointComputed (computeSetpoint s) := by
  unfold SetpointComputed
  have target : handedTarget (computeSetpoint s) = handedTarget s := by simp [handedTarget]
  have sampling : (computeSetpoint s).sampling = s.sampling := by simp
  rw [target, sampling]
  split
  · next v f hv hf =>
    intro gauge range
    have setup : (computeSetpoint s).setup = s.setup := by simp
    rw [setup] at range ⊢
    have bounds : clamp 50 (s.setup.reliefCeiling - 200) gauge = max 50 (min (s.setup.reliefCeiling - 200) gauge) :=
      clamp_eq_max_min (by omega) _
    rw [← bounds]
    simp [computeSetpoint, hv, hf, gauge]
  · trivial

/-- The computed setpoint is a matter of the target, the temperature, the setup and the setpoint itself. -/
theorem SetpointComputed.of_stands {s t : State} (h : SetpointComputed s) (target : handedTarget t = handedTarget s)
    (sampling : t.sampling = s.sampling) (setup : t.setup = s.setup) (stands : SetpointStands s t) :
    SetpointComputed t := by
  obtain ⟨setpoint, low, high⟩ := stands
  unfold SetpointComputed at h ⊢
  rw [target, sampling, setup, setpoint, low, high]
  exact h

end Sys2Proof.Machine
end

section
/-! ### How far a profile has come (R75, R76, R80 to R84) -/

namespace Sys2Proof.Machine

/-- The phases in the order of a step (R76). -/
def phaseRank : Option Phase → Nat
  | none | some .ramping => 0
  | some .soaking => 1
  | some .waiting => 2

/-- How far the sequencer has come: a pending switch taken, then the slot, the profile's end, the phase and the duration
count. Whatever the sequencer does by itself takes it further, so that it never comes back to where it was. -/
def Sequencer.progress (q : Sequencer) : ℕ ×ₗ ℕ ×ₗ ℕ ×ₗ ℕ ×ₗ ℕ :=
  toLex (if q.pendingSwitch = none then 1 else 0,
    toLex (q.index, toLex (if q.profile = .ended then 1 else 0, toLex (phaseRank q.phase, q.count))))

/-- A pending switch has been taken (R80, R81). -/
theorem progress_of_switch {q r : Sequencer} (before : q.pendingSwitch ≠ none) (after : r.pendingSwitch = none) :
    q.progress < r.progress := by
  simp [Sequencer.progress, Prod.Lex.toLex_lt_toLex, before, after]

/-- A later slot has been reached (R83). -/
theorem progress_of_index {q r : Sequencer} (pending : r.pendingSwitch = q.pendingSwitch) (index : q.index < r.index) :
    q.progress < r.progress := by
  simp [Sequencer.progress, Prod.Lex.toLex_lt_toLex, pending, index]

/-- The profile has come to its end (R83). -/
theorem progress_of_ended {q : Sequencer} (running : q.profile ≠ .ended) :
    q.progress < { q with profile := .ended : Sequencer }.progress := by
  simp [Sequencer.progress, Prod.Lex.toLex_lt_toLex, running]

/-- A later phase of the step has been reached (R76). -/
theorem progress_of_phase {q : Sequencer} {p : Option Phase} {n : Nat} (later : phaseRank q.phase < phaseRank p) :
    q.progress < { q with phase := p, count := n : Sequencer }.progress := by
  simp [Sequencer.progress, Prod.Lex.toLex_lt_toLex, later]

/-- The duration has been counted (R75). -/
theorem progress_of_count {q : Sequencer} : q.progress < { q with count := q.count + 1 : Sequencer }.progress := by
  simp [Sequencer.progress, Prod.Lex.toLex_lt_toLex]

/-! ### What the regulator's evaluation does to the supervisor (R130, R136) -/

/-- The held pressure is above the relief ceiling in force (R136). -/
def OverCeiling (s : State) : Prop := ∃ p, goodPressure s.sampling.transducer = some p ∧ s.gas.ceiling < p

/-- Above the ceiling every evaluation decides RELIEF (R136). -/
theorem decideGas_of_overCeiling {s : State} (h : OverCeiling s) : decideGas s = .relief := by
  obtain ⟨p, pressure, above⟩ := h
  unfold decideGas
  rw [pressure]
  dsimp only
  rw [if_pos above, ite_self]

/-- RELIEF is entered above the ceiling only (R136). -/
theorem overCeiling_of_decideGas {s : State} (h : decideGas s = .relief) (before : s.gas.state ≠ .relief) :
    OverCeiling s := by
  unfold decideGas at h
  split at h
  · nomatch h
  · next p pressure =>
    by_contra low
    have under : ¬s.gas.ceiling < p := fun above => low ⟨p, pressure, above⟩
    have tested (m : GasMode) (x y z : Int) : modeTest m x y z ≠ .relief := by
      unfold modeTest
      (repeat' split) <;> simp
    rw [if_neg (fun r => before r.1), if_neg under] at h
    (repeat' split at h) <;> simp_all

/-- OVERPRESSURE is active. -/
def overActive (s : State) : Bool := hasAlarm s.sup.active .overpressure

/-- From `s` to `t` the supervisor stands, or OVERPRESSURE has been raised, above the relief ceiling, or its cause has
ended, under it: one of the two while pressure and ceiling are the same (R136). -/
def OverMoves (s t : State) : Prop :=
  t.sup = s.sup ∨ (OverCeiling s ∧ overActive s = false ∧ overActive t = true) ∨
    (¬OverCeiling s ∧ overActive s = true ∧ overActive t = false)

theorem OverMoves.trans {s t u : State} (h : OverMoves s t) (k : OverMoves t u) (same : OverCeiling t ↔ OverCeiling s) :
    OverMoves s u := by
  unfold OverMoves at *
  rw [same] at k
  rcases h with h | h | h
  · have active : overActive t = overActive s := congrArg (fun p : Supervisor => hasAlarm p.active .overpressure) h
    rw [h, active] at k
    exact k
  all_goals
    rcases k with k | k | k
    · have active : overActive u = overActive t := congrArg (fun p : Supervisor => hasAlarm p.active .overpressure) k
      rw [active]
      tauto
    all_goals simp_all

/-- With the same active alarms the supervisor stands. -/
theorem OverMoves.sup_eq {s t : State} (h : OverMoves s t) (same : t.sup.active = s.sup.active) : t.sup = s.sup := by
  have active : overActive t = overActive s := congrArg (hasAlarm · .overpressure) same
  rcases h with h | ⟨-, h, k⟩ | ⟨-, h, k⟩
  · exact h
  all_goals simp [h, k] at active

theorem leaveGas_sup {g : GasState} (h : g ≠ .relief) (s : State) : (leaveGas g s).sup = s.sup := by
  cases g <;> simp_all [leaveGas]

theorem enterGas_sup {g : GasState} (h : g ≠ .relief) (s : State) : (enterGas g s).sup = s.sup := by
  cases g <;> simp_all [enterGas]

/-- What an evaluation can do to the supervisor (R136). -/
theorem evaluateGas_overMoves (s : State) : OverMoves s (evaluateGas s) := by
  unfold evaluateGas moveGas
  split
  · exact .inl rfl
  · next moved =>
    by_cases left : s.gas.state = .relief
    · have entered : decideGas s ≠ .relief := fun e => moved (e.trans left.symm)
      have under : ¬OverCeiling s := fun above => entered (decideGas_of_overCeiling above)
      have sup : (enterGas (decideGas s) (leaveGas s.gas.state (s.mapGas (·.moveTo (decideGas s))))).sup =
          { s.sup with active := withoutAlarm s.sup.active .overpressure } := by
        rw [enterGas_sup entered, left]
        simp [leaveGas]
      unfold OverMoves overActive
      rw [sup]
      cases active : hasAlarm s.sup.active .overpressure
      · exact .inl (by rw [withoutAlarm_of_not_has active])
      · exact .inr (.inr ⟨under, rfl, by simp⟩)
    · have sup : (leaveGas s.gas.state (s.mapGas (·.moveTo (decideGas s)))).sup = s.sup := by simp [leaveGas_sup left]
      by_cases entered : decideGas s = .relief
      · have above := overCeiling_of_decideGas entered left
        rw [entered] at sup ⊢
        cases active : hasAlarm s.sup.active .overpressure
        · exact .inr (.inl ⟨above, active, by simp [overActive, enterGas]⟩)
        · refine .inl ?_
          unfold enterGas
          rw [raiseAlarm_of_active _ (by simp [sup, active])]
          simp [sup]
      · exact .inl (by rw [enterGas_sup entered, sup])

end Sys2Proof.Machine
end

section
/-! ### What the sequencer does in a 1 min event (R75, R76, R83 to R85) -/

namespace Sys2Proof.Machine

/-! #### A step's start (R77) in its parts -/

/-- The sequencer's and the accumulator's part of a step's start (R76, R94). -/
def stepPlaced (index : Nat) (r : StepRecord) (s : State) : State :=
  let s := s.mapSeq fun q =>
    let q := { q with index := index, count := 0 }
    match startPhase r (reportedSetpoint s.temp) with
    | .ramping => { q with phase := some .ramping }
    | .soaking | .waiting => enterSoaking r q
  if s.seq.phase = some .ramping then s else s.mapTemp fun t => { t with accumulator := r.target * 65536 }

/-- The pour's part: one that began in SERVE ends with the mode (R172). -/
def stepPour (oldMode : Option GasMode) (s : State) : State :=
  if oldMode = some .serve ∧ handedMode s ≠ some .serve then endFlowing .mode s else s

/-- The frames that tell of the start (R39, R79). -/
def stepTold (r : StepRecord) (s : State) : State :=
  match r.syncOut with
  | some g => queueFrame (.groupSync g) (queueBayState s)
  | none => queueBayState s

/-- A step's start up to the evaluation of the regulation state. -/
def stepSet (oldMode : Option GasMode) (index : Nat) (r : StepRecord) (s : State) : State :=
  formUrgency (updateLockouts (stepPour oldMode (computeSetpoint (clearRing (stepPlaced index r s)))))

theorem beginStep_eq (oldMode : Option GasMode) (index : Nat) (r : StepRecord) (s : State) :
    beginStep oldMode index r s = updateLeak (stepTold r (takeUpMode oldMode (stepSet oldMode index r s))) := by
  unfold beginStep stepTold stepSet stepPour stepPlaced
  cases r.syncOut <;> rfl

theorem stepPlaced_seq (index : Nat) (r : StepRecord) (s : State) :
    ∃ p, (stepPlaced index r s).seq = { s.seq with index := index, count := 0, phase := p } := by
  unfold stepPlaced enterSoaking
  dsimp only
  (repeat' split) <;> exact ⟨_, rfl⟩

theorem stepPlaced_frame (index : Nat) (r : StepRecord) (s : State) :
    (stepPlaced index r s).setup = s.setup ∧ (stepPlaced index r s).sup = s.sup ∧
      (stepPlaced index r s).sampling = s.sampling ∧ (stepPlaced index r s).gas = s.gas := by
  unfold stepPlaced
  dsimp only
  (repeat' split) <;> simp

theorem stepPour_frame (m : Option GasMode) (s : State) :
    (stepPour m s).setup = s.setup ∧ (stepPour m s).sup = s.sup ∧ (stepPour m s).sampling = s.sampling ∧
      (stepPour m s).gas = s.gas ∧ (stepPour m s).seq = s.seq := by
  unfold stepPour
  split <;> simp

theorem stepTold_frame (r : StepRecord) (s : State) :
    (stepTold r s).setup = s.setup ∧ (stepTold r s).sup = s.sup ∧ (stepTold r s).sampling = s.sampling ∧
      (stepTold r s).gas = s.gas ∧ (stepTold r s).seq = s.seq := by
  unfold stepTold
  split <;> simp

/-- The setpoint computed at the start (R77). -/
def stepComputed (index : Nat) (r : StepRecord) (s : State) : State :=
  computeSetpoint (clearRing (stepPlaced index r s))

theorem stepSet_frame (m : Option GasMode) (index : Nat) (r : StepRecord) (s : State) :
    (stepSet m index r s).setup = s.setup ∧ (stepSet m index r s).sup = s.sup ∧
      (stepSet m index r s).sampling = s.sampling ∧ (stepSet m index r s).gas = (stepComputed index r s).gas ∧
      (stepSet m index r s).seq = (stepPlaced index r s).seq := by
  simp [stepSet, stepComputed, stepPour_frame, stepPlaced_frame]

/-- A step starts in its slot; banks, profile and pending switch stand (R77). -/
theorem beginStep_seq (m : Option GasMode) (index : Nat) (r : StepRecord) (s : State) :
    ∃ p, (beginStep m index r s).seq = { s.seq with index := index, count := 0, phase := p } := by
  obtain ⟨p, placed⟩ := stepPlaced_seq index r s
  exact ⟨p, by simp [beginStep_eq, stepTold_frame, stepSet_frame, placed]⟩

theorem updateLeak_setpointStands (s : State) : SetpointStands s (updateLeak s) := by simp [SetpointStands]

/-- After its computation a step's start leaves the setpoint (R77). -/
theorem beginStep_setpointStands (m : Option GasMode) (index : Nat) (r : StepRecord) (s : State) :
    SetpointStands (stepComputed index r s) (beginStep m index r s) := by
  have set : SetpointStands (stepComputed index r s) (stepSet m index r s) := .of_gas (by simp [stepSet_frame])
  have told (x : State) : SetpointStands x (stepTold r x) := .of_gas (by simp [stepTold_frame])
  rw [beginStep_eq]
  exact (set.trans (takeUpMode_setpointStands m _)).trans ((told _).trans (updateLeak_setpointStands _))

/-- A step's start computes the setpoint of its own target (R77, R128). -/
theorem beginStep_computed (m : Option GasMode) (index : Nat) (r : StepRecord) (s : State) :
    SetpointComputed (beginStep m index r s) := by
  refine (computeSetpoint_computed _).of_stands ?_ ?_ ?_ (beginStep_setpointStands m index r s)
  · simp [handedTarget, beginStep_eq, stepTold_frame, stepSet_frame]
  · simp [stepPlaced_frame]
  · simp [stepPlaced_frame]

theorem clearRing_setpointStands (s : State) : SetpointStands s (clearRing s) := by simp [SetpointStands, clearRing]

/-- Without a temperature a step's start leaves the setpoint (R128). -/
theorem beginStep_setpointStands_of_none (m : Option GasMode) (index : Nat) (r : StepRecord) {s : State}
    (none : s.sampling.beer.filtered = none) : SetpointStands s (beginStep m index r s) := by
  have placed : SetpointStands s (stepPlaced index r s) := .of_gas (by simp [stepPlaced_frame])
  have computed : stepComputed index r s = clearRing (stepPlaced index r s) :=
    computeSetpoint_of_none (.inr (by simp [stepPlaced_frame, none]))
  exact (placed.trans (clearRing_setpointStands _)).trans (computed ▸ beginStep_setpointStands m index r s)

theorem overCeiling_congr {s t : State} (sampling : t.sampling = s.sampling) (ceiling : t.gas.ceiling = s.gas.ceiling) :
    OverCeiling t ↔ OverCeiling s := by
  unfold OverCeiling
  rw [sampling, ceiling]

/-- A step's start moves of the supervisor what its evaluation of the regulation state does (R77, R139). -/
theorem beginStep_overMoves (m : Option GasMode) (index : Nat) (r : StepRecord) (s : State) :
    OverMoves s (beginStep m index r s) := by
  have rested : ∃ x, takeUpMode m (stepSet m index r s) = evaluateGas x ∧ x.sup = s.sup ∧ x.sampling = s.sampling ∧
      x.gas.ceiling = s.gas.ceiling := by
    refine ⟨_, rfl, ?_⟩
    split <;> simp [stepSet_frame, stepComputed, stepPlaced_frame, Gas.moveTo]
  obtain ⟨x, evaluated, sup, sampling, ceiling⟩ := rested
  have told : (beginStep m index r s).sup = (evaluateGas x).sup := by
    rw [beginStep_eq, ← evaluated]
    simp [stepTold_frame]
  have started : OverMoves s x := .inl sup
  have moved : OverMoves s (evaluateGas x) :=
    started.trans (evaluateGas_overMoves x) (overCeiling_congr sampling ceiling)
  unfold OverMoves overActive at moved ⊢
  rwa [told]

end Sys2Proof.Machine
end

section
/-! #### The sequencer's moves and their chain (R76, R81, R83 to R85) -/

namespace Sys2Proof.Machine

/-- What the sequencer's part of a 1 min event does from `s` to `t`: nothing, or the sequencer has come further; of the
supervisor OVERPRESSURE's moves alone; the gas setpoint stands without a temperature, and a computed one is kept. -/
structure SequencerMoves (s t : State) : Prop where
  sampling : t.sampling = s.sampling
  ceiling : t.gas.ceiling = s.gas.ceiling
  further : t = s ∨ s.seq.progress < t.seq.progress
  alarm : OverMoves s t
  unheated : s.sampling.beer.filtered = none → SetpointStands s t
  computed : SetpointComputed s → SetpointComputed t

theorem SequencerMoves.refl (s : State) : SequencerMoves s s :=
  ⟨rfl, rfl, .inl rfl, .inl rfl, fun _ => .refl s, id⟩

theorem SequencerMoves.trans {s t u : State} (h : SequencerMoves s t) (k : SequencerMoves t u) : SequencerMoves s u where
  sampling := k.sampling.trans h.sampling
  ceiling := k.ceiling.trans h.ceiling
  further := by
    rcases k.further with rfl | later
    · exact h.further
    · rcases h.further with rfl | before
      exacts [.inr later, .inr (before.trans later)]
  alarm := h.alarm.trans k.alarm (overCeiling_congr h.sampling h.ceiling)
  unheated none := (h.unheated none).trans (k.unheated (by rw [h.sampling, none]))
  computed c := k.computed (h.computed c)

/-- A phase or a count that goes on, with the same step current. -/
theorem SequencerMoves.of_seq {f : Sequencer → Sequencer} {s : State} (current : (f s.seq).current = s.seq.current)
    (later : s.seq.progress < (f s.seq).progress) : SequencerMoves s (s.mapSeq f) where
  sampling := rfl
  ceiling := rfl
  further := .inr later
  alarm := .inl rfl
  unheated _ := .refl s
  computed c := c.of_stands (congrArg (fun r : Option StepRecord => r.bind (·.gas.target)) current) rfl rfl (.refl s)

/-- A step's start, where it takes the sequencer further (R77). -/
theorem beginStep_moves (m : Option GasMode) (index : Nat) (r : StepRecord) {f : Sequencer → Sequencer} {s : State}
    (later : ∀ p, s.seq.progress < ({ f s.seq with index := index, count := 0, phase := p } : Sequencer).progress) :
    SequencerMoves s (beginStep m index r (s.mapSeq f)) where
  sampling := by simp
  ceiling := by simp
  further := by
    obtain ⟨p, seq⟩ := beginStep_seq m index r (s.mapSeq f)
    exact .inr (seq ▸ later p)
  alarm := beginStep_overMoves m index r (s.mapSeq f)
  unheated none := beginStep_setpointStands_of_none m index r (s := s.mapSeq f) none
  computed _ := beginStep_computed m index r (s.mapSeq f)

/-- A pending switch is taken, or stays with an EMPTY start slot (R81). -/
theorem takeSwitch_moves (start : Nat) {s : State} (pending : s.seq.pendingSwitch ≠ none) :
    SequencerMoves s (takeSwitch start s) := by
  unfold takeSwitch
  dsimp only
  split
  · exact .refl s
  · exact beginStep_moves _ _ _ fun p => progress_of_switch pending rfl

/-- The profile's end keeps the step current, and the regulator evaluates (R83, R130). -/
theorem endProfile_moves {s : State} (running : s.seq.profile = .running) :
    SequencerMoves s (changeProfile .ended s) where
  sampling := by simp
  ceiling := by simp
  further := by
    have ended : (changeProfile .ended s).seq = { s.seq with profile := .ended } := by simp [changeProfile]
    exact .inr (ended ▸ progress_of_ended (by simp [running]))
  alarm := by
    have evaluated := evaluateGas_overMoves (s.mapSeq fun q => { q with profile := .ended })
    have sup : (changeProfile .ended s).sup = (evaluateGas (s.mapSeq fun q => { q with profile := .ended })).sup := by
      simp [changeProfile]
    unfold OverMoves overActive at evaluated ⊢
    rw [sup]
    exact evaluated
  unheated _ := by
    have evaluated := evaluateGas_setpointStands (s.mapSeq fun q => { q with profile := .ended })
    exact evaluated.trans (.of_gas (by simp [changeProfile]))
  computed c := by
    have evaluated := evaluateGas_setpointStands (s.mapSeq fun q => { q with profile := .ended })
    have stands : SetpointStands s (changeProfile .ended s) := evaluated.trans (.of_gas (by simp [changeProfile]))
    refine c.of_stands ?_ (by simp) (by simp) stands
    have current := s.seq.current_of_profile (p := .ended) (by simp [running]) (by decide)
    exact congrArg (fun r : Option StepRecord => r.bind (·.gas.target)) (by simpa [changeProfile] using current)

theorem endStep_moves {s : State} (running : s.seq.profile = .running) : SequencerMoves s (endStep s) := by
  unfold endStep
  split
  · next pending => exact takeSwitch_moves _ (by simp [pending])
  · split
    · exact beginStep_moves (f := id) (s := s) _ _ _ fun p => progress_of_index rfl (Nat.lt_succ_self _)
    · exact endProfile_moves running

theorem chain_moves (n : Nat) (s : State) : SequencerMoves s (chain n s) := by
  induction n generalizing s with
  | zero => exact .refl s
  | succ n ih =>
    unfold chain
    split
    · next met => exact (endStep_moves (profile_of_waitingEndMet met)).trans (ih _)
    · exact .refl s

theorem elapseDuration_moves (s : State) : SequencerMoves s (elapseDuration s) := by
  unfold elapseDuration
  split
  · next up =>
    obtain ⟨-, -, -, soaking, -⟩ := (durationUp_eq_true s).1 up
    exact (SequencerMoves.of_seq rfl (progress_of_phase (by simp [soaking, phaseRank]))).trans (chain_moves _ _)
  · exact .refl s

theorem targetReached_moves {s : State} (ramping : s.seq.phase = some .ramping) :
    SequencerMoves s (targetReached s) := by
  unfold targetReached
  split
  · next r _ =>
    have later : phaseRank s.seq.phase < phaseRank (some (if r.duration = 0 then .waiting else .soaking)) := by
      split <;> simp [ramping, phaseRank]
    exact (SequencerMoves.of_seq rfl (progress_of_phase later)).trans (chain_moves _ _)
  · exact .refl s

theorem countMinute_moves (s : State) : SequencerMoves s (countMinute s) := by
  unfold countMinute
  split
  · exact .of_seq rfl progress_of_count
  · exact .refl s

theorem sequencerMinute_moves {reached : Bool} {s : State} (ramping : reached = true → s.seq.phase = some .ramping) :
    SequencerMoves s (sequencerMinute reached s) := by
  unfold sequencerMinute
  split
  · next yes => exact targetReached_moves (ramping yes)
  · exact countMinute_moves s

/-- A ramp reports its target only while it advances (R95). -/
theorem rampMove_reached {s : State} (reached : (rampMove s).2 = true) : s.seq.phase = some .ramping := by
  unfold rampMove at reached
  split at reached
  · split at reached
    · next advancing =>
      simp only [stepAdvancing, Bool.and_eq_true, decide_eq_true_eq] at advancing
      exact advancing.2
    · simp at reached
  · simp at reached

end Sys2Proof.Machine
end

section
/-! ### O28 -/

namespace Sys2Proof.Machine

theorem exec_event1min_due {b : Bool} {s : State} (up : s.held = false) (due : s.time.due1min = true) :
    exec (.event1min b) s = .next (updateLeak (oneMinuteEvent b s)) := by
  rw [exec_event1min, execEvent1min, perform_running _ up, if_pos due]

/-- The 1 min event taken, the uptime counted (R4), and the ramp moved (R95). -/
def minuteTaken (s : State) : State × Bool :=
  rampMove (s.mapTime fun t => { t with due1min := false, uptime := nextUptime t.uptime })

/-- The gas setpoint and the control window (R97, R128). -/
def windowDone (s : State) : State := formWindow (computeSetpoint s)

/-- The event's two parts in their order, before the idle timer counts it. -/
def minuteDone (sequencerFirst : Bool) (s : State) : State :=
  if sequencerFirst then windowDone (elapseDuration (sequencerMinute (minuteTaken s).2 (minuteTaken s).1))
  else sequencerMinute (minuteTaken s).2 (windowDone (minuteTaken s).1)

theorem oneMinuteEvent_eq (b : Bool) (s : State) : oneMinuteEvent b s = countIdle (minuteDone b s) := rfl

theorem minuteTaken_frame (s : State) :
    (minuteTaken s).1.setup = s.setup ∧ (minuteTaken s).1.sup = s.sup ∧ (minuteTaken s).1.sampling = s.sampling ∧
      (minuteTaken s).1.link = s.link ∧ (minuteTaken s).1.view = s.view ∧ (minuteTaken s).1.seq = s.seq ∧
      (minuteTaken s).1.cool = s.cool ∧ (minuteTaken s).1.gas = s.gas := by
  simp [minuteTaken]

theorem windowDone_seq (s : State) : (windowDone s).seq = s.seq := by simp [windowDone]

theorem windowDone_sup (s : State) : (windowDone s).sup = s.sup := by simp [windowDone]

theorem windowDone_sampling (s : State) : (windowDone s).sampling = s.sampling := by simp [windowDone]

theorem windowDone_gas (s : State) : (windowDone s).gas = (computeSetpoint s).gas := by simp [windowDone]

/-- A ramp reports its target in RAMPING (R95). -/
theorem minuteTaken_reached {s : State} (reached : (minuteTaken s).2 = true) :
    (minuteTaken s).1.seq.phase = some .ramping := by
  obtain ⟨-, -, -, -, -, seq, -, -⟩ := minuteTaken_frame s
  have ramping := rampMove_reached reached
  rwa [seq]

/-- The sequencer's part where it comes first (R75, R76). -/
theorem sequencerFirst_moves (s : State) :
    SequencerMoves (minuteTaken s).1 (elapseDuration (sequencerMinute (minuteTaken s).2 (minuteTaken s).1)) :=
  (sequencerMinute_moves minuteTaken_reached).trans (elapseDuration_moves _)

/-- The sequencer's part where it comes second (R75, R76). -/
theorem sequencerSecond_moves (s : State) :
    SequencerMoves (windowDone (minuteTaken s).1) (sequencerMinute (minuteTaken s).2 (windowDone (minuteTaken s).1)) := by
  refine sequencerMinute_moves fun reached => ?_
  rw [windowDone_seq]
  exact minuteTaken_reached reached

/-- The cooling share unit's block is that of a window begun with the peer view, the setup and the share unit of before. -/
theorem minuteDone_cool (b : Bool) (s : State) :
    ∃ demand w, (minuteDone b s).cool = (formShare demand w).cool ∧ w.cool = s.cool ∧ w.view = s.view ∧
      w.setup = s.setup ∧ w.link.silent = s.link.silent := by
  cases b
  · obtain ⟨demand, formed⟩ := formWindow_cool (computeSetpoint (minuteTaken s).1)
    exact ⟨demand, computeSetpoint (minuteTaken s).1, by simp [minuteDone, windowDone, formed],
      by simp [minuteTaken_frame]⟩
  · obtain ⟨demand, formed⟩ := formWindow_cool
      (computeSetpoint (elapseDuration (sequencerMinute (minuteTaken s).2 (minuteTaken s).1)))
    exact ⟨demand, computeSetpoint (elapseDuration (sequencerMinute (minuteTaken s).2 (minuteTaken s).1)),
      by simp [minuteDone, windowDone, formed], by simp [minuteTaken_frame]⟩

/-- The gas setpoint is computed in either order (R128). -/
theorem minuteDone_computed (b : Bool) (s : State) : SetpointComputed (minuteDone b s) := by
  have window (x : State) : SetpointComputed (windowDone x) :=
    (computeSetpoint_computed x).of_stands (by simp [handedTarget, windowDone]) (by simp [windowDone]) (by simp [windowDone])
      (.of_gas (by simp [windowDone]))
  cases b
  · exact (sequencerSecond_moves s).computed (window _)
  · exact window _

theorem windowDone_setpointStands {s : State} (h : handedTarget s = none ∨ s.sampling.beer.filtered = none) :
    SetpointStands s (windowDone s) :=
  .of_gas (by rw [windowDone_gas, computeSetpoint_of_none h])

/-- Without a temperature, or with no step started and no target handed, the gas setpoint stands (R128). -/
theorem minuteDone_setpointStands {b : Bool} {s : State}
    (h : s.sampling.beer.filtered = none ∨ ((minuteDone b s).seq = s.seq ∧ handedTarget s = none)) :
    SetpointStands s (minuteDone b s) := by
  obtain ⟨-, -, sampling, -, -, seq, -, gas⟩ := minuteTaken_frame s
  have taken : SetpointStands s (minuteTaken s).1 := .of_gas gas
  have target : handedTarget (minuteTaken s).1 = handedTarget s := by rw [handedTarget, handedTarget, seq]
  cases b
  · have moves := sequencerSecond_moves s
    have window : SetpointStands s (windowDone (minuteTaken s).1) :=
      taken.trans (windowDone_setpointStands (by rw [target, sampling]; tauto))
    refine window.trans ?_
    rcases h with none | ⟨same, -⟩
    · exact moves.unheated (by rw [windowDone_sampling, sampling, none])
    · rcases moves.further with stays | later
      · exact .of_gas (congrArg State.gas stays)
      · rw [windowDone_seq, seq] at later
        exact absurd (same ▸ later) (lt_irrefl _)
  · have moves := sequencerFirst_moves s
    rcases h with none | ⟨same, untargeted⟩
    · have sequenced := taken.trans (moves.unheated (by rw [sampling, none]))
      exact sequenced.trans (windowDone_setpointStands (.inr (by rw [moves.sampling, sampling, none])))
    · have seq' : (windowDone (elapseDuration (sequencerMinute (minuteTaken s).2 (minuteTaken s).1))).seq = s.seq := same
      rw [windowDone_seq] at seq'
      rcases moves.further with stays | later
      · refine SetpointStands.trans (.of_gas ((congrArg State.gas stays).trans gas)) (windowDone_setpointStands (.inl ?_))
        rw [handedTarget, seq']
        exact untargeted
      · rw [seq', seq] at later
        exact absurd later (lt_irrefl _)

/-- Of the supervisor the two parts move OVERPRESSURE alone (R136). -/
theorem minuteDone_overMoves (b : Bool) (s : State) : OverMoves s (minuteDone b s) := by
  obtain ⟨-, sup, sampling, -, -, -, -, gas⟩ := minuteTaken_frame s
  have taken : OverMoves s (minuteTaken s).1 := .inl sup
  have window (x : State) : OverMoves x (windowDone x) := .inl (windowDone_sup x)
  have same := overCeiling_congr sampling (congrArg Gas.ceiling gas)
  cases b
  · exact (taken.trans (window _) same).trans (sequencerSecond_moves s).alarm
      (overCeiling_congr (by simp [windowDone, sampling]) (by simp [windowDone, gas]))
  · have moves := sequencerFirst_moves s
    exact (taken.trans moves.alarm same).trans (window _)
      (overCeiling_congr (moves.sampling.trans sampling) (moves.ceiling.trans (congrArg Gas.ceiling gas)))

theorem minuteDone_frame (b : Bool) (s : State) :
    (minuteDone b s).setup = s.setup ∧ (minuteDone b s).sampling = s.sampling ∧ (minuteDone b s).view = s.view ∧
      (minuteDone b s).disp.level = s.disp.level ∧ (minuteDone b s).disp.log = s.disp.log ∧
      (minuteDone b s).time = { s.time with due1min := false, uptime := nextUptime s.time.uptime } := by
  cases b <;> simp [minuteDone, windowDone, minuteTaken]

/-! #### The idle timer (R184) -/

/-- The idle timer counts below its period while it runs, and nothing else of the supervisor moves (R184). -/
theorem countIdle_sup {s : State} {runs : Prop} [Decidable runs] (h : idleRunning s = true ↔ runs) :
    (countIdle s).sup = { s.sup with
      idleCount :=
        if runs ∧ s.sup.idleCount < s.setup.idlePeriod then s.sup.idleCount + 1 else s.sup.idleCount } := by
  unfold countIdle
  split
  · next counts =>
    rw [if_pos (by simpa [h] using counts)]
    rfl
  · next rests => rw [if_neg (by simpa [h] using rests)]

theorem idleRunning_eq_true (s : State) :
    idleRunning s = true ↔
      s.sup.station = .run ∧ s.sup.quiet = false ∧ s.setup.idlePeriod ≠ 0 ∧ s.disp.state = .idle := by
  simp [idleRunning, idleStarted, and_assoc]

/-- Settles O28: the window, the setpoint and the supervisor each from the lemmas on the event's parts. -/
theorem everyMinuteFormsTheShare : Obligations.EveryMinuteFormsTheShare := by
  intro b s up due
  obtain ⟨demand, w, cool, before, view, setup, silent⟩ := minuteDone_cool b s
  obtain ⟨capacity, throttle, grant, openTime, openTimer⟩ := formShare_cool demand w
  obtain ⟨setup', sampling, view', level, log, time⟩ := minuteDone_frame b s
  rw [← cool] at capacity throttle grant openTime openTimer
  have done : (updateLeak (oneMinuteEvent b s)).cool = (minuteDone b s).cool := by simp [oneMinuteEvent_eq]
  have stands : SetpointStands (minuteDone b s) (updateLeak (oneMinuteEvent b s)) :=
    SetpointStands.trans (.of_gas (by simp [oneMinuteEvent_eq])) (updateLeak_setpointStands _)
  have seq : (updateLeak (oneMinuteEvent b s)).seq = (minuteDone b s).seq := by simp [oneMinuteEvent_eq]
  refine ⟨_, exec_event1min_due up due, ?_, fun h => ?_, fun c loud reading => ?_, fun c reading saturated => ?_,
    fun relaxed => ?_, ?_, ?_, ?_, ?_, ?_, ?_, fun h => ?_, fun same => ?_, ?_⟩
  · have unmoved : (updateLeak (oneMinuteEvent b s)).time = (minuteDone b s).time := by simp [oneMinuteEvent_eq]
    rw [unmoved, time]
    rfl
  · rw [done, capacity]
    rcases h with deaf | unheard
    · simp [capacityInUse, silent, deaf, setup]
    · simp [capacityInUse, view, unheard, setup]
  · rw [done]
    simp [capacity, capacityInUse, silent, loud, view, reading]
  · rw [done]
    simp [throttle, nextThrottle, view, reading, saturated, before]
  · have unsaturated : (s.view.chillerReading.map (·.saturated)).getD false = false := by
      cases reading : s.view.chillerReading with
      | none => rfl
      | some c => exact relaxed c reading
    rw [done]
    simp [throttle, nextThrottle, view, unsaturated, before]
  · rw [done, grant, view, setup, silent]
    rfl
  · rw [done, grant]
    exact (finalGrant_le _ _ _ _).trans (weightedShare_le_demand _ _ _ _)
  · rw [done, grant]
    exact (finalGrant_le _ _ _ _).trans (weightedShare_le_capacity _ _ _ _)
  · rw [done, openTime, setup]
    rfl
  · rw [done, openTimer, windowTimer_eq]
  · exact (minuteDone_computed b s).of_stands (by rw [handedTarget, handedTarget, seq]) (by simp [oneMinuteEvent_eq])
      (by simp [oneMinuteEvent_eq]) stands
  · exact (minuteDone_setpointStands (seq ▸ h)).trans stands
  · have sup : (updateLeak (oneMinuteEvent b s)).sup = (countIdle (minuteDone b s)).sup := by simp [oneMinuteEvent_eq]
    have unmoved : (minuteDone b s).sup = s.sup := by
      refine (minuteDone_overMoves b s).sup_eq ?_
      rw [← same, sup, countIdle_sup Iff.rfl]
    have disp : (updateLeak (oneMinuteEvent b s)).disp = (minuteDone b s).disp := by simp [oneMinuteEvent_eq]
    have runs := idleRunning_eq_true (minuteDone b s)
    rw [unmoved, setup', ← disp] at runs
    rw [sup, countIdle_sup runs, unmoved, setup']
  · simp [oneMinuteEvent_eq, setup', sampling, view', level, log]

end Sys2Proof.Machine
end


section
/-! ## The transmit queue and the bus: O7

Outside the link controller's own rows the blocks reach the link controller in few ways: they queue fresh frames, count
and begin anew the report count, and forget the CLAIM of an earlier claim. `Queues` is the closure of these; each
operation is shown once to be one, and the invariant and SILENT's deafness are then shown of the closure alone. -/

namespace Sys2Proof.Machine

/-! ### What the blocks do to the link controller -/

/-- From `l` to `m` the link controller has only queued fresh frames (R28), counted its reports (R38), and forgotten
which frame is the live CLAIM (R149). -/
inductive Queues (l : Link) : Link → Prop where
  | refl : Queues l l
  | enqueue {m : Link} (f : QFrame) (fresh : f.attempts = 0) (waits : f.inFlight = false) (h : Queues l m) :
      Queues l (m.enqueue f).1
  | report {m : Link} (count : Nat) (begun : Bool) (loud : m.silent = false) (h : Queues l m) :
      Queues l { m with reportCount := count, reportBegunNow := begun }
  | unclaim {m : Link} (h : Queues l m) :
      Queues l { m with queue := m.queue.map fun q => { q with liveClaim := false } }

/-- SILENT and the bus stand (R24, R32, R40), and so do the drop count and whether an attempt is under way. -/
theorem Queues.stands {l m : Link} (h : Queues l m) :
    m.silent = l.silent ∧ m.bus = l.bus ∧ m.rx = l.rx ∧ m.dropCount = l.dropCount ∧
      m.attempt.isSome = l.attempt.isSome := by
  induction h with
  | refl => simp
  | enqueue f _ _ _ ih => simpa using ih
  | report _ _ _ _ ih => exact ih
  | unclaim _ ih => exact ih

/-- In SILENT, which keeps the queue empty, nothing is queued (R40). -/
theorem Queues.deaf {l m : Link} (h : Queues l m) (silent : l.silent = true) (empty : l.queue = []) : m = l := by
  induction h with
  | refl => rfl
  | enqueue f _ _ _ ih => rw [ih, enqueue_silent f l silent]
  | report _ _ loud _ ih => simp [ih, silent] at loud
  | unclaim _ ih => rw [ih, empty, List.map_nil, ← empty]

/-- The marks on the frames do not touch the invariant. -/
theorem linkOk_unclaim {l : Link} (h : LinkOk l) :
    LinkOk { l with queue := l.queue.map fun q => { q with liveClaim := false } } := by
  obtain ⟨⟨short, sorted, fewer⟩, silent, flying, rest⟩ := h
  refine ⟨⟨by simpa using short, by simpa [Function.comp_def] using sorted, by simpa using fewer⟩, ?_, ?_, rest⟩
  · intro quiet
    simp [silent quiet]
  · simpa [List.filter_map, Function.comp_def] using flying

theorem Queues.linkOk {l m : Link} (h : Queues l m) (ok : LinkOk l) : LinkOk m := by
  induction h with
  | refl => exact ok
  | enqueue f fresh waits _ ih => exact enqueue_linkOk f _ (by omega) waits ih
  | report _ _ _ _ ih => exact ih
  | unclaim _ ih => exact linkOk_unclaim ih

/-! ### The shared operations, in the order of their definitions -/

/-- The link controller of `s` is one that the blocks may have made of `l`. -/
def QueuesFrom (l : Link) (s : State) : Prop := Queues l s.link

theorem QueuesFrom.refl (s : State) : QueuesFrom s.link s := Queues.refl

theorem QueuesFrom.ite {l : Link} {c : Prop} [Decidable c] {s t : State} (hs : QueuesFrom l s) (ht : QueuesFrom l t) :
    QueuesFrom l (if c then s else t) := by
  split
  exacts [hs, ht]

@[simp] theorem queuesFrom_mapSup (l : Link) (f : Supervisor → Supervisor) (s : State) :
    QueuesFrom l (s.mapSup f) ↔ QueuesFrom l s := Iff.rfl
@[simp] theorem queuesFrom_mapSampling (l : Link) (f : Sampling → Sampling) (s : State) :
    QueuesFrom l (s.mapSampling f) ↔ QueuesFrom l s := Iff.rfl
@[simp] theorem queuesFrom_mapDrivers (l : Link) (f : Drivers → Drivers) (s : State) :
    QueuesFrom l (s.mapDrivers f) ↔ QueuesFrom l s := Iff.rfl
@[simp] theorem queuesFrom_mapView (l : Link) (f : PeerView → PeerView) (s : State) :
    QueuesFrom l (s.mapView f) ↔ QueuesFrom l s := Iff.rfl
@[simp] theorem queuesFrom_mapSeq (l : Link) (f : Sequencer → Sequencer) (s : State) :
    QueuesFrom l (s.mapSeq f) ↔ QueuesFrom l s := Iff.rfl
@[simp] theorem queuesFrom_mapTemp (l : Link) (f : Temperature → Temperature) (s : State) :
    QueuesFrom l (s.mapTemp f) ↔ QueuesFrom l s := Iff.rfl
@[simp] theorem queuesFrom_mapCool (l : Link) (f : Cooling → Cooling) (s : State) :
    QueuesFrom l (s.mapCool f) ↔ QueuesFrom l s := Iff.rfl
@[simp] theorem queuesFrom_mapGas (l : Link) (f : Gas → Gas) (s : State) :
    QueuesFrom l (s.mapGas f) ↔ QueuesFrom l s := Iff.rfl
@[simp] theorem queuesFrom_mapDraw (l : Link) (f : Draw → Draw) (s : State) :
    QueuesFrom l (s.mapDraw f) ↔ QueuesFrom l s := Iff.rfl
@[simp] theorem queuesFrom_mapDisp (l : Link) (f : Dispense → Dispense) (s : State) :
    QueuesFrom l (s.mapDisp f) ↔ QueuesFrom l s := Iff.rfl
@[simp] theorem queuesFrom_mapTime (l : Link) (f : TimeBase → TimeBase) (s : State) :
    QueuesFrom l (s.mapTime f) ↔ QueuesFrom l s := Iff.rfl
@[simp] theorem queuesFrom_mapSetup (l : Link) (f : SetupItems → SetupItems) (s : State) :
    QueuesFrom l (s.mapSetup f) ↔ QueuesFrom l s := Iff.rfl

@[simp] theorem queuesFrom_claimSent (l : Link) (s : State) : QueuesFrom l (claimSent s) ↔ QueuesFrom l s := by
  simp [QueuesFrom]
@[simp] theorem queuesFrom_denyPour (l : Link) (r : DenyReason) (s : State) :
    QueuesFrom l (denyPour r s) ↔ QueuesFrom l s := by
  simp [QueuesFrom]
@[simp] theorem queuesFrom_lowPressureTest (l : Link) (s : State) :
    QueuesFrom l (lowPressureTest s) ↔ QueuesFrom l s := by
  simp [QueuesFrom]
@[simp] theorem queuesFrom_computeSetpoint (l : Link) (s : State) :
    QueuesFrom l (computeSetpoint s) ↔ QueuesFrom l s := by
  simp [QueuesFrom]
@[simp] theorem queuesFrom_refitSetpoint (l : Link) (s : State) : QueuesFrom l (refitSetpoint s) ↔ QueuesFrom l s := by
  simp [QueuesFrom]
@[simp] theorem queuesFrom_updateLeak (l : Link) (s : State) : QueuesFrom l (updateLeak s) ↔ QueuesFrom l s := by
  simp [QueuesFrom]
@[simp] theorem queuesFrom_leakDrift (l : Link) (t : Int) (s : State) :
    QueuesFrom l (leakDrift t s) ↔ QueuesFrom l s := by
  simp [QueuesFrom]
@[simp] theorem queuesFrom_completeBucket (l : Link) (s : State) :
    QueuesFrom l (completeBucket s) ↔ QueuesFrom l s := by
  simp [QueuesFrom]
@[simp] theorem queuesFrom_clearRing (l : Link) (s : State) : QueuesFrom l (clearRing s) ↔ QueuesFrom l s := by
  simp [QueuesFrom]
@[simp] theorem queuesFrom_formWindow (l : Link) (s : State) : QueuesFrom l (formWindow s) ↔ QueuesFrom l s := by
  simp [QueuesFrom]
@[simp] theorem queuesFrom_withdrawWindow (l : Link) (s : State) :
    QueuesFrom l (withdrawWindow s) ↔ QueuesFrom l s := by
  simp [QueuesFrom]
@[simp] theorem queuesFrom_countMinute (l : Link) (s : State) : QueuesFrom l (countMinute s) ↔ QueuesFrom l s := by
  simp [QueuesFrom]
@[simp] theorem queuesFrom_laterReading (l : Link) (p : SwitchPins) (s : State) :
    QueuesFrom l (laterReading p s) ↔ QueuesFrom l s := by
  simp [QueuesFrom]
@[simp] theorem queuesFrom_countIdle (l : Link) (s : State) : QueuesFrom l (countIdle s) ↔ QueuesFrom l s := by
  simp [QueuesFrom]
@[simp] theorem queuesFrom_setPending (l : Link) (p : Option PendingSwitch) (s : State) :
    QueuesFrom l (setPending p s) ↔ QueuesFrom l s := by
  simp [QueuesFrom]
@[simp] theorem queuesFrom_rampMove (l : Link) (s : State) : QueuesFrom l (rampMove s).1 ↔ QueuesFrom l s := by
  simp [QueuesFrom]


section
variable {l : Link} {s : State} (h : QueuesFrom l s)
include h

@[simp] theorem QueuesFrom.queueFrame (f : Frame) : QueuesFrom l (queueFrame f s) := h.enqueue _ rfl rfl

@[simp] theorem QueuesFrom.queueBayState : QueuesFrom l (queueBayState s) := by
  unfold QueuesFrom
  rw [queueBayState_link]
  split
  · exact h
  · next loud => exact (h.enqueue { frame := .bayState } rfl rfl).report 0 true (by simpa using loud)

@[simp] theorem QueuesFrom.enterQuiet : QueuesFrom l (enterQuiet s) := by simp [Machine.enterQuiet, h]

@[simp] theorem QueuesFrom.leaveQuiet : QueuesFrom l (leaveQuiet s) := by simp [Machine.leaveQuiet, h]

@[simp] theorem QueuesFrom.activityEvent (e : Activity) : QueuesFrom l (activityEvent e s) := by
  unfold Machine.activityEvent
  (repeat' split) <;> simp [h]

@[simp] theorem QueuesFrom.raiseAlarm (a : Alarm) (x : BitVec 4) : QueuesFrom l (raiseAlarm a s x) := by
  unfold Machine.raiseAlarm
  dsimp only
  split
  · exact h
  · refine QueuesFrom.activityEvent ?_ _
    split <;> simp [h]

@[simp] theorem QueuesFrom.endAlarm (a : Alarm) : QueuesFrom l (endAlarm a s) := by
  unfold Machine.endAlarm
  split <;> simp [h]

@[simp] theorem QueuesFrom.evaluateWatch : QueuesFrom l (evaluateWatch s) := by
  obtain e | ⟨x, e⟩ | e := evaluateWatch_cases s <;> simp [e, h]

@[simp] theorem QueuesFrom.makeClaim : QueuesFrom l (makeClaim s) := by
  have claimed :=
    h.unclaim.enqueue { frame := .draw .claim s.draw.urgency s.draw.supplyWeak, liveClaim := true } rfl rfl
  unfold Machine.makeClaim
  dsimp only
  split <;> exact claimed

@[simp] theorem QueuesFrom.examine : QueuesFrom l (examine s) := by
  unfold Machine.examine
  dsimp only
  (repeat' split) <;> simp [h]

@[simp] theorem QueuesFrom.needArrives : QueuesFrom l (needArrives s) := by
  unfold Machine.needArrives enterWaiting
  dsimp only
  (repeat' split) <;> simp [h]

@[simp] theorem QueuesFrom.needEnds : QueuesFrom l (needEnds s) := by
  unfold Machine.needEnds queueDraw
  dsimp only
  (repeat' split) <;> simp [h]

@[simp] theorem QueuesFrom.releaseToRecover : QueuesFrom l (releaseToRecover s) := by
  simp [Machine.releaseToRecover, queueDraw, h]

@[simp] theorem QueuesFrom.contendAgain : QueuesFrom l (contendAgain s) := by
  unfold Machine.contendAgain enterWaiting
  split <;> simp [h]

@[simp] theorem QueuesFrom.formUrgency : QueuesFrom l (formUrgency s) := by
  unfold Machine.formUrgency shortenBackoff queueDraw
  dsimp only
  (repeat' split) <;> simp [h]

@[simp] theorem QueuesFrom.updateLockouts : QueuesFrom l (updateLockouts s) := by
  unfold Machine.updateLockouts enterLocked queueDraw
  dsimp only
  (repeat' split) <;> simp [h]

@[simp] theorem QueuesFrom.supplyTest : QueuesFrom l (supplyTest s) := by
  unfold Machine.supplyTest
  dsimp only
  (repeat' split) <;> simp [h]

@[simp] theorem QueuesFrom.decideClaim : QueuesFrom l (decideClaim s) := by
  unfold Machine.decideClaim keepClaim giveUp queueDraw
  split <;> simp [h]

@[simp] theorem QueuesFrom.keepPeriod : QueuesFrom l (keepPeriod s) := by
  unfold Machine.keepPeriod queueDraw
  split <;> simp [h]

@[simp] theorem QueuesFrom.claimDropped : QueuesFrom l (claimDropped s) := by
  unfold Machine.claimDropped enterWaiting
  split <;> simp [h]

@[simp] theorem QueuesFrom.requestPour : QueuesFrom l (requestPour s) := by
  unfold Machine.requestPour grantPour pourStateChanged
  split <;> simp [h]

@[simp] theorem QueuesFrom.endFlowing (r : EndReason) : QueuesFrom l (endFlowing r s) := by
  unfold Machine.endFlowing pourStateChanged
  split <;> simp [h]

@[simp] theorem QueuesFrom.takeDeferred : QueuesFrom l (takeDeferred s) := by
  unfold Machine.takeDeferred
  dsimp only
  (repeat' split) <;> simp [h]

@[simp] theorem QueuesFrom.completePour : QueuesFrom l (completePour s) := by
  unfold Machine.completePour pourStateChanged
  split
  exacts [h, .takeDeferred (.formUrgency (.queueFrame h _))]

@[simp] theorem QueuesFrom.flowPulse : QueuesFrom l (flowPulse s) := by
  unfold Machine.flowPulse
  dsimp only
  (repeat' split) <;> simp [h]

@[simp] theorem QueuesFrom.stallEnd : QueuesFrom l (stallEnd s) := by
  unfold Machine.stallEnd
  split <;> simp [h]

@[simp] theorem QueuesFrom.dropForcedInlet : QueuesFrom l (dropForcedInlet s) := by
  unfold Machine.dropForcedInlet
  split <;> simp [h]

@[simp] theorem QueuesFrom.leaveGas (g : GasState) : QueuesFrom l (leaveGas g s) := by
  unfold Machine.leaveGas
  split <;> simp [h]

@[simp] theorem QueuesFrom.enterGas (g : GasState) : QueuesFrom l (enterGas g s) := by
  unfold Machine.enterGas
  split <;> simp [h]

@[simp] theorem QueuesFrom.evaluateGas : QueuesFrom l (evaluateGas s) := by
  unfold Machine.evaluateGas moveGas
  split <;> simp [h]

@[simp] theorem QueuesFrom.settleEnd : QueuesFrom l (settleEnd s) := by simp [Machine.settleEnd, h]

@[simp] theorem QueuesFrom.takeUpMode (m : Option GasMode) : QueuesFrom l (takeUpMode m s) := by
  unfold Machine.takeUpMode
  split <;> simp [h]

@[simp] theorem QueuesFrom.leakHour : QueuesFrom l (leakHour s) := by
  unfold Machine.leakHour
  dsimp only
  (repeat' split) <;> simp [h]

@[simp] theorem QueuesFrom.jacketLimitTest (f : Int) : QueuesFrom l (jacketLimitTest f s) := by
  unfold Machine.jacketLimitTest
  (repeat' split) <;> simp [h]

@[simp] theorem QueuesFrom.beginStep (m : Option GasMode) (i : Nat) (r : StepRecord) :
    QueuesFrom l (beginStep m i r s) := by
  have placed : QueuesFrom l (stepPlaced i r s) := by
    unfold stepPlaced
    dsimp only
    (repeat' split) <;> simpa using h
  have poured : QueuesFrom l (stepPour m (computeSetpoint (clearRing (stepPlaced i r s)))) := by
    unfold stepPour
    split <;> simp [placed]
  have evaluated : QueuesFrom l (Machine.takeUpMode m (stepSet m i r s)) :=
    .takeUpMode poured.updateLockouts.formUrgency _
  rw [beginStep_eq]
  unfold stepTold
  split <;> simp [evaluated]

@[simp] theorem QueuesFrom.takeSwitch (n : Nat) : QueuesFrom l (takeSwitch n s) := by
  unfold Machine.takeSwitch
  dsimp only
  split <;> simp [h]

@[simp] theorem QueuesFrom.changeProfile (p : ProfileState) : QueuesFrom l (changeProfile p s) := by
  simp [Machine.changeProfile, h]

@[simp] theorem QueuesFrom.endStep : QueuesFrom l (endStep s) := by
  unfold Machine.endStep
  (repeat' split) <;> simp [h]

omit h in
@[simp] theorem QueuesFrom.chain (n : Nat) {s : State} (h : QueuesFrom l s) : QueuesFrom l (chain n s) := by
  induction n generalizing s with
  | zero => exact h
  | succ n ih =>
    unfold Machine.chain
    split
    · exact ih h.endStep
    · exact h

@[simp] theorem QueuesFrom.endStepChain : QueuesFrom l (endStepChain s) := by simp [Machine.endStepChain, h]

@[simp] theorem QueuesFrom.takeSwitchChain (n : Nat) : QueuesFrom l (takeSwitchChain n s) := by
  simp [Machine.takeSwitchChain, h]

@[simp] theorem QueuesFrom.elapseDuration : QueuesFrom l (elapseDuration s) := by
  unfold Machine.elapseDuration
  split <;> simp [h]

@[simp] theorem QueuesFrom.targetReached : QueuesFrom l (targetReached s) := by
  unfold Machine.targetReached
  split <;> simp [h]

@[simp] theorem QueuesFrom.groupSyncAccepted (g : Nat) : QueuesFrom l (groupSyncAccepted g s) := by
  unfold Machine.groupSyncAccepted groupSyncAtSequencer
  (repeat' split) <;> simp [h]

@[simp] theorem QueuesFrom.stationChanged : QueuesFrom l (stationChanged s) := h.updateLockouts.formUrgency.evaluateGas

@[simp] theorem QueuesFrom.enterSafe : QueuesFrom l (enterSafe s) := by
  refine QueuesFrom.stationChanged (QueuesFrom.endFlowing ?_ _)
  simp [h]

@[simp] theorem QueuesFrom.startStation : QueuesFrom l (startStation s) := by
  have running : QueuesFrom l
      ((s.mapSup fun p => { p with station := .run, idleCount := 0 }).mapDrivers fun _ => {}) := h
  have unforced := running.needEnds.ite (c := s.drivers.inlet = .forcedOn) running
  have changed := ((queuesFrom_computeSetpoint l _).2 unforced).stationChanged.queueBayState
  exact changed.enterSafe.ite changed

@[simp] theorem QueuesFrom.raisePresentExtStop : QueuesFrom l (raisePresentExtStop s) := by
  unfold Machine.raisePresentExtStop
  split <;> simp [h]

@[simp] theorem QueuesFrom.beerSample (n : Nat) : QueuesFrom l (beerSample n s) := by
  unfold Machine.beerSample
  dsimp only
  (repeat' split) <;> simp [h]

@[simp] theorem QueuesFrom.jacketSample (n : Nat) : QueuesFrom l (jacketSample n s) := by
  unfold Machine.jacketSample
  dsimp only
  (repeat' split) <;> simp [h]

@[simp] theorem QueuesFrom.pressureSample (n : Nat) : QueuesFrom l (pressureSample n s) := by
  unfold Machine.pressureSample
  dsimp only
  (repeat' split) <;> simp [h]

@[simp] theorem QueuesFrom.firstReading (p : SwitchPins) : QueuesFrom l (firstReading p s) :=
  .updateLockouts (.raisePresentExtStop (.evaluateWatch h))

@[simp] theorem QueuesFrom.lineChanged (n : Nat) : QueuesFrom l (lineChanged n s) := by
  unfold Machine.lineChanged
  split <;> simp [h]

/-! ### The events, and the commands' replies -/

@[simp] theorem QueuesFrom.coordinatorHandOver (w : Bool) : QueuesFrom l (coordinatorHandOver w s) := by
  have formed := h.updateLockouts.formUrgency
  exact (formed.examine.ite formed).supplyTest

@[simp] theorem QueuesFrom.hundredMsEvent (raw : Nat) (b : Bool) : QueuesFrom l (hundredMsEvent raw b s) := by
  unfold Machine.hundredMsEvent
  rw [queuesFrom_lowPressureTest]
  have sampled : QueuesFrom l (Machine.pressureSample raw
      ((s.mapTime fun t => { t with due100ms := false }).mapGas fun g =>
        { g with ceiling := s.setup.reliefCeiling })) := by simp [h]
  exact (sampled.coordinatorHandOver _).evaluateGas.ite (sampled.evaluateGas.coordinatorHandOver _)

@[simp] theorem QueuesFrom.countReport : QueuesFrom l (countReport s) := by
  unfold Machine.countReport
  split
  · exact h
  · next loud => exact Queues.report _ _ (by simpa using loud) h

@[simp] theorem QueuesFrom.oneSecondEvent (m n : Nat) : QueuesFrom l (oneSecondEvent m n s) := by
  have sampled : QueuesFrom l (Machine.beerSample m (s.mapTime fun t => { t with due1s := false })) := by simp [h]
  exact (sampled.jacketSample n).countReport

@[simp] theorem QueuesFrom.sequencerMinute (b : Bool) : QueuesFrom l (sequencerMinute b s) := by
  unfold Machine.sequencerMinute
  split <;> simp [h]

@[simp] theorem QueuesFrom.oneMinuteEvent (b : Bool) : QueuesFrom l (oneMinuteEvent b s) := by
  unfold Machine.oneMinuteEvent
  dsimp only
  split <;> simp [h]

@[simp] theorem QueuesFrom.oneHourEvent : QueuesFrom l (oneHourEvent s) := by
  unfold Machine.oneHourEvent bucketCompleted
  dsimp only
  split <;> simp [h]

@[simp] theorem QueuesFrom.pressHandle : QueuesFrom l (pressHandle s) := by
  unfold Machine.pressHandle
  dsimp only
  split <;> simp [h]

@[simp] theorem QueuesFrom.releaseHandle : QueuesFrom l (releaseHandle s) := by simp [Machine.releaseHandle, h]

@[simp] theorem QueuesFrom.changeKeg : QueuesFrom l (changeKeg s) := by
  have delivered : QueuesFrom l (s.mapSampling fun u => { u with keg := u.keg.deliver }) := h
  exact (delivered.ite (delivered.endFlowing _)).updateLockouts.lineChanged _

@[simp] theorem QueuesFrom.changeLid : QueuesFrom l (changeLid s) := by
  have delivered : QueuesFrom l (s.mapSampling fun u => { u with lid := u.lid.deliver }) := h
  exact (delivered.ite (delivered.activityEvent _)).lineChanged _

@[simp] theorem QueuesFrom.changeDrip : QueuesFrom l (changeDrip s) := by simp [Machine.changeDrip, h]

@[simp] theorem QueuesFrom.stopLineActive : QueuesFrom l (stopLineActive s) := by
  have raised : QueuesFrom l (stopRaised s) := by
    unfold stopRaised stopDelivered
    split <;> simp [h]
  rw [stopLineActive_eq]
  exact (raised.enterSafe.ite raised).lineChanged _

@[simp] theorem QueuesFrom.stopLineInactive : QueuesFrom l (stopLineInactive s) := by simp [Machine.stopLineInactive, h]

@[simp] theorem QueuesFrom.reportSend (q : QFrame) : QueuesFrom l (reportSend q s) := by
  unfold Machine.reportSend
  dsimp only
  (repeat' split) <;> simp [h]

end

/-! ### The commands -/

/-- What the owning block makes of a command's arguments (R201). -/
def CommandName.reply (args : List Byte) : CommandName → State → Reply
  | .setupItem => setupItemReply args
  | .start => startReply
  | .restart => fun s => answer .done (restartStation s)
  | .forceOutput => forceOutputReply args
  | .writeStep => writeStepReply args
  | .readStep => readStepReply args
  | .switchBank => switchBankReply args
  | .advance => advanceReply
  | .pauseProfile => pauseReply
  | .resumeProfile => resumeReply
  | .stopProfile => fun s => answer .done (Machine.stopProfile s)
  | .clearSupply => fun s => answer .done (Machine.clearSupply s)
  | .setLevel => setLevelReply args
  | .armPortion => armPortionReply args
  | .readPour => readPourReply args
  | .dropPours => dropPoursReply args
  | .readView => readViewReply args
  | .quiet => quietReply
  | .wake => wakeReply
  | .clearAlarms => clearAlarmsReply args
  | .leaveSafe => leaveSafeReply

/-- Every command's row is a COMMAND frame with its block's reply (R35, R36). -/
theorem exec_row (n : CommandName) (h : Header) (tag : Byte) (args : List Byte) (s : State) :
    exec (n.row h tag args) s = perform (commandFrame n h tag args (n.reply args)) s := by
  cases n <;> rfl

section
variable {l : Link} {s : State} (h : QueuesFrom l s)
include h

theorem QueuesFrom.setupItemReply (args : List Byte) : QueuesFrom l (setupItemReply args s).state := by
  unfold Machine.setupItemReply storeItem
  dsimp only [refuse]
  (repeat' split) <;> simp [h]

theorem QueuesFrom.forceOutputReply (args : List Byte) : QueuesFrom l (forceOutputReply args s).state := by
  unfold Machine.forceOutputReply forceDrive
  dsimp only [refuse, answer]
  (repeat' split) <;> simp [h]

theorem QueuesFrom.recordSwitch (source start group : Nat) : QueuesFrom l (recordSwitch source start group s) := by
  unfold Machine.recordSwitch
  (repeat' split) <;> simp [h]

theorem QueuesFrom.switchBankReply (args : List Byte) : QueuesFrom l (switchBankReply args s).state := by
  have recorded := fun a b c => h.recordSwitch a b c
  unfold Machine.switchBankReply
  dsimp only [refuse, answer]
  (repeat' split) <;> simp [h, recorded]

theorem QueuesFrom.stopProfile : QueuesFrom l (stopProfile s) := by
  unfold Machine.stopProfile
  split
  · exact h
  · refine QueuesFrom.queueBayState (QueuesFrom.updateLockouts (QueuesFrom.evaluateGas ?_))
    simp [h]

theorem QueuesFrom.clearLatches (x : AlarmSet) : QueuesFrom l (clearLatches x s) := by
  unfold Machine.clearLatches
  dsimp only
  refine QueuesFrom.ite ?_ (QueuesFrom.queueBayState ?_)
  all_goals split <;> simp [h]

/-- No command but a RESTART reaches the link controller in another way than by queueing (R36, R66). -/
theorem QueuesFrom.reply {n : CommandName} (other : n ≠ .restart) (args : List Byte) :
    QueuesFrom l (n.reply args s).state := by
  cases n <;> dsimp only [CommandName.reply]
  case restart => exact absurd rfl other
  case setupItem => exact h.setupItemReply args
  case forceOutput => exact h.forceOutputReply args
  case switchBank => exact h.switchBankReply args
  case stopProfile => exact h.stopProfile
  case clearSupply => simp [answer, Machine.clearSupply, h]
  case clearAlarms =>
    unfold clearAlarmsReply
    dsimp only [refuse]
    (repeat' split)
    exacts [h, h.clearLatches _, h]
  case start =>
    unfold startReply
    (repeat' split)
    exacts [h, h, h.startStation]
  case advance =>
    unfold advanceReply
    split
    exacts [h.endStepChain, h]
  case pauseProfile =>
    unfold pauseReply
    split
    exacts [h.changeProfile _, h]
  case resumeProfile =>
    unfold resumeReply
    split
    exacts [(h.changeProfile _).chain _, h]
  case quiet =>
    unfold quietReply
    (repeat' split)
    exacts [h, h, h.enterQuiet]
  case wake =>
    unfold wakeReply
    dsimp only [answer]
    (repeat' split)
    exacts [h, h.leaveQuiet, h]
  case leaveSafe =>
    unfold leaveSafeReply leaveSafeState
    dsimp only [refuse, answer]
    (repeat' split) <;> simp [h]
  all_goals simpa [QueuesFrom] using h

end

end Sys2Proof.Machine
end


section
/-! ### The frame in flight (R25 to R28) -/

namespace Sys2Proof.Machine

section
variable {a b : List QFrame} {q : QFrame}

theorem takeInFlight_first (flying : q.inFlight = true) (waits : ∀ x ∈ a, x.inFlight = false) :
    takeInFlight (a ++ q :: b) = some (q, a ++ b) := by
  induction a with
  | nil => simp [takeInFlight, flying]
  | cons x a ih =>
    have here : x.inFlight = false := waits x (by simp)
    simp [takeInFlight, here, ih fun y hy => waits y (by simp [hy])]

theorem mapInFlight_alone (g : QFrame → QFrame) (flying : q.inFlight = true)
    (waits : ∀ x ∈ a ++ b, x.inFlight = false) : mapInFlight g (a ++ q :: b) = a ++ g q :: b := by
  have same {c : List QFrame} (h : ∀ x ∈ c, x.inFlight = false) :
      c.map (fun x => if x.inFlight then g x else x) = c := by
    refine (List.map_congr_left fun x hx => ?_).trans c.map_id
    simp [h x hx]
  have before := same fun x hx => waits x (List.mem_append_left b hx)
  have after := same fun x hx => waits x (List.mem_append_right a hx)
  simp [mapInFlight, flying, before, after]

/-- A queue without one of its frames keeps order and bounds. -/
theorem QueueOk.remove (h : QueueOk (a ++ q :: b)) : QueueOk (a ++ b) := by
  obtain ⟨short, sorted, fewer⟩ := h
  refine ⟨?_, sorted.sublist ?_, fun x hx => fewer x ?_⟩
  · simp only [List.length_append, List.length_cons] at short ⊢
    omega
  · simp
  · simp only [List.mem_append, List.mem_cons] at hx ⊢
    tauto

/-- A queue with the marks and the count of one of its frames changed keeps order and bounds. -/
theorem QueueOk.change {r : QFrame} (frame : r.frame = q.frame) (fewer : r.attempts < 4) (h : QueueOk (a ++ q :: b)) :
    QueueOk (a ++ r :: b) := by
  obtain ⟨short, sorted, below⟩ := h
  refine ⟨by simpa using short, by simpa [frame] using sorted, fun x hx => ?_⟩
  simp only [List.mem_append, List.mem_cons] at hx below
  rcases hx with hx | rfl | hx
  exacts [below x (.inl hx), fewer, below x (.inr (.inr hx))]

end

theorem canReceive_iff (s : State) : canReceive s = true ↔ s.link.bus = .receiving ∧ s.link.attempt = none := by
  simp [canReceive]

/-- During an attempt one frame of the queue is in flight, and SILENT is not set (R28, R40). -/
theorem LinkOk.flying {l : Link} (ok : LinkOk l) {x : Attempt} (attempt : l.attempt = some x) :
    l.silent = false ∧ ∃ a q b, l.queue = a ++ q :: b ∧ q.inFlight = true ∧ ∀ x ∈ a ++ b, x.inFlight = false := by
  obtain ⟨-, silent, one, -⟩ := ok
  simp only [attempt, Option.isSome_some, if_true] at one
  have some : ∃ q ∈ l.queue, q.inFlight = true := by
    by_contra none
    push Not at none
    simp [List.filter_eq_nil_iff.2 none] at one
  obtain ⟨q, hq, flying⟩ := some
  obtain ⟨a, b, queue⟩ := List.append_of_mem hq
  refine ⟨?_, a, q, b, queue, flying, fun y hy => ?_⟩
  · by_contra quiet
    simp [queue] at silent
    simp [silent] at quiet
  · rw [queue] at one
    simp only [← List.countP_eq_length_filter, List.countP_append, List.countP_cons, flying, if_true] at one
    have rest : (a ++ b).countP (·.inFlight) = 0 := by
      rw [List.countP_append]
      omega
    simpa using List.countP_eq_zero.1 rest y hy

/-- Without an attempt the invariant is of the queue, the bus and the drop count alone. -/
theorem linkOk_of_no_attempt {l : Link} (queue : QueueOk l.queue) (silent : l.silent = true → l.queue = [])
    (waits : ∀ x ∈ l.queue, x.inFlight = false) (attempt : l.attempt = none) (bus : l.bus ≠ .sending)
    (rx : l.rx = .filling ↔ l.bus = .receiving) (drops : l.dropCount ≤ 3) : LinkOk l := by
  refine ⟨queue, silent, ?_, by simp [attempt, bus], rx, drops⟩
  simpa [attempt, List.filter_eq_nil_iff] using waits

/-- And conversely nothing is in flight then. -/
theorem LinkOk.waits {l : Link} (ok : LinkOk l) (attempt : l.attempt = none) : ∀ x ∈ l.queue, x.inFlight = false := by
  obtain ⟨-, -, one, -⟩ := ok
  simpa [attempt, List.filter_eq_nil_iff] using one

/-- A bus row without an attempt moves the receiver alone. -/
theorem LinkOk.receiver {l : Link} (ok : LinkOk l) (attempt : l.attempt = none) {bus : Bus} {rx : RxBuffer}
    (quiet : bus ≠ .sending) (fits : rx = .filling ↔ bus = .receiving) : LinkOk { l with bus := bus, rx := rx } := by
  obtain ⟨queue, silent, -, -, -, drops⟩ := id ok
  exact linkOk_of_no_attempt queue silent (ok.waits attempt) attempt quiet fits drops

end Sys2Proof.Machine
end


section
/-! ### The link controller's own rows, and what a received frame does: O7 -/

namespace Sys2Proof.Machine

theorem QueuesFrom.linkOk {s t : State} (h : QueuesFrom s.link t) (ok : LinkOk s.link) : LinkOk t.link :=
  Queues.linkOk h ok

theorem QueuesFrom.bus {l : Link} {s : State} (h : QueuesFrom l s) : s.link.bus = l.bus := (Queues.stands h).2.1

/-! #### The own attempt -/

theorem linkOk_startAttempt {s : State} (bus : s.link.bus = .idle) (attempt : s.link.attempt = none)
    (ok : LinkOk s.link) : LinkOk (startAttempt s).link := by
  obtain ⟨queueOk, silent, one, sending, rx, drops⟩ := id ok
  unfold startAttempt
  split
  · exact ok
  · next q qs queue =>
    rw [queue] at queueOk silent one
    have waits := ok.waits attempt
    have rest : qs.filter (·.inFlight) = [] :=
      List.filter_eq_nil_iff.2 fun x hx => by simp [waits x (by simp [queue, hx])]
    have fewer : q.attempts < 4 := queueOk.2.2 q (by simp)
    have order := QueueOk.change (a := []) (q := q) (r := { q with inFlight := true }) rfl fewer queueOk
    simp only [State.mapLink_link]
    refine ⟨order, fun quiet => absurd (silent quiet) (by simp), ?_, by simp, ?_, drops⟩
    · simp [rest]
    · simpa [bus] using rx

section
variable {l : Link} (ok : LinkOk l) {a b : List QFrame} {q : QFrame} (queue : l.queue = a ++ q :: b)
  (waits : ∀ x ∈ a ++ b, x.inFlight = false)
include ok queue waits

/-- A frame that fails below its fourth attempt waits again, and the station receives (R25, R26). -/
theorem LinkOk.yield {r : QFrame} (frame : r.frame = q.frame) (fewer : r.attempts < 4) (lands : r.inFlight = false) :
    LinkOk ({ l with queue := a ++ r :: b } : Link).yieldBus := by
  obtain ⟨queueOk, silent, -, -, -, drops⟩ := id ok
  rw [queue] at queueOk silent
  refine linkOk_of_no_attempt (queueOk.change frame fewer) (fun quiet => ?_) (fun x hx => ?_) rfl
    (by simp [Link.yieldBus]) (by simp [Link.yieldBus]) drops
  · simpa using silent quiet
  · simp only [List.mem_append, List.mem_cons, Link.yieldBus] at hx waits
    rcases hx with hx | rfl | hx
    exacts [waits x (.inl hx), lands, waits x (.inr hx)]

/-- A frame that leaves the queue ends the attempt; the bus is any but sending (R26, R27). -/
theorem LinkOk.leave {m : Link} (gone : m.queue = a ++ b) (silent : m.silent = l.silent) (attempt : m.attempt = none)
    (bus : m.bus ≠ .sending) (rx : m.rx = .filling ↔ m.bus = .receiving) (drops : m.dropCount ≤ 3) : LinkOk m := by
  obtain ⟨queueOk, empty, -⟩ := id ok
  rw [queue] at queueOk empty
  refine linkOk_of_no_attempt (gone ▸ queueOk.remove) (fun quiet => ?_) (gone ▸ waits) attempt bus rx drops
  simpa using empty (silent ▸ quiet)

end

theorem queuesFrom_countDrop (s : State) :
    QueuesFrom { s.link with dropCount := min dropLimit (s.link.dropCount + 1) } (countDrop s) := by
  have counted : QueuesFrom { s.link with dropCount := min dropLimit (s.link.dropCount + 1) }
      (s.mapLink fun l => { l with dropCount := min dropLimit (l.dropCount + 1) }) := Queues.refl
  exact (counted.raiseAlarm _ _).ite counted

theorem queuesFrom_dropFrame (q : QFrame) (rest : List QFrame) (s : State) :
    QueuesFrom
      { ({ s.link with queue := rest } : Link).yieldBus with dropCount := min dropLimit (s.link.dropCount + 1) }
      (dropFrame q rest s) := by
  have counted := queuesFrom_countDrop (s.mapLink fun l => ({ l with queue := rest } : Link).yieldBus)
  exact counted.claimDropped.ite counted

theorem linkOk_failAttempt {s : State} {x : Attempt} (attempt : s.link.attempt = some x) (ok : LinkOk s.link) :
    LinkOk (failAttempt s).link := by
  obtain ⟨-, a, q, b, queue, flying, waits⟩ := ok.flying attempt
  have taken : takeInFlight s.link.queue = some (q, a ++ b) := by
    rw [queue, takeInFlight_first flying fun x hx => waits x (List.mem_append_left b hx)]
  unfold failAttempt
  rw [taken]
  dsimp only
  split
  · refine Queues.linkOk (queuesFrom_dropFrame q (a ++ b) s) (ok.leave queue waits rfl rfl rfl ?_ ?_ ?_)
    all_goals simp [Link.yieldBus, dropLimit]
  · next fewer =>
    simp only [State.mapLink_link, queue, mapInFlight_alone _ flying waits]
    refine ok.yield queue waits rfl ?_ rfl
    simpa [attemptLimit] using Nat.lt_of_not_le fewer

theorem linkOk_arbitrationLost {s : State} {x : Attempt} (attempt : s.link.attempt = some x) (ok : LinkOk s.link) :
    LinkOk ({ s.link with
      queue := mapInFlight (fun q => { q with inFlight := false }) s.link.queue } : Link).yieldBus := by
  obtain ⟨-, a, q, b, queue, flying, waits⟩ := ok.flying attempt
  rw [queue, mapInFlight_alone _ flying waits]
  exact ok.yield queue waits rfl (ok.1.2.2 q (by simp [queue])) rfl

theorem linkOk_completeSend {s : State} {x : Attempt} {q : QFrame} {rest : List QFrame}
    (attempt : s.link.attempt = some x) (taken : takeInFlight s.link.queue = some (q, rest)) (ok : LinkOk s.link) :
    LinkOk (completeSend x q rest s).link := by
  obtain ⟨-, a, q, b, queue, flying, waits⟩ := ok.flying attempt
  rw [queue, takeInFlight_first flying fun x hx => waits x (List.mem_append_left b hx)] at taken
  cases taken
  obtain ⟨-, -, -, sending, rx, -⟩ := id ok
  have sending : s.link.bus = .sending := sending.2 (by simp [attempt])
  refine ((QueuesFrom.refl (s.mapLink fun l => _)).endAlarm _ |>.reportSend _).linkOk
    (ok.leave queue waits rfl rfl rfl ?_ ?_ ?_)
  · simp
  · simpa [sending] using rx
  · simp

/-! #### Received frames -/

theorem linkOk_endReception {s : State} (receives : canReceive s = true) (ok : LinkOk s.link) :
    LinkOk (endReception s).link :=
  ok.receiver ((canReceive_iff s).1 receives).2 (by simp) (by simp)

/-- A duplicate empties the queue (R31, R40). -/
theorem queuesFrom_duplicateHeard {s : State} (loud : s.link.silent = false) :
    QueuesFrom { s.link with silent := true, queue := [], attempt := none } (duplicateHeard s) := by
  unfold duplicateHeard
  rw [if_neg (by simp [loud])]
  have silenced := QueuesFrom.refl (s.mapLink fun l => { l with silent := true, queue := [], attempt := none })
  exact (silenced.raiseAlarm _ _).updateLockouts

theorem duplicateHeard_of_silent {s : State} (silent : s.link.silent = true) : duplicateHeard s = s := by
  simp [duplicateHeard, silent]

theorem linkOk_duplicateHeard {s : State} (bus : s.link.bus ≠ .sending) (ok : LinkOk s.link) :
    LinkOk (duplicateHeard s).link := by
  cases silent : s.link.silent
  · obtain ⟨-, -, -, -, rx, drops⟩ := ok
    exact Queues.linkOk (queuesFrom_duplicateHeard silent)
      (linkOk_of_no_attempt ⟨by simp, by simp, by simp⟩ (fun _ => rfl) (by simp) rfl bus rx drops)
  · rwa [duplicateHeard_of_silent silent]

/-- A frame that is received keeps the invariant where the effect of an accepted one does, which comes with the
reception over. -/
theorem linkOk_acceptFrame {h : Header} {act : State → State} {s : State}
    (acts : ∀ x, x.link.bus = .busy → LinkOk x.link → LinkOk (act x).link) (ok : LinkOk s.link) :
    LinkOk (acceptFrame h act s).link := by
  unfold acceptFrame
  split
  · next receives =>
    have ended := linkOk_endReception receives ok
    dsimp only
    (repeat' split)
    exacts [ended, linkOk_duplicateHeard (by simp [endReception]) ended, acts _ rfl ended, ended]
  · exact ok

/-- A RESTART resets the link controller but for the bus, which is busy at a COMMAND's end (R24, R66). -/
theorem linkOk_restartStation {s : State} (bus : s.link.bus = .busy) : LinkOk (restartStation s).link := by
  have reset : (restartValues (endPourAtRestart s)).link = { bus := .busy } := by
    unfold restartValues endPourAtRestart
    dsimp only
    split <;> simp [bus, powerOnValues]
  have woken := (QueuesFrom.refl (restartValues (endPourAtRestart s))).evaluateGas.updateLockouts
  rw [reset] at woken
  have fresh := woken.evaluateWatch.raisePresentExtStop
  exact Queues.linkOk fresh (linkOk_of_no_attempt ⟨by simp, by simp, by simp⟩ (by simp) (by simp) rfl (by simp)
    (by simp) (by simp))

theorem linkOk_commandFrame (n : CommandName) {h : Header} {tag : Byte} {args : List Byte} {s : State}
    (ok : LinkOk s.link) : LinkOk (commandFrame n h tag args (n.reply args) s).link := by
  have performed {x : State} (bus : x.link.bus = .busy) (ok : LinkOk x.link) : LinkOk (n.reply args x).state.link := by
    by_cases restart : n = .restart
    · subst restart
      exact linkOk_restartStation bus
    · exact ((QueuesFrom.refl x).reply restart args).linkOk ok
  refine linkOk_acceptFrame (fun x bus ok => ?_) ok
  have heard := (QueuesFrom.refl x).activityEvent .command
  have answered : LinkOk (answerCommand n h tag args (n.reply args) x).link := by
    have replied : LinkOk (if args.length = n.argLength then n.reply args (activityEvent .command x)
        else refuse .badArgument (activityEvent .command x)).state.link := by
      split
      exacts [performed (heard.bus.trans bus) (heard.linkOk ok), heard.linkOk ok]
    unfold answerCommand
    dsimp only
    split
    exacts [replied, ((QueuesFrom.refl _).queueFrame _).linkOk replied]
  have grouped : LinkOk (groupCommand n args (n.reply args) x).link := by
    unfold groupCommand
    split
    exacts [performed bus ok, ok]
  split
  exacts [answered, grouped, grouped]

theorem linkOk_discardFrame {rx : Reception} {s : State} (ok : LinkOk s.link) : LinkOk (discardFrame rx s).link := by
  unfold discardFrame
  split
  · next receives =>
    have moved {bus : Bus} (quiet : bus ≠ .sending) (other : bus ≠ .receiving) :
        LinkOk { s.link with bus := bus, rx := .empty } :=
      ok.receiver ((canReceive_iff s).1 receives).2 quiet (by simp [other])
    have ended := linkOk_endReception receives ok
    (repeat' split)
    exacts [moved (by decide) (by decide), moved (by decide) (by decide), moved (by decide) (by decide),
      linkOk_duplicateHeard (by simp [endReception]) ended, ended, ok]
  · exact ok

/-! #### Every command -/

/-- The link controller as power-on leaves it (R31). -/
theorem linkOk_fresh : LinkOk {} :=
  linkOk_of_no_attempt ⟨by simp, by simp, by simp⟩ (by simp) (by simp) rfl (by simp) (by simp) (by simp)

/-- A 10 ms event marks the report count as begun before it (R38), beside what it queues. -/
theorem linkOk_tenMsEvent (pins : SwitchPins) {s : State} (ok : LinkOk s.link) : LinkOk (tenMsEvent pins s).link := by
  have advanced : QueuesFrom s.link (s.mapTime (·.advance)) := .refl s
  have read : QueuesFrom s.link (if s.sampling.levelsTaken then laterReading pins (s.mapTime (·.advance))
      else firstReading pins (s.mapTime (·.advance))) :=
    ((queuesFrom_laterReading _ _ _).2 advanced).ite (advanced.firstReading _)
  have counted : (tenMsEvent pins s).link =
      { (if s.sampling.levelsTaken then laterReading pins (s.mapTime (·.advance))
          else firstReading pins (s.mapTime (·.advance))).link with reportBegunNow := false } := by
    split <;> simp [tenMsEvent, countDurations, *]
  rw [counted]
  exact read.linkOk ok

/-- A row that acts only on its occasion keeps the invariant where its action there does. -/
theorem linkOk_ite {c : Prop} [Decidable c] {s t : State} (acts : c → LinkOk t.link) (ok : LinkOk s.link) :
    LinkOk (if c then t else s).link := by
  split
  · next h => exact acts h
  · exact ok

/-- A row keeps the invariant where its effect on a running part does: the leak check leaves the link controller. -/
theorem linkOk_perform {f : State → State} {s t : State} (h : perform f s = .next t) (hf : LinkOk (f s).link)
    (ok : LinkOk s.link) : LinkOk t.link :=
  perform_keeps (P := fun s => LinkOk s.link) h (by simp) (fun _ _ => hf) ok

/-- The rows of the bus and of the own attempt. -/
theorem linkOk_busRow {c : Instr} {s t : State} (h : exec c s = .next t) (ok : LinkOk s.link)
    (row : c = .busIdle ∨ c = .firstStartBit ∨ c = .txAttemptStart ∨ (∃ bit, c = .arbitrationLost bit) ∨
      (∃ bit, c = .bitError bit) ∨ c = .frameSent ∨ ∃ rx, c = .frameDiscarded rx) : LinkOk t.link := by
  rcases row with rfl | rfl | rfl | ⟨bit, rfl⟩ | ⟨bit, rfl⟩ | rfl | ⟨rx, rfl⟩
  all_goals
    dsimp only [exec] at h
    refine linkOk_perform h ?_ ok
  · refine linkOk_ite (fun quiet => ?_) ok
    exact ok.receiver (by simpa using quiet) (by decide) (by decide)
  · refine linkOk_ite (fun idle => ?_) ok
    obtain ⟨-, -, -, sending, -⟩ := id ok
    exact ok.receiver (by simpa [idle] using sending) (by decide) (by decide)
  · refine linkOk_ite (fun free => ?_) ok
    simp only [Bool.and_eq_true, decide_eq_true_eq, Option.isNone_iff_eq_none] at free
    exact linkOk_startAttempt free.1 free.2 ok
  · split
    · exact ok
    · next attempt => exact linkOk_ite (fun _ => linkOk_arbitrationLost attempt ok) ok
  · split
    · exact ok
    · next attempt => exact linkOk_ite (fun _ => linkOk_failAttempt attempt ok) ok
  · split
    · next attempt taken => exact linkOk_completeSend attempt taken ok
    · exact ok
  · exact linkOk_discardFrame ok

/-- A received frame of one of the other classes queues at most what its effect does. -/
theorem linkOk_acceptFrame_queues {h : Header} {act : State → State} {s : State}
    (queues : ∀ x, QueuesFrom x.link (act x)) (ok : LinkOk s.link) : LinkOk (acceptFrame h act s).link :=
  linkOk_acceptFrame (fun x _ => (queues x).linkOk) ok

/-- The rows of the frames from peers, and of a code that names no command. -/
theorem linkOk_received {c : Instr} {h : Header} {s t : State} (next : exec c s = .next t) (ok : LinkOk s.link)
    (row : Received h c) : LinkOk t.link := by
  rcases row with ⟨p, rfl | rfl | rfl | rfl | rfl⟩ | ⟨n, tag, args, rfl⟩ | ⟨code, tag, args, rfl⟩
  · refine linkOk_perform next (linkOk_acceptFrame_queues (fun x => ?_) ok) ok
    split
    · next b _ _ => exact QueuesFrom.examine (s := x.mapView (·.fillBay h.src b)) (.refl x)
    · exact .refl x
  · refine linkOk_perform next (linkOk_acceptFrame_queues (fun x => ?_) ok) ok
    split
    · next kind urgency weak _ _ =>
      have filled : QueuesFrom x.link (x.mapView (·.fillDraw h.src (drawPartOf kind urgency weak))) := .refl x
      exact filled.releaseToRecover.ite filled.examine
    · exact .refl x
  · refine linkOk_perform next (linkOk_acceptFrame_queues (fun x => ?_) ok) ok
    split <;> exact .refl x
  · refine linkOk_perform next (linkOk_acceptFrame_queues (fun x => ?_) ok) ok
    split
    · next started _ _ =>
      have filled : QueuesFrom x.link (x.mapView (·.setPouring h.src started)) := .refl x
      exact (filled.activityEvent _).ite filled
    · exact .refl x
  · refine linkOk_perform next (linkOk_acceptFrame_queues (fun x => ?_) ok) ok
    split
    exacts [(QueuesFrom.refl x).groupSyncAccepted _, .refl x]
  · rw [exec_row] at next
    exact linkOk_perform next (linkOk_commandFrame n ok) ok
  · refine linkOk_perform next (linkOk_acceptFrame_queues (fun x => ?_) ok) ok
    split
    · exact QueuesFrom.ite (.refl x) (((QueuesFrom.refl x).activityEvent _).queueFrame _)
    · exact .refl x
    · exact .refl x

/-- Every command keeps the link controller's invariant. -/
theorem linkOk_exec {c : Instr} {s t : State} (h : exec c s = .next t) (ok : LinkOk s.link) : LinkOk t.link := by
  have command {n : CommandName} {f : Header} {tag : Byte} {args : List Byte}
      (h : exec (n.row f tag args) s = .next t) : LinkOk t.link :=
    linkOk_received h ok (.inr (.inl ⟨n, tag, args, rfl⟩))
  have queues {f : State → State} (h : perform f s = .next t) (hf : QueuesFrom s.link (f s)) : LinkOk t.link :=
    linkOk_perform h (hf.linkOk ok) ok
  have same := QueuesFrom.refl s
  cases c <;> have run := h <;> dsimp only [exec] at run
  case powerOn p =>
    cases run
    have woken := (QueuesFrom.refl { powerOnValues p with pending := s.pending }).evaluateGas.updateLockouts
    exact woken.linkOk linkOk_fresh
  case rstnHeldLow =>
    cases run
    exact linkOk_fresh
  case event10ms pins =>
    refine linkOk_perform run ?_ ok
    split
    exacts [ok, linkOk_tenMsEvent pins ok]
  case event100ms raw b => exact queues run ((same.hundredMsEvent raw b).ite same)
  case event1s beer jacket => exact queues run ((same.oneSecondEvent beer jacket).ite same)
  case event1min b => exact queues run ((same.oneMinuteEvent b).ite same)
  case event1h => exact queues run (same.oneHourEvent.ite same)
  case handlePress => exact queues run (same.pressHandle.ite same)
  case handleRelease => exact queues run (same.releaseHandle.ite same)
  case auxLineChange line =>
    cases line
    case kegPresent => exact queues run (same.changeKeg.ite same)
    case lidClosed => exact queues run (same.changeLid.ite same)
    case dripFull => exact queues run (same.changeDrip.ite same)
  case extStopActive => exact queues run (same.stopLineActive.ite same)
  case extStopInactive => exact queues run (same.stopLineInactive.ite same)
  case flowPulse => exact queues run same.flowPulse
  case durationElapsed => exact queues run same.elapseDuration
  case heaterOnTimeEnd => exact queues run (.ite same same)
  case glycolOpenTimeEnd => exact queues run (.ite same same)
  case reportTimer => exact queues run (same.queueBayState.ite same)
  case idleTimerExpiry => exact queues run (same.enterQuiet.ite same)
  case pulseTimerEnd => exact queues run (.ite same same)
  case settleEnd => exact queues run (same.settleEnd.ite same)
  case settleWindowEnd => exact queues run (same.decideClaim.ite same)
  case keepTimerPeriod => exact queues run (same.keepPeriod.ite same)
  case backoffEnd => exact queues run (same.contendAgain.ite same)
  case recoverEnd => exact queues run (same.contendAgain.ite same)
  case stallTimerStart => exact queues run (.ite same same)
  case stallTimerEnd => exact queues run (same.stallEnd.ite same)
  case lowPressureTimerEnd => exact queues run ((same.endFlowing _).ite same)
  case tailTimerEnd => exact queues run (same.completePour.ite same)
  case portionExpiry => exact queues run (.ite same same)
  case peerPartExpiry n part => exact queues run same
  case busIdle | firstStartBit | txAttemptStart | frameSent => exact linkOk_busRow h ok (by simp)
  case arbitrationLost | bitError | frameDiscarded => exact linkOk_busRow h ok (by simp)
  case receiveBayState f p => exact linkOk_received (h := f) h ok (.inl ⟨p, by simp⟩)
  case receiveDraw f p => exact linkOk_received (h := f) h ok (.inl ⟨p, by simp⟩)
  case receiveCoolCap f p => exact linkOk_received (h := f) h ok (.inl ⟨p, by simp⟩)
  case receivePour f p => exact linkOk_received (h := f) h ok (.inl ⟨p, by simp⟩)
  case receiveGroupSync f p => exact linkOk_received (h := f) h ok (.inl ⟨p, by simp⟩)
  case unknownCommand f code tag args => exact linkOk_received h ok (.inr (.inr ⟨code, tag, args, rfl⟩))
  case setupItem => exact command (n := .setupItem) h
  case start => exact command (n := .start) h
  case restart => exact command (n := .restart) h
  case forceOutput => exact command (n := .forceOutput) h
  case writeStep => exact command (n := .writeStep) h
  case readStep => exact command (n := .readStep) h
  case switchBank => exact command (n := .switchBank) h
  case advance => exact command (n := .advance) h
  case pauseProfile => exact command (n := .pauseProfile) h
  case resumeProfile => exact command (n := .resumeProfile) h
  case stopProfile => exact command (n := .stopProfile) h
  case clearSupply => exact command (n := .clearSupply) h
  case setLevel => exact command (n := .setLevel) h
  case armPortion => exact command (n := .armPortion) h
  case readPour => exact command (n := .readPour) h
  case dropPours => exact command (n := .dropPours) h
  case readView => exact command (n := .readView) h
  case quiet => exact command (n := .quiet) h
  case wake => exact command (n := .wake) h
  case clearAlarms => exact command (n := .clearAlarms) h
  case leaveSafe => exact command (n := .leaveSafe) h

/-- Settles O7: the link controller's own rows each keep the invariant, and every other row only queues. -/
theorem transmitQueueKept : Obligations.TransmitQueueKept := by
  intro s t h ok
  unfold step at h
  split at h
  · cases h
    exact ok
  · exact linkOk_exec h ok

end Sys2Proof.Machine
end


section
/-! ## How a frame joins the queue (R28 to R30, R40): O42 -/

namespace Sys2Proof.Machine

/-! ### The queue's own operations -/

section
variable {p : QFrame → Bool} {a b l : List QFrame} {q : QFrame}

theorem replaceLast_of_none (f : QFrame) (unpicked : ∀ x ∈ l, p x = false) : replaceLast p f l = none := by
  induction l with
  | nil => rfl
  | cons x l ih => simp [replaceLast, ih fun y hy => unpicked y (by simp [hy]), unpicked x (by simp)]

theorem replaceLast_last (f : QFrame) (here : p q = true) (later : ∀ x ∈ b, p x = false) :
    replaceLast p f (a ++ q :: b) = some (a ++ f :: b) := by
  induction a with
  | nil => simp [replaceLast, replaceLast_of_none f later, here]
  | cons x a ih => simp [replaceLast, ih]

theorem removeLast_of_none (unpicked : ∀ x ∈ l, p x = false) : removeLast p l = none := by
  induction l with
  | nil => rfl
  | cons x l ih => simp [removeLast, ih fun y hy => unpicked y (by simp [hy]), unpicked x (by simp)]

theorem removeLast_last (here : p q = true) (later : ∀ x ∈ b, p x = false) :
    removeLast p (a ++ q :: b) = some (a ++ b) := by
  induction a with
  | nil => simp [removeLast, removeLast_of_none later, here]
  | cons x a ih => simp [removeLast, ih]

theorem insertFrame_between {f : QFrame} (before : ∀ x ∈ a, x.frame.priority ≤ f.frame.priority)
    (after : ∀ x ∈ b, f.frame.priority < x.frame.priority) : insertFrame f (a ++ b) = a ++ f :: b := by
  induction a with
  | nil =>
    cases b with
    | nil => rfl
    | cons y b => simp [insertFrame, after y (by simp)]
  | cons x a ih =>
    have here := before x (by simp)
    simp [insertFrame, Nat.not_lt.2 here, ih fun y hy => before y (by simp [hy])]

end

/-! ### Queueing, case by case -/

section
variable {f : QFrame} {l : Link} (loud : l.silent = false)
include loud

/-- A frame coalesces with the last of its kind that waits (R29). -/
theorem enqueue_coalesces {a b : List QFrame} {q : QFrame} (queue : l.queue = a ++ q :: b)
    (here : coalescesWith f.frame q = true) (later : ∀ x ∈ b, coalescesWith f.frame x = false) :
    l.enqueue f = ({ l with queue := a ++ f :: b }, true) := by
  simp [Link.enqueue, loud, queue, replaceLast_last f here later]

variable (alone : ∀ x ∈ l.queue, coalescesWith f.frame x = false)
include alone

/-- A frame that nothing coalesces with joins in queue order (R28). -/
theorem enqueue_joins (room : l.queue.length < 6) :
    l.enqueue f = ({ l with queue := insertFrame f l.queue }, true) := by
  simp [Link.enqueue, loud, replaceLast_of_none f alone, queueLimit, room]

/-- A full queue loses its last waiting BAY_STATE to the frame (R30). -/
theorem enqueue_evicts (full : 6 ≤ l.queue.length) {a b : List QFrame} {q : QFrame} (queue : l.queue = a ++ q :: b)
    (bay : q.frame.isBayState = true) (waits : q.inFlight = false)
    (later : ∀ x ∈ b, x.frame.isBayState = true → x.inFlight = true) :
    l.enqueue f = ({ l with queue := insertFrame f (a ++ b) }, true) := by
  have removed : removeLast (fun q => q.frame.isBayState && !q.inFlight) l.queue = some (a ++ b) := by
    rw [queue]
    exact removeLast_last (by simp [bay, waits]) fun x hx => by simpa using later x hx
  simp [Link.enqueue, loud, replaceLast_of_none f alone, queueLimit, Nat.not_lt.2 full, removed]

/-- A full queue without a waiting BAY_STATE drops the frame (R30). -/
theorem enqueue_drops (full : 6 ≤ l.queue.length)
    (firm : ∀ x ∈ l.queue, x.frame.isBayState = true → x.inFlight = true) :
    l.enqueue f =
      ({ l with txDropped := true, attempt := l.attempt.map fun a => { a with droppedSince := true } }, false) := by
  have stays : removeLast (fun q => q.frame.isBayState && !q.inFlight) l.queue = none :=
    removeLast_of_none fun x hx => by simpa using firm x hx
  simp [Link.enqueue, loud, replaceLast_of_none f alone, queueLimit, Nat.not_lt.2 full, stays]

end

/-- Settles O42: the cases of `Link.enqueue`, and `queueFrame` and `queueBayState` by their definitions. -/
theorem framesJoinTheQueue : Obligations.FramesJoinTheQueue := by
  refine ⟨fun f s => ⟨rfl, fun quiet => by simp [queueBayState, quiet], fun loud => ?_⟩,
    fun f l => ⟨enqueue_silent f l, fun loud => ⟨fun a q b queue => enqueue_coalesces loud queue,
      fun alone room a b queue before after => ?_, fun alone full firm => ?_,
      fun alone full a q b queue => enqueue_evicts loud alone full queue⟩⟩⟩
  · simp [queueBayState, loud, State.mapLink]
  · rw [enqueue_joins loud alone room, queue, insertFrame_between before after]
  · simp [enqueue_drops loud alone full firm]

end Sys2Proof.Machine
end


section
/-! ## The bus and the own attempt (R24 to R28): O43, O44 -/

namespace Sys2Proof.Machine

/-! ### The end of an attempt by the frame's send (R27) -/

theorem endAlarm_of_inactive {a : Alarm} {s : State} (quiet : hasAlarm s.sup.active a = false) :
    endAlarm a s = s := by
  simp [endAlarm, quiet]

/-- The link controller after the send of the frame that the attempt `a` carried, with `rest` left queued. -/
def sentLink (a : Attempt) (rest : List QFrame) (l : Link) : Link :=
  { l with queue := rest, attempt := none, bus := .busy, dropCount := 0,
           txDropped := l.txDropped && !(a.carriesTxDropped && !a.droppedSince) }

theorem completeSend_eq (a : Attempt) (q : QFrame) (rest : List QFrame) (s : State) :
    completeSend a q rest s = reportSend q (endAlarm .linkFault { s with link := sentLink a rest s.link }) := rfl

theorem reportSend_plain {q : QFrame} (s : State) (claim : q.liveClaim = false) (sync : ∀ g, q.frame ≠ .groupSync g) :
    reportSend q s = s := by
  simp only [reportSend, claim, Bool.false_eq_true, if_false]
  split
  · next g frame => exact absurd frame (sync g)
  all_goals rfl

theorem reportSend_claim {q : QFrame} (s : State) (claim : q.liveClaim = true) (sync : ∀ g, q.frame ≠ .groupSync g) :
    reportSend q s = claimSent s := by
  simp only [reportSend, claim, if_true]
  split
  · next g frame => exact absurd frame (sync g)
  all_goals rfl

theorem reportSend_groupSync {q : QFrame} {g : Nat} (s : State) (claim : q.liveClaim = false)
    (sync : q.frame = .groupSync g) :
    reportSend q s = if inGroupSet s g then groupSyncAccepted g s else s := by
  simp [reportSend, claim, sync]

theorem claimSent_claiming {s : State} (claiming : s.draw.state = .claiming) (window : s.draw.settleWindow = none) :
    claimSent s = { s with draw := { s.draw with settleWindow := some 20 } } := by
  simp [claimSent, claiming, window, State.mapDraw, ms]

theorem claimSent_of_state {s : State} (other : s.draw.state ≠ .claiming) : claimSent s = s := by
  simp [claimSent, other]

section
variable {a : Attempt} {q : QFrame} {before after : List QFrame} {s : State} (up : s.held = false)
  (attempt : s.link.attempt = some a) (queue : s.link.queue = before ++ q :: after) (flying : q.inFlight = true)
include up attempt queue flying

theorem exec_frameSent_inFlight (waits : ∀ x ∈ before, x.inFlight = false) :
    exec .frameSent s = .next (updateLeak (completeSend a q (before ++ after) s)) := by
  have taken : takeInFlight s.link.queue = some (q, before ++ after) := by
    rw [queue, takeInFlight_first flying waits]
  change execFrameSent s = _
  simp [execFrameSent, perform_running _ up, attempt, taken]

variable (waits : ∀ x ∈ before ++ after, x.inFlight = false)
include waits

theorem exec_arbitrationLost_inFlight {bit : Nat} (lost : losesArbitration a.octets bit = true) :
    exec (.arbitrationLost bit) s = .next (updateLeak { s with link :=
      ({ s.link with queue := before ++ { q with inFlight := false } :: after } : Link).yieldBus }) := by
  change execArbitrationLost bit s = _
  simp [execArbitrationLost, perform_running _ up, attempt, lost, queue, mapInFlight_alone _ flying waits,
    State.mapLink]

/-- A bit error below the fourth counts as a failed attempt (R26). -/
theorem exec_bitError_counted {bit : Nat} (error : isBitError a.octets bit = true) (fewer : q.attempts < 3) :
    exec (.bitError bit) s = .next (updateLeak { s with link := ({ s.link with
      queue := before ++ { q with inFlight := false, attempts := q.attempts + 1 } :: after } : Link).yieldBus }) := by
  have taken := takeInFlight_first (a := before) (b := after) flying fun x hx => waits x (List.mem_append_left _ hx)
  change execBitError bit s = _
  simp [execBitError, perform_running _ up, attempt, error, failAttempt, queue, taken,
    mapInFlight_alone _ flying waits, attemptLimit, Nat.not_le.2 fewer, State.mapLink]

/-- The fourth bit error drops the frame (R27). -/
theorem exec_bitError_fourth {bit : Nat} (error : isBitError a.octets bit = true) (fourth : 3 ≤ q.attempts) :
    exec (.bitError bit) s = .next (updateLeak (dropFrame q (before ++ after) s)) := by
  have taken := takeInFlight_first (a := before) (b := after) flying fun x hx => waits x (List.mem_append_left _ hx)
  change execBitError bit s = _
  simp [execBitError, perform_running _ up, attempt, error, failAttempt, queue, taken, attemptLimit, fourth]

end

/-- Settles O43: the rows of the bus outside an attempt, and `completeSend` by what the frame sent reports. -/
theorem busEventsAndSend : Obligations.BusEventsAndSend := by
  refine ⟨fun s up attempt => ⟨?_, fun idle => ?_, fun q qs idle queue => ?_⟩,
    fun a q before after s up attempt queue flying waits => ?_⟩
  · change execBusIdle s = _
    simp [execBusIdle, perform_running _ up, attempt, State.mapLink]
  · change execFirstStartBit s = _
    simp [execFirstStartBit, perform_running _ up, idle, State.mapLink]
  · change execTxAttemptStart s = _
    simp [execTxAttemptStart, perform_running _ up, attempt, idle, startAttempt, queue, State.mapLink]
  · rw [exec_frameSent_inFlight up attempt queue flying waits, completeSend_eq]
    refine ⟨fun quiet => ?_, fun fault claim sync => ?_⟩
    · rw [endAlarm_of_inactive (by exact quiet)]
      refine ⟨fun claim sync => ?_, fun claim sync claiming window => ?_, fun claim sync other => ?_,
        fun g claim sync other => ?_, fun g claim sync own => ?_⟩
      · rw [reportSend_plain _ claim sync, sentLink]
      · rw [reportSend_claim _ claim sync, claimSent_claiming (by exact claiming) (by exact window), sentLink]
      · rw [reportSend_claim _ claim sync, claimSent_of_state (by exact other), sentLink]
      · rw [reportSend_groupSync _ claim sync, if_neg, sentLink]
        exact fun own => absurd own (by simpa [inGroupSet] using other)
      · rw [reportSend_groupSync _ claim sync, if_pos (by exact own), sentLink]
    · rw [reportSend_plain _ claim sync, endAlarm, if_pos (by exact fault), sentLink]
      rfl

/-! ### A dropped frame, and the fresh claim (R27, R149) -/

/-- The link controller after the fourth failure of a frame, with `rest` left queued. -/
def droppedLink (rest : List QFrame) (l : Link) : Link :=
  { l with queue := rest, attempt := none, bus := .receiving, rx := .filling, dropCount := min 3 (l.dropCount + 1) }

/-- Below and above the third drop in a row, a drop is counted and no more. -/
theorem dropFrame_eq {q : QFrame} {rest : List QFrame} {s : State} (other : s.link.dropCount ≠ 2) :
    dropFrame q rest s =
      if q.liveClaim then claimDropped { s with link := droppedLink rest s.link }
      else { s with link := droppedLink rest s.link } := by
  simp [dropFrame, countDrop, Link.yieldBus, dropLimit, other, State.mapLink, droppedLink]

/-- The third drop in a row raises LINK_FAULT. -/
theorem dropFrame_third {q : QFrame} {rest : List QFrame} {s : State} (claim : q.liveClaim = false)
    (third : s.link.dropCount = 2) :
    dropFrame q rest s = raiseAlarm .linkFault { s with link := droppedLink rest s.link } := by
  simp [dropFrame, countDrop, Link.yieldBus, dropLimit, third, claim, State.mapLink, droppedLink]

/-- The coordinator as it enters WAITING or CLAIMING and examines the sharing rule. -/
def examinedDraw (st : DrawState) (s : State) : Draw :=
  { s.draw with state := st, limit := s.setup.drawLimit, settleWindow := none, keepTimer := none, keepCount := 0,
                backoffTimer := none, backoffElapsed := 0, rise := [] }

theorem enterWaiting_eq (s : State) :
    enterWaiting s =
      if mayClaim s then makeClaim { s with draw := examinedDraw .waiting s }
      else { s with draw := examinedDraw .waiting s } := by
  have waits : (s.mapDraw (·.enter .waiting)).draw.state = .waiting := rfl
  unfold enterWaiting examine
  rw [if_pos waits]
  rfl

theorem claimDropped_claiming {s : State} (claiming : s.draw.state = .claiming)
    (window : s.draw.settleWindow = none) : claimDropped s = enterWaiting s := by
  simp [claimDropped, claiming, window]

/-- With room in the queue a claim queues its live CLAIM (R149). -/
theorem makeClaim_taken {s : State} (loud : s.link.silent = false) (room : s.link.queue.length < 6) :
    (makeClaim s).draw = { s.draw.enter .claiming with claimUrgency := s.draw.urgency } ∧
      ∃ x ∈ (makeClaim s).link.queue, x.frame = .draw .claim s.draw.urgency s.draw.supplyWeak ∧ x.liveClaim = true ∧
        x.attempts = 0 := by
  have taken {f : QFrame} {l : Link} (loud : l.silent = false) (room : l.queue.length < 6) :
      (l.enqueue f).2 = true ∧ f ∈ (l.enqueue f).1.queue := by
    unfold Link.enqueue
    rw [if_neg (by simp [loud])]
    split
    · next q hq =>
      obtain ⟨a, o, b, -, rfl, -⟩ := replaceLast_some _ _ _ _ hq
      simp
    · rw [if_pos (by simpa [queueLimit] using room)]
      exact ⟨rfl, (mem_insertFrame _ _ _).2 (.inl rfl)⟩
  have claimed := taken
    (f := { frame := .draw .claim s.draw.urgency s.draw.supplyWeak, liveClaim := true })
    (l := { s.link with queue := s.link.queue.map fun q => { q with liveClaim := false } }) loud (by simpa using room)
  obtain ⟨accepted, here⟩ := claimed
  unfold makeClaim
  dsimp only
  rw [if_pos (by exact accepted)]
  exact ⟨rfl, _, here, rfl, rfl, rfl⟩

/-- Settles O44: where the frame in flight fails, and what its drop does. -/
theorem attemptsFail : Obligations.AttemptsFail := by
  intro a q before after bit s up attempt queue flying waits
  refine ⟨fun field recessive => ?_, fun error fewer => ?_,
    fun error fourth claim => ⟨fun other => ?_, fun third => ?_⟩,
    fun error fourth claim claiming window other => ⟨fun refused => ?_, fun granted loud room => ?_⟩⟩
  · have lost : losesArbitration a.octets bit = true := by
      simp [losesArbitration, inArbitrationField, field, recessive]
    rw [exec_arbitrationLost_inFlight up attempt queue flying waits lost, Link.yieldBus]
  · rw [exec_bitError_counted up attempt queue flying waits error fewer, Link.yieldBus]
  · rw [exec_bitError_fourth up attempt queue flying waits error fourth, dropFrame_eq other, if_neg (by simp [claim]),
      droppedLink]
  · rw [exec_bitError_fourth up attempt queue flying waits error fourth, dropFrame_third claim third]
    obtain ⟨bus, rx, drops⟩ :=
      (ReceptionStands.refl { s with link := droppedLink (before ++ after) s.link }).raiseAlarm .linkFault 0#4
    have queues := (QueuesFrom.refl { s with link := droppedLink (before ++ after) s.link }).raiseAlarm .linkFault 0#4
    obtain ⟨-, -, -, -, ended⟩ := Queues.stands queues
    refine ⟨_, rfl, ?_⟩
    simp_all [droppedLink]
  · rw [exec_bitError_fourth up attempt queue flying waits error fourth, dropFrame_eq other, if_pos claim,
      claimDropped_claiming (by exact claiming) (by exact window), enterWaiting_eq]
    rw [if_neg (by exact Bool.eq_false_iff.1 refused), droppedLink, examinedDraw]
  · rw [exec_bitError_fourth up attempt queue flying waits error fourth, dropFrame_eq other, if_pos claim,
      claimDropped_claiming (by exact claiming) (by exact window), enterWaiting_eq, if_pos (by exact granted)]
    obtain ⟨draw, live⟩ := makeClaim_taken (s := { s with
      link := droppedLink (before ++ after) s.link, draw := examinedDraw .waiting s }) loud room
    obtain ⟨bus, rx, drops⟩ := (ReceptionStands.refl { s with
      link := droppedLink (before ++ after) s.link, draw := examinedDraw .waiting s }).makeClaim
    refine ⟨_, rfl, ?_⟩
    simp only [updateLeak_frame, makeClaim_frame, and_self, and_true]
    exact ⟨draw, live, drops, bus⟩

end Sys2Proof.Machine
end


section
/-! ## Which frames are received, and by which block (R32 to R36, R40): O45, O46, O50 -/

namespace Sys2Proof.Machine

theorem updateLeak_link (s : State) : (updateLeak s).link = s.link := rfl

/-! ### The reception of a frame (R33, R40) -/

/-- Every row of a received frame hands its effect to the reception (R33). -/
theorem Received.row {h : Header} {c : Instr} (received : Received h c) :
    ∃ act, ∀ s, exec c s = perform (acceptFrame h act) s := by
  rcases received with ⟨p, rfl | rfl | rfl | rfl | rfl⟩ | ⟨n, tag, args, rfl⟩ | ⟨code, tag, args, rfl⟩
  case inr.inl => exact ⟨_, exec_row n h tag args⟩
  all_goals exact ⟨_, fun _ => rfl⟩

section
variable {h : Header} {s : State}

theorem acceptFrame_of_not_receiving (act : State → State) (deaf : canReceive s = false) :
    acceptFrame h act s = s := by
  simp [acceptFrame, deaf]

theorem acceptFrame_unaccepted (act : State → State) (unaccepted : Unaccepted h s) :
    acceptFrame h act s = endReception s := by
  obtain ⟨-, receives, other, source | dest⟩ := unaccepted
  · simp [acceptFrame, receives, source]
  · have elsewhere : destAccepted (endReception s) h.dest = false := dest
    simp [acceptFrame, receives, other, elsewhere]

theorem acceptFrame_twin (act : State → State) (twin : FromTwin h s) :
    acceptFrame h act s = duplicateHeard (endReception s) := by
  obtain ⟨-, receives, source, own⟩ := twin
  rw [acceptFrame, if_pos receives]
  exact (if_neg source).trans (if_pos own)

theorem acceptFrame_accepted (act : State → State) (accepts : Accepts h s) :
    acceptFrame h act s = act (endReception s) := by
  obtain ⟨-, receives, source, other, dest⟩ := accepts
  rw [acceptFrame, if_pos receives]
  exact (if_neg source).trans ((if_neg other).trans (if_pos (by exact dest)))

end

/-! ### The own station number heard (R40) -/

/-- A duplicate silences the station and locks the coordinator (R31, R40, R160). -/
theorem duplicateHeard_loud {s : State} (loud : s.link.silent = false) :
    (duplicateHeard s).link.silent = true ∧ (duplicateHeard s).link.queue = [] ∧
      (duplicateHeard s).link.attempt = none ∧ hasAlarm (duplicateHeard s).sup.active .duplicate = true ∧
      (duplicateHeard s).draw.causes.silent = true ∧ (duplicateHeard s).draw.state = .locked := by
  have link : (duplicateHeard s).link = _ := (queuesFrom_duplicateHeard loud).deaf rfl rfl
  have formed : duplicateHeard s = updateLockouts
      (raiseAlarm .duplicate (s.mapLink fun l => { l with silent := true, queue := [], attempt := none })) := by
    simp [duplicateHeard, loud]
  refine ⟨by rw [link], by rw [link], by rw [link], ?_⟩
  rw [formed]
  refine ⟨by simp, by simp [formCauses], updateLockouts_locked ?_⟩
  simp [formCauses, Causes.any]

/-- Settles O45: both ways of hearing the own number are `duplicateHeard` at the end of the reception. -/
theorem duplicateSilencesTheStation : Obligations.DuplicateSilencesTheStation := by
  intro c s up receives heard
  have row : exec c s = .next (updateLeak (duplicateHeard (endReception s))) := by
    rcases heard with ⟨h, twin, received⟩ | ⟨os, w, p, rfl, read, source, own⟩
    · obtain ⟨act, row⟩ := received.row
      rw [row, perform_running _ up, acceptFrame_twin act twin]
    · change execFrameDiscarded _ s = _
      have duplicate : judge os s = .duplicate := by simp [judge, read, ← own, source]
      simp [execFrameDiscarded, perform_running _ up, discardFrame, receives, duplicate]
  refine ⟨fun loud => ⟨_, row, ?_⟩, fun silent => ?_⟩
  · obtain ⟨silent, queue, attempt, active, cause, locked⟩ := duplicateHeard_loud (s := endReception s) loud
    simp [silent, queue, attempt, active, cause, locked]
  · rw [row, duplicateHeard_of_silent (by exact silent)]

/-! ### Frames that no row takes (R32 to R35, R198, R200) -/

theorem bayPartOf_of_length {p : List Byte} (h : p.length ≠ 16) : bayPartOf p = none := by
  unfold bayPartOf
  split <;> simp_all

theorem chillerPartOf_of_length {p : List Byte} (h : p.length ≠ 2) : chillerPartOf p = none := by
  unfold chillerPartOf
  split <;> simp_all

theorem pourStartOf_of_length {p : List Byte} (h : p.length ≠ 8) : pourStartOf p = none := by
  unfold pourStartOf
  split <;> simp_all

theorem drawOf_of_length {p : List Byte} (h : p.length ≠ 1) : drawOf p = none := by
  unfold drawOf
  split <;> simp_all

/-- A DRAW of kind 3 is none (R200). -/
theorem drawOf_of_kind {p : List Byte} {o : Byte} (head : p.head? = some o) (h : 192 ≤ o.toNat) : drawOf p = none := by
  obtain ⟨rest, rfl⟩ := List.head?_eq_some_iff.1 head
  cases rest with
  | cons x rest => rfl
  | nil =>
    have small := o.isLt
    have kind : bitsOf o 7 6 = 3 := by
      simp only [bitsOf]
      omega
    simp [drawOf, kind]

/-- A POUR of kind 2 or above is none (R200). -/
theorem pourStartOf_of_kind {p : List Byte} {o : Byte} (head : p.head? = some o) (h : 2 ≤ o.toNat) :
    pourStartOf p = none := by
  obtain ⟨rest, rfl⟩ := List.head?_eq_some_iff.1 head
  have kind (n : Nat) (small : n < 2) : o ≠ BitVec.ofNat 8 n := by
    rintro rfl
    simp only [BitVec.toNat_ofNat] at h
    omega
  simp [pourStartOf, kind 0 (by decide), kind 1 (by decide)]

/-- What the rows of a class do not take (R34, R35, R200). -/
def Untaken (k : FrameClass) (d : Dest) (p : List Byte) : Prop :=
  (k = .bayState ∧ (d ≠ .all ∨ p.length ≠ 16)) ∨
  (k = .draw ∧ (d ≠ .all ∨ p.length ≠ 1 ∨ ∃ o, p.head? = some o ∧ 192 ≤ o.toNat)) ∨
  (k = .coolCap ∧ (d ≠ .all ∨ p.length ≠ 2)) ∨
  (k = .pour ∧ (d ≠ .all ∨ p.length ≠ 8 ∨ ∃ o, p.head? = some o ∧ 2 ≤ o.toNat)) ∨
  (k = .groupSync ∧ ((∀ g, d ≠ .group g) ∨ p ≠ [])) ∨ (k = .command ∧ p.length < 2)

theorem untaken_bayState {d : Dest} {p : List Byte} (h : Untaken .bayState d p) : d ≠ .all ∨ bayPartOf p = none := by
  obtain dest | length : d ≠ .all ∨ p.length ≠ 16 := by simpa [Untaken] using h
  exacts [.inl dest, .inr (bayPartOf_of_length length)]

theorem untaken_draw {d : Dest} {p : List Byte} (h : Untaken .draw d p) : d ≠ .all ∨ drawOf p = none := by
  obtain dest | length | ⟨o, head, kind⟩ :
      d ≠ .all ∨ p.length ≠ 1 ∨ ∃ o, p.head? = some o ∧ 192 ≤ o.toNat := by simpa [Untaken] using h
  exacts [.inl dest, .inr (drawOf_of_length length), .inr (drawOf_of_kind head kind)]

theorem untaken_coolCap {d : Dest} {p : List Byte} (h : Untaken .coolCap d p) :
    d ≠ .all ∨ chillerPartOf p = none := by
  obtain dest | length : d ≠ .all ∨ p.length ≠ 2 := by simpa [Untaken] using h
  exacts [.inl dest, .inr (chillerPartOf_of_length length)]

theorem untaken_pour {d : Dest} {p : List Byte} (h : Untaken .pour d p) : d ≠ .all ∨ pourStartOf p = none := by
  obtain dest | length | ⟨o, head, kind⟩ :
      d ≠ .all ∨ p.length ≠ 8 ∨ ∃ o, p.head? = some o ∧ 2 ≤ o.toNat := by simpa [Untaken] using h
  exacts [.inl dest, .inr (pourStartOf_of_length length), .inr (pourStartOf_of_kind head kind)]

theorem untaken_groupSync {d : Dest} {p : List Byte} (h : Untaken .groupSync d p) : (∀ g, d ≠ .group g) ∨ p ≠ [] := by
  simpa [Untaken] using h

theorem classOf_number (k : FrameClass) : classOf k.number = some k := by cases k <;> rfl

/-- The numbers 1 to 8 name the classes (R197). -/
theorem classOf_none {n : Nat} (h : n = 0 ∨ 9 ≤ n) : classOf n = none := by
  refine List.find?_eq_none.2 fun k _ => ?_
  have range : 1 ≤ k.number ∧ k.number ≤ 8 := by cases k <;> decide
  simp only [decide_eq_true_eq]
  omega

/-- What its row does not take, no row takes as octets. -/
theorem routedRow_untaken {k : FrameClass} {src : Nat} {d : Dest} {p : List Byte} (h : Untaken k d p) :
    routedRow k.number src d p = none := by
  unfold routedRow
  rw [classOf_number]
  cases k with
  | alarm => rfl
  | result => rfl
  | bayState =>
    obtain dest | part := untaken_bayState h
    · cases d <;> trivial
    · cases d <;> simp [part]
  | draw =>
    obtain dest | part := untaken_draw h
    · cases d <;> trivial
    · cases d <;> simp [part]
  | coolCap =>
    obtain dest | part := untaken_coolCap h
    · cases d <;> trivial
    · cases d <;> simp [part]
  | pour =>
    obtain dest | part := untaken_pour h
    · cases d <;> trivial
    · cases d <;> simp [part]
  | groupSync =>
    obtain dest | payload := untaken_groupSync h
    · cases d <;> simp_all
    · cases d <;> simp [payload]
  | command =>
    have short : p.length < 2 := by simpa [Untaken] using h
    match p, short with
    | [], _ => rfl
    | [_], _ => rfl

/-- Good octets of another station are discarded where no row takes them at a destination of the station's (R198). -/
theorem judge_discarded {os : List Byte} {w : WireHeader} {p : List Byte} {s : State} (read : readFrame os = .good w p)
    (h : w.src = 0 ∨ (w.src ≠ s.ident.number ∧ ∀ d, destOf w.destKind w.destNumber = some d →
      destAccepted s d = true → routedRow w.cls w.src d p = none)) :
    judge os s = .discarded := by
  unfold judge
  rw [read]
  dsimp only
  obtain source | ⟨other, untaken⟩ := h
  · rw [if_pos source]
  · rw [if_neg other]
    split
    · rfl
    · split
      · rfl
      · next d dest =>
        split
        · next accepted => rw [untaken d dest accepted]
        · rfl

section
variable {s : State} (up : s.held = false)
include up

theorem exec_frameDiscarded (rx : Reception) :
    exec (.frameDiscarded rx) s = .next (updateLeak (discardFrame rx s)) := perform_running _ up

variable (receives : canReceive s = true)
include receives

theorem exec_frameDiscarded_octets {os : List Byte} (judged : judge os s = .discarded) :
    exec (.frameDiscarded (.octets os)) s = .next (updateLeak (endReception s)) := by
  rw [exec_frameDiscarded up, discardFrame, if_pos receives]
  simp only [judged]

theorem discards_reception :
    exec (.frameDiscarded .stopBitDominant) s =
      .next (updateLeak { s with link := { s.link with bus := .ignoring, rx := .empty } }) ∧
    exec (.frameDiscarded .cutOff) s =
      .next (updateLeak { s with link := { s.link with bus := .idle, rx := .empty } }) := by
  constructor <;> rw [exec_frameDiscarded up, discardFrame, if_pos receives] <;> rfl

/-- Octets with a length field above 16 leave the bus ignored (R32). -/
theorem discards_tooLong {os : List Byte} (read : readFrame os = .tooLong) :
    exec (.frameDiscarded (.octets os)) s =
      .next (updateLeak { s with link := { s.link with bus := .ignoring, rx := .empty } }) := by
  rw [exec_frameDiscarded up, discardFrame, if_pos receives]
  have judged : judge os s = .tooLong := by simp [judge, read]
  simp only [judged]
  rfl

theorem discards_broken {os : List Byte} (read : readFrame os = .broken) :
    exec (.frameDiscarded (.octets os)) s = .next (updateLeak (endReception s)) :=
  exec_frameDiscarded_octets up receives (by simp [judge, read])

/-- Octets that are not for the station, or of a class that no row takes, end their reception (R33, R34). -/
theorem discards_unaccepted {os : List Byte} {w : WireHeader} {p : List Byte} (read : readFrame os = .good w p)
    (h : w.src = 0 ∨ (w.src ≠ s.ident.number ∧
      (w.destKind = 3 ∨ (∀ d, destOf w.destKind w.destNumber = some d → destAccepted s d = false) ∨ w.cls = 0 ∨
        9 ≤ w.cls ∨ w.cls = 1 ∨ w.cls = 7))) :
    exec (.frameDiscarded (.octets os)) s = .next (updateLeak (endReception s)) := by
  refine exec_frameDiscarded_octets up receives (judge_discarded read (h.imp_right fun ⟨other, why⟩ => ⟨other, ?_⟩))
  intro d dest accepted
  have unclassed (h : w.cls = 0 ∨ 9 ≤ w.cls) : classOf w.cls = none := classOf_none h
  rcases why with kind | elsewhere | zero | high | alarm | result
  · simp [kind, destOf] at dest
  · simp [elsewhere d dest] at accepted
  · simp [routedRow, unclassed (.inl zero)]
  · simp [routedRow, unclassed (.inr high)]
  · rw [alarm]
    cases d <;> rfl
  · rw [result]
    cases d <;> rfl

/-- Octets that a row of the frames takes are that row's (R198). -/
theorem discards_routed {os : List Byte} {row : Instr} (judged : judge os s = .routed row) :
    exec (.frameDiscarded (.octets os)) s = .next (updateLeak s) := by
  rw [exec_frameDiscarded up, discardFrame, if_pos receives]
  simp only [judged]

end

section
variable {h : Header} {p : List Byte} {s : State} (accepts : Accepts h s)
include accepts

/-- An accepted frame's row acts at the end of its reception. -/
theorem perform_accepted (act : State → State) :
    perform (acceptFrame h act) s = .next (updateLeak (act (endReception s))) := by
  rw [perform_running _ accepts.1, acceptFrame_accepted _ accepts]

theorem receiveBayState_untaken (untaken : Untaken .bayState h.dest p) :
    exec (.receiveBayState h p) s = .next (updateLeak (endReception s)) := by
  refine (perform_accepted accepts _).trans ?_
  split
  · next dest part => simpa [dest, part] using untaken_bayState untaken
  · rfl

theorem receiveDraw_untaken (untaken : Untaken .draw h.dest p) :
    exec (.receiveDraw h p) s = .next (updateLeak (endReception s)) := by
  refine (perform_accepted accepts _).trans ?_
  split
  · next dest part => simpa [dest, part] using untaken_draw untaken
  · rfl

theorem receiveCoolCap_untaken (untaken : Untaken .coolCap h.dest p) :
    exec (.receiveCoolCap h p) s = .next (updateLeak (endReception s)) := by
  refine (perform_accepted accepts _).trans ?_
  split
  · next dest part => simpa [dest, part] using untaken_coolCap untaken
  · rfl

theorem receivePour_untaken (untaken : Untaken .pour h.dest p) :
    exec (.receivePour h p) s = .next (updateLeak (endReception s)) := by
  refine (perform_accepted accepts _).trans ?_
  split
  · next dest part => simpa [dest, part] using untaken_pour untaken
  · rfl

theorem receiveGroupSync_untaken (untaken : Untaken .groupSync h.dest p) :
    exec (.receiveGroupSync h p) s = .next (updateLeak (endReception s)) := by
  refine (perform_accepted accepts _).trans ?_
  split
  · next g dest => simpa [dest] using untaken_groupSync untaken
  · rfl

end

/-! ### Commands (R35, R36, R40) -/

/-- In SILENT a RESULT is discarded (R40). -/
theorem withResult_of_silent {h : Header} {code tag : Byte} {outcome : ResultCode} {data : List Byte} {t : State}
    (silent : t.link.silent = true) : withResult h code tag outcome data t = updateLeak t := by
  rw [withResult, queueFrame_of_silent _ silent]

section
variable {h : Header} {tag : Byte} {args : List Byte} {s : State}

theorem perform_commandFrame_addressed {n : CommandName} {p : State → Reply} (addressed : Addressed h s) :
    perform (commandFrame n h tag args p) s = .next (updateLeak (answerCommand n h tag args p (endReception s))) := by
  refine (perform_accepted addressed.1 _).trans ?_
  rw [addressed.2]

/-- Argument octets of the wrong number are answered BAD_ARGUMENT (R35). -/
theorem perform_commandFrame_badArgument {n : CommandName} {p : State → Reply} (addressed : Addressed h s)
    (misfit : args.length ≠ n.argLength) :
    perform (commandFrame n h tag args p) s = .next (withResult h n.code tag .badArgument [] (atDispatch s)) := by
  rw [perform_commandFrame_addressed addressed, answerCommand]
  simp only [if_neg misfit]
  split
  · next silent => rw [withResult_of_silent (by simpa [atDispatch] using silent), atDispatch, refuse]
  · rfl

/-- A code that names no command is answered UNKNOWN_COMMAND (R35). -/
theorem exec_unknownCommand_addressed {code : Byte} (addressed : Addressed h s) (unknown : namesCommand code = false) :
    exec (.unknownCommand h code tag args) s =
      .next (withResult h code tag .unknownCommand [] (atDispatch s)) := by
  refine (perform_accepted addressed.1 _).trans ?_
  rw [addressed.2]
  simp only [unknown, Bool.false_eq_true, if_false]
  rfl

/-- In SILENT a command other than RESTART leaves the link controller at the reception's end (R40). -/
theorem link_of_answerCommand_silent {n : CommandName} (other : n ≠ .restart) (silent : s.link.silent = true)
    (empty : s.link.queue = []) : (answerCommand n h tag args (n.reply args) s).link = s.link := by
  have heard := (QueuesFrom.refl s).activityEvent .command
  have replied : QueuesFrom s.link (if args.length = n.argLength then n.reply args (activityEvent .command s)
      else refuse .badArgument (activityEvent .command s)).state := by
    split
    exacts [heard.reply other args, heard]
  have answered : QueuesFrom s.link (answerCommand n h tag args (n.reply args) s) := replied.ite (replied.queueFrame _)
  exact answered.deaf silent empty

end

/-- Settles O46: each way a frame has no effect, by the reception and the judgement of its octets. -/
theorem framesWithoutEffect : Obligations.FramesWithoutEffect := by
  refine ⟨⟨fun h c s unaccepted received => ?_, fun s up receives => ?_⟩,
    ⟨fun h p s accepts => ⟨receiveBayState_untaken accepts, receiveDraw_untaken accepts,
      receiveCoolCap_untaken accepts, receivePour_untaken accepts, receiveGroupSync_untaken accepts⟩,
      fun k d os w p s up receives read other cls dest untaken => ?_⟩,
    fun h c s up idle row => ?_, fun h tag args s addressed => ⟨fun n misfit => ?_, fun code unknown => ?_⟩,
    fun h code tag outcome data t silent => withResult_of_silent silent,
    fun h tag args s addressed ok silent => ⟨fun n other => ?_, fun code unknown => ?_⟩⟩
  · obtain ⟨act, row⟩ := received.row
    rw [row, perform_running _ unaccepted.1, acceptFrame_unaccepted act unaccepted]
  · obtain ⟨stopBit, cutOff⟩ := discards_reception up receives
    exact ⟨stopBit, cutOff, fun os => discards_tooLong up receives, fun os => discards_broken up receives,
      fun os w p => discards_unaccepted up receives, fun os row => discards_routed up receives⟩
  · refine exec_frameDiscarded_octets up receives (judge_discarded read (.inr ⟨other, fun e dest' _ => ?_⟩))
    obtain rfl : d = e := Option.some.inj (dest.symm.trans dest')
    rw [cls, routedRow_untaken untaken]
  · have deaf : canReceive s = false := by simp [canReceive, idle]
    obtain received | ⟨rx, rfl⟩ := row
    · obtain ⟨act, row⟩ := received.row
      rw [row, perform_running _ up, acceptFrame_of_not_receiving act deaf]
    · simp [exec_frameDiscarded up, discardFrame, deaf]
  · rw [exec_row, perform_commandFrame_badArgument addressed misfit]
  · exact exec_unknownCommand_addressed addressed unknown
  · refine ⟨_, (exec_row n h tag args s).trans (perform_commandFrame_addressed addressed), ?_⟩
    rw [updateLeak_link, link_of_answerCommand_silent other (by exact silent) (by exact ok.2.1 silent)]
    rfl
  · rw [exec_unknownCommand_addressed addressed unknown, withResult_of_silent (by simpa [atDispatch] using silent)]

/-! ### Commands to a group or to ALL (R36) -/

section
variable {h : Header} {tag : Byte} {args : List Byte} {s : State} (accepts : Accepts h s)
  (shared : ∀ n, h.dest ≠ .station n)
include accepts shared

theorem exec_row_shared (n : CommandName) :
    exec (n.row h tag args) s = .next (updateLeak (groupCommand n args (n.reply args) (endReception s))) := by
  rw [exec_row]
  refine (perform_accepted accepts _).trans ?_
  split
  · next m dest => exact absurd dest (shared m)
  all_goals rfl

/-- A command that no group takes, or of another length, ends its reception and no more. -/
theorem exec_row_shared_untaken {n : CommandName} (untaken : n.takenByGroup = false ∨ args.length ≠ n.argLength) :
    exec (n.row h tag args) s = .next (updateLeak (endReception s)) := by
  rw [exec_row_shared accepts shared, groupCommand, if_neg]
  obtain closed | misfit := untaken
  · simp [closed]
  · simp [misfit]

theorem exec_unknownCommand_shared {code : Byte} :
    exec (.unknownCommand h code tag args) s = .next (updateLeak (endReception s)) := by
  refine (perform_accepted accepts _).trans ?_
  split
  · next m dest => exact absurd dest (shared m)
  all_goals rfl

end

theorem quietReply_state (s : State) :
    (quietReply s).state = if s.sup.station = .run ∧ s.sup.quiet = false then enterQuiet s else s := by
  unfold quietReply
  by_cases run : s.sup.station = .run
  · cases quiet : s.sup.quiet <;> simp [run, answer]
  · simp [run, refuse]

/-- Settles O50: the six commands are their blocks' replies at the end of the reception. -/
theorem groupCommands : Obligations.GroupCommands := by
  refine ⟨fun h tag s accepts shared => ?_, fun h tag args s accepts shared =>
    ⟨fun n => exec_row_shared_untaken accepts shared, fun code => exec_unknownCommand_shared accepts shared⟩⟩
  have taken {n : CommandName} {t : State} (group : n.takenByGroup = true) (length : n.argLength = 0)
      (reply : (n.reply [] (endReception s)).state = t) : exec (n.row h tag []) s = .next (updateLeak t) := by
    rw [exec_row_shared accepts shared, groupCommand, if_pos (by simp [group, length]), reply]
  refine ⟨taken (n := .pauseProfile) rfl rfl ?_, taken (n := .resumeProfile) rfl rfl ?_,
    taken (n := .quiet) rfl rfl ?_, taken (n := .wake) rfl rfl ?_, taken (n := .clearSupply) rfl rfl rfl,
    taken (n := .leaveSafe) rfl rfl ?_⟩
  · exact apply_ite Reply.state _ _ _
  · exact apply_ite Reply.state _ _ _
  · exact quietReply_state (endReception s)
  · rfl
  · rw [CommandName.reply, leaveSafeReply, apply_ite Reply.state, apply_ite Reply.state]
    rfl

end Sys2Proof.Machine
end


section
/-! ## The octets of an own frame at a receiver (R23, R34, R197, R198): O20 -/

namespace Sys2Proof.Machine

/-- The fields of the header octets are read back (R197). -/
theorem splitHeader_header {priority cls source number kind length : Nat} (hp : priority < 8) (hc : cls < 32)
    (hs : source < 16) (hn : number < 16) (hk : kind < 4) (hl : length < 32) :
    splitHeader (byte (priority * 32 + cls)) (byte (source * 16 + number)) (byte (kind * 64 + length)) =
      { priority := priority, cls := cls, src := source, destNumber := number, destKind := kind,
        length := length } := by
  simp only [splitHeader, bitsOf, byte, BitVec.toNat_ofNat, WireHeader.mk.injEq]
  omega

/-- A header, a payload of the length it names and the CRC over both are read as a good frame (R23, R32). -/
theorem readFrame_sealed {o0 o1 o2 : Byte} {p : List Byte} (length : (splitHeader o0 o1 o2).length = p.length)
    (short : p.length ≤ 16) :
    readFrame ((o0 :: o1 :: o2 :: p) ++ be16 (crc16 (o0 :: o1 :: o2 :: p)).toNat) =
      .good (splitHeader o0 o1 o2) p := by
  simp [readFrame, length, Nat.not_lt.2 short, be16]

theorem FrameClass.number_lt (k : FrameClass) : k.number < 32 := by cases k <;> decide

theorem FrameClass.priority_lt (k : FrameClass) : k.priority < 8 := by cases k <;> decide

theorem Dest.kind_lt (d : Dest) : Dest.kind d < 4 := by cases d <;> simp [Dest.kind]

theorem destOf_kind_number (d : Dest) : destOf (Dest.kind d) (Dest.number d) = some d := by cases d <;> rfl

/-- What a receiver reads from the octets of an own frame. -/
def wireHeader (s : State) (f : Frame) : WireHeader :=
  { priority := f.frameClass.priority, cls := f.frameClass.number, src := s.ident.number,
    destNumber := Dest.number f.dest, destKind := Dest.kind f.dest, length := (f.payload s).length }

theorem readFrame_frameOctets {f : Frame} {s : State} (source : s.ident.number ≤ 15) (dest : Dest.number f.dest ≤ 15)
    (short : (f.payload s).length ≤ 16) :
    readFrame (frameOctets s f) = .good (wireHeader s f) (f.payload s) := by
  have split := splitHeader_header f.frameClass.priority_lt f.frameClass.number_lt (Nat.lt_succ_of_le source)
    (Nat.lt_succ_of_le dest) (Dest.kind_lt f.dest) (Nat.lt_of_le_of_lt short (by decide : 16 < 32))
  have read := readFrame_sealed (p := f.payload s) (by rw [split]) short
  rw [split] at read
  exact read

theorem length_frameOctets (f : Frame) (s : State) : (frameOctets s f).length = 5 + (f.payload s).length := by
  simp only [frameOctets, headerOctets, be16, List.length_append, List.length_cons, List.length_nil]
  omega

/-! ### The routing of a peer's frame (R34, R198) -/

section
variable {f : Frame} {s r : State} (loud : 1 ≤ s.ident.number) (source : s.ident.number ≤ 8)
  (other : s.ident.number ≠ r.ident.number) (dest : Dest.number f.dest ≤ 15) (short : (f.payload s).length ≤ 16)
include loud source other dest short

/-- A peer's frame at a destination of the receiver's is the row's that takes it. -/
theorem judge_frameOctets {row : Instr} (accepted : destAccepted r f.dest = true)
    (routed : routedRow f.frameClass.number s.ident.number f.dest (f.payload s) = some row) :
    judge (frameOctets s f) r = .routed row := by
  unfold judge
  rw [readFrame_frameOctets (by omega) dest short]
  have named : s.ident.number ≠ 0 := by omega
  simp [wireHeader, named, other, destOf_kind_number, accepted, routed]

/-- A peer's frame that no row takes is discarded, and so is one for another destination. -/
theorem judge_frameOctets_discarded (untaken : destAccepted r f.dest = true →
      routedRow f.frameClass.number s.ident.number f.dest (f.payload s) = none) :
    judge (frameOctets s f) r = .discarded := by
  refine judge_discarded (readFrame_frameOctets (by omega) dest short) (.inr ⟨other, fun d named accepted => ?_⟩)
  obtain rfl : f.dest = d := Option.some.inj ((destOf_kind_number _).symm.trans named)
  exact untaken accepted

end

/-- Settles O20: each own frame's octets are a good frame's, and its class says which row takes its payload. -/
theorem ownFrameIsGood : Obligations.OwnFrameIsGood := by
  refine ⟨fun f s source dest short => ⟨length_frameOctets f s, readFrame_frameOctets source dest short⟩,
    classOf_number, fun n => classOf_none, destOf_kind_number, fun n => rfl, fun s r loud source other => ?_⟩
  have judged (f : Frame) := judge_frameOctets (f := f) loud source other
  have discarded (f : Frame) := judge_frameOctets_discarded (f := f) loud source other
  have toAll : 0 ≤ 15 := by decide
  refine ⟨judged .bayState toAll ?_ rfl ?_, fun k u w => judged (.draw k u w) toAll ?_ rfl ?_,
    fun m => judged (.pourStart m) toAll ?_ rfl ?_, fun m v o => judged (.pourEnd m v o) toAll ?_ rfl ?_,
    fun g small => ?_, fun a raised lines => discarded (.alarm a raised lines) toAll ?_ fun _ => rfl,
    fun dest code tag outcome data small short => discarded (.result dest code tag outcome data) small ?_ fun _ => rfl⟩
  · simp [Frame.payload, bayStatePayload, be16, be32]
  · rfl
  · simp [Frame.payload]
  · cases k <;> cases u <;> cases w <;> rfl
  · simp [Frame.payload, be16, be32]
  · rfl
  · simp [Frame.payload, be16, be32]
  · rfl
  · split
    · next own => exact judged (.groupSync g) small (by simp [Frame.payload]) own rfl
    · next others => exact discarded (.groupSync g) small (by simp [Frame.payload]) fun own => absurd own others
  · simp [Frame.payload]
  · simp only [Frame.payload, List.length_append, List.length_cons, List.length_nil]
    omega

end Sys2Proof.Machine
end


section
/-! ## A GROUP_SYNC at the sequencer (R79, R81, R83, R86): O49

### How far a step's start fills the queue (R28 to R30)

The coordinator's DRAWs take each other's place, and a waiting BAY_STATE gives way, so that beside one DRAW a step's
start adds the frame of one alarm at most. -/

namespace Sys2Proof.Machine

/-- A DRAW that waits: the next one takes its place (R29). -/
def QFrame.waitingDraw (q : QFrame) : Bool := q.frame.isDraw && !q.inFlight

/-- A firm frame that no other takes the place of. -/
def QFrame.fixed (q : QFrame) : Bool := q.firm && !q.waitingDraw

/-- The firm frames of the queue, with room kept for one DRAW that waits. -/
def Link.load (l : Link) : Nat := l.queue.countP QFrame.fixed + max 1 (l.queue.countP QFrame.waitingDraw)

theorem QFrame.waitingDraw_firm {q : QFrame} (h : q.waitingDraw = true) : q.firm = true := by
  obtain ⟨f, n, i, c⟩ := q
  cases f <;> simp_all [waitingDraw, firm, Frame.isDraw, Frame.isBayState]

theorem Link.firmCount_eq (l : Link) :
    l.firmCount = l.queue.countP QFrame.fixed + l.queue.countP QFrame.waitingDraw := by
  unfold firmCount
  induction l.queue with
  | nil => rfl
  | cons q b ih =>
    have split : (if q.firm then 1 else 0) = (if q.fixed then 1 else 0) + (if q.waitingDraw then 1 else 0) := by
      unfold QFrame.fixed
      cases draw : q.waitingDraw
      · simp
      · simp [q.waitingDraw_firm draw]
    simp only [List.countP_cons, ih, split]
    omega

theorem Link.firmCount_le_load (l : Link) : l.firmCount ≤ l.load := by
  rw [firmCount_eq, load]
  omega

theorem Link.load_le_length (l : Link) : l.load ≤ l.queue.length + 1 := by
  have firm := l.firmCount_le_length
  rw [firmCount_eq] at firm
  rw [load]
  omega

theorem replaceLast_none {p : QFrame → Bool} {f : QFrame} {q : List QFrame} (h : replaceLast p f q = none) :
    ∀ x ∈ q, p x = false := by
  induction q with
  | nil => simp
  | cons a q ih =>
    unfold replaceLast at h
    split at h
    · nomatch h
    · next rest =>
      split at h
      · nomatch h
      · next here => simpa [here] using ih rest

theorem coalescesWith_waitingDraw {f q : QFrame} (draw : f.waitingDraw = true) :
    coalescesWith f.frame q = q.waitingDraw := by
  obtain ⟨f, n, i, c⟩ := f
  cases f <;> simp_all [QFrame.waitingDraw, coalescesWith, Frame.isDraw, Frame.isBayState, Bool.and_comm]

/-- Only a frame that is fixed itself adds to the load. -/
theorem enqueue_load (f : QFrame) (l : Link) : (l.enqueue f).1.load ≤ l.load + if f.fixed then 1 else 0 := by
  unfold Link.enqueue Link.load
  split
  · exact Nat.le_add_right _ _
  split
  · next q hq =>
    obtain ⟨a, o, b, hl, rfl, coalesces⟩ := replaceLast_some _ _ _ _ hq
    have place : f.waitingDraw = true → o.waitingDraw = true := fun draw =>
      (coalescesWith_waitingDraw draw).symm.trans coalesces
    simp only [hl, List.countP_append, List.countP_cons]
    have less : (if f.waitingDraw then 1 else 0) ≤ if o.waitingDraw then 1 else 0 := by
      cases draw : f.waitingDraw
      · exact Nat.zero_le _
      · simp [place draw]
    omega
  next none =>
  have alone : f.waitingDraw = true → l.queue.countP QFrame.waitingDraw = 0 := fun draw =>
    List.countP_eq_zero.2 fun x hx => by simp [← coalescesWith_waitingDraw draw, replaceLast_none none x hx]
  split
  · simp only [countP_insertFrame]
    cases draw : f.waitingDraw <;> simp_all
    omega
  split
  · next q hq =>
    obtain ⟨a, o, b, hl, rfl, -⟩ := removeLast_some _ _ _ hq
    simp only [hl, countP_insertFrame, List.countP_append, List.countP_cons] at alone ⊢
    cases draw : f.waitingDraw <;> simp_all <;> omega
  · exact Nat.le_add_right _ _

/-- The queue holds after a queueing the frame itself and frames it held. -/
theorem mem_enqueue {f x : QFrame} {l : Link} (h : x ∈ (l.enqueue f).1.queue) : x = f ∨ x ∈ l.queue := by
  unfold Link.enqueue at h
  split at h
  · exact .inr h
  split at h
  · next q hq =>
    obtain ⟨a, o, b, hl, rfl, -⟩ := replaceLast_some _ _ _ _ hq
    simp only [hl, List.mem_append, List.mem_cons] at h ⊢
    tauto
  split at h
  · exact (mem_insertFrame _ _ _).1 h
  split at h
  · next q hq =>
    obtain ⟨a, o, b, hl, rfl, -⟩ := removeLast_some _ _ _ hq
    have := (mem_insertFrame _ _ _).1 h
    simp only [hl, List.mem_append, List.mem_cons] at this ⊢
    tauto
  · exact .inr h

/-- From `l` to `m` the blocks have queued no GROUP_SYNC and added at most `n` to the load. -/
structure FewQueued (l : Link) (n : Nat) (m : Link) : Prop where
  load : m.load ≤ l.load + n
  syncs : ∀ q ∈ m.queue, (∃ g, q.frame = .groupSync g) → q.frame ∈ l.queue.map (·.frame)

theorem FewQueued.enqueue {l m : Link} {n : Nat} (h : FewQueued l n m) (f : QFrame)
    (other : ∀ g, f.frame ≠ .groupSync g) : FewQueued l (n + if f.fixed then 1 else 0) (m.enqueue f).1 where
  load := by
    have queued := enqueue_load f m
    have before := h.load
    omega
  syncs q hq sync := by
    obtain rfl | hq := mem_enqueue hq
    · obtain ⟨g, frame⟩ := sync
      exact absurd frame (other g)
    · exact h.syncs q hq sync

/-- The link controller of `s` is one that the blocks may have made of `l`, with at most `n` more load. -/
def QueuesFew (l : Link) (n : Nat) (s : State) : Prop := FewQueued l n s.link

theorem QueuesFew.refl (s : State) : QueuesFew s.link 0 s :=
  ⟨Nat.le_refl _, fun _ hq _ => List.mem_map_of_mem hq⟩

section
variable {l : Link} {n : Nat} {s : State} (h : QueuesFew l n s)
include h

theorem QueuesFew.more : QueuesFew l (n + 1) s := ⟨h.load.trans (Nat.le_succ _), h.syncs⟩

theorem QueuesFew.queueDraw (k : DrawKind) : QueuesFew l n (queueDraw k s) :=
  h.enqueue { frame := .draw k s.draw.urgency s.draw.supplyWeak } nofun

theorem QueuesFew.queueAlarm (a : Alarm) (raised : Bool) (lines : BitVec 4) :
    QueuesFew l (n + 1) (queueFrame (.alarm a raised lines) s) :=
  h.enqueue { frame := .alarm a raised lines } nofun

theorem QueuesFew.queueBayState : QueuesFew l n (queueBayState s) := by
  have queued : FewQueued l n (s.link.enqueue { frame := .bayState }).1 := h.enqueue { frame := .bayState } nofun
  unfold QueuesFew
  rw [queueBayState_link]
  split
  exacts [h, ⟨queued.load, queued.syncs⟩]

theorem QueuesFew.activityEvent (e : Activity) : QueuesFew l n (activityEvent e s) := by
  unfold Machine.activityEvent leaveQuiet
  (repeat' split)
  exacts [h, QueuesFew.queueBayState h, h, h, h]

theorem QueuesFew.raiseAlarm (a : Alarm) (x : BitVec 4) : QueuesFew l (n + 1) (raiseAlarm a s x) := by
  have marked : QueuesFew l n (s.mapSup fun p =>
      { p with active := withAlarm p.active a, latched := withAlarm p.latched a }) := h
  unfold Machine.raiseAlarm
  dsimp only
  (repeat' split)
  exacts [h.more, ((marked.queueAlarm _ _ _).queueBayState).activityEvent _, (marked.queueAlarm _ _ _).activityEvent _]

theorem QueuesFew.endAlarm (a : Alarm) : QueuesFew l (n + 1) (endAlarm a s) := by
  have ended : QueuesFew l n (s.mapSup fun p => { p with active := withoutAlarm p.active a }) := h
  unfold Machine.endAlarm
  split
  exacts [ended.queueAlarm _ _ _, h.more]

theorem QueuesFew.makeClaim : QueuesFew l n (makeClaim s) := by
  have unlived : FewQueued l n { s.link with queue := s.link.queue.map fun q => { q with liveClaim := false } } := by
    refine ⟨?_, by simpa using h.syncs⟩
    have load := h.load
    simp only [Link.load, List.countP_map] at load ⊢
    exact load
  have claimed := unlived.enqueue
    { frame := .draw .claim s.draw.urgency s.draw.supplyWeak, liveClaim := true } nofun
  unfold Machine.makeClaim
  dsimp only
  split <;> exact claimed

theorem QueuesFew.examine : QueuesFew l n (examine s) := by
  have limited : QueuesFew l n (s.mapDraw fun d => { d with limit := s.setup.drawLimit }) := h
  unfold Machine.examine
  dsimp only
  (repeat' split)
  exacts [limited.makeClaim, limited, h]

theorem QueuesFew.contendAgain : QueuesFew l n (contendAgain s) := by
  unfold Machine.contendAgain
  split
  exacts [QueuesFew.examine h, h]

theorem QueuesFew.formUrgency : QueuesFew l n (formUrgency s) := by
  have formed : QueuesFew l n (s.mapDraw fun d => { d with urgency := presentUrgency s }) := h
  unfold Machine.formUrgency shortenBackoff
  dsimp only
  (repeat' split)
  exacts [h, formed.examine, formed.queueDraw _, formed.contendAgain, formed, formed, formed, formed, formed, formed]

theorem QueuesFew.needArrives : QueuesFew l n (needArrives s) := by
  unfold Machine.needArrives
  dsimp only
  (repeat' split)
  exacts [h, QueuesFew.examine h, h]

theorem QueuesFew.needEnds : QueuesFew l n (needEnds s) := by
  have ended : QueuesFew l n ((s.mapDraw fun d => { d with need := false }).mapDraw (·.enter .idle)) := h
  unfold Machine.needEnds
  dsimp only
  (repeat' split)
  exacts [h, ended.queueDraw _, ended.queueDraw _, ended, ended, ended, h, h]

theorem QueuesFew.updateLockouts : QueuesFew l n (updateLockouts s) := by
  have formed (e : DrawState) : QueuesFew l n
      ((s.mapDraw fun d => { d with causes := formCauses s }).mapDraw (·.enter e)) := h
  unfold Machine.updateLockouts enterLocked
  dsimp only
  (repeat' split)
  exacts [h, (formed _).queueDraw _, (formed _).queueDraw _, h, h, h, h, h, QueuesFew.contendAgain h, h]

theorem QueuesFew.endFlowing (r : EndReason) : QueuesFew l n (endFlowing r s) := by
  unfold Machine.endFlowing
  split
  exacts [QueuesFew.formUrgency h, h]

theorem QueuesFew.dropForcedInlet : QueuesFew l n (dropForcedInlet s) := by
  unfold Machine.dropForcedInlet
  split
  exacts [QueuesFew.needEnds h, h]

/-- A change of the regulation state moves one alarm at most: RELIEF is not left and entered at once (R130, R139). -/
theorem QueuesFew.evaluateGas : QueuesFew l (n + 1) (evaluateGas s) := by
  have moved : QueuesFew l n (s.mapGas (·.moveTo (decideGas s))) := h
  have entered {x : State} (hx : QueuesFew l n x) : QueuesFew l (n + 1) (enterGas (decideGas s) x) := by
    unfold enterGas
    split
    exacts [hx.needArrives.more, hx.dropForcedInlet.raiseAlarm _ _, hx.dropForcedInlet.more, hx.more, hx.more, hx.more,
      hx.more]
  unfold Machine.evaluateGas moveGas
  split
  · exact h.more
  · next other =>
    unfold leaveGas
    split
    · exact entered moved.needEnds
    · next relief =>
      have ended := moved.endAlarm .overpressure
      unfold enterGas
      split
      · exact ended.needArrives
      · next again => exact absurd (again.trans relief.symm) other
      · exact ended.dropForcedInlet
      all_goals exact ended
    all_goals exact entered moved

end

end Sys2Proof.Machine
end


section
/-! ### A step's start in full (R76 to R79, R94, R141) -/

namespace Sys2Proof.Machine

theorem stepPlaced_rest (index : Nat) (r : StepRecord) (s : State) :
    (stepPlaced index r s).link = s.link ∧ (stepPlaced index r s).view = s.view ∧
      (stepPlaced index r s).cool = s.cool ∧ (stepPlaced index r s).disp = s.disp := by
  unfold stepPlaced
  dsimp only
  (repeat' split) <;> simp

/-- A RAMP to another setpoint begins ramping from the held one (R76, R94). -/
theorem stepPlaced_ramping (index : Nat) {r : StepRecord} {s : State} {rate : Nat} (ramp : r.kind = .ramp rate)
    (away : r.target ≠ s.temp.accumulator / 65536) :
    (stepPlaced index r s).seq.phase = some .ramping ∧ (stepPlaced index r s).temp = s.temp := by
  simp [stepPlaced, startPhase, ramp, reportedSetpoint, away]

/-- A SOAK, and a RAMP to the setpoint that is held, begin soaking at the target (R76, R94). -/
theorem stepPlaced_soaking (index : Nat) {r : StepRecord} {s : State} (long : 0 < r.duration)
    (soaks : ¬((∃ rate, r.kind = .ramp rate) ∧ r.target ≠ s.temp.accumulator / 65536)) :
    (stepPlaced index r s).seq.phase = some .soaking ∧
      (stepPlaced index r s).temp = { s.temp with accumulator := r.target * 65536 } := by
  have starts : startPhase r (reportedSetpoint s.temp) = .soaking := by
    unfold startPhase
    split
    · rfl
    · next rate ramp =>
      have held : r.target = s.temp.accumulator / 65536 := by
        by_contra away
        exact soaks ⟨⟨rate, ramp⟩, away⟩
      rw [if_pos (by exact held)]
  simp [stepPlaced, starts, enterSoaking, Nat.ne_of_gt long]

theorem beginStep_placed (m : Option GasMode) (index : Nat) (r : StepRecord) (s : State) :
    (beginStep m index r s).seq = (stepPlaced index r s).seq ∧
      (beginStep m index r s).temp = (stepPlaced index r s).temp := by
  have told (x : State) : (stepTold r x).temp = x.temp := by
    unfold stepTold
    split <;> simp
  have poured (x : State) : (stepPour m x).temp = x.temp := by
    unfold stepPour
    split <;> simp
  simp [beginStep_eq, stepTold_frame, told, stepSet, stepPour_frame, poured]

/-- The regulator's evaluation at a step's start counts at most one pulse in the open bucket (R135, R141). -/
theorem takeUpMode_ring (m : Option GasMode) {s : State} (cleared : s.gas.openBucket = 0) :
    (takeUpMode m s).gas.buckets = s.gas.buckets ∧ (takeUpMode m s).gas.openBucket ≤ 1 ∧
      ((takeUpMode m s).gas.state ≠ .pulse → (takeUpMode m s).gas.openBucket = 0) := by
  have evaluated {x : State} (bucket : x.gas.openBucket = 0) :
      (evaluateGas x).gas.buckets = x.gas.buckets ∧ (evaluateGas x).gas.openBucket ≤ 1 ∧
        ((evaluateGas x).gas.state ≠ .pulse → (evaluateGas x).gas.openBucket = 0) := by
    rw [evaluateGas, moveGas_gas]
    split
    · simp [bucket]
    · by_cases pulse : decideGas x = .pulse <;> simp [Gas.moveTo, bucket, pulse]
  unfold takeUpMode
  split
  · exact evaluated (x := s.mapGas (·.moveTo .rest)) (by simpa [Gas.moveTo] using cleared)
  · exact evaluated cleared

/-- A step's start clears the activity ring (R141). -/
theorem beginStep_ring (m : Option GasMode) (index : Nat) (r : StepRecord) (s : State) :
    (beginStep m index r s).gas.buckets = [] ∧ (beginStep m index r s).gas.openBucket ≤ 1 ∧
      ((beginStep m index r s).gas.state ≠ .pulse → (beginStep m index r s).gas.openBucket = 0) := by
  have computed (x : State) : (computeSetpoint x).gas.openBucket = x.gas.openBucket ∧
      (computeSetpoint x).gas.buckets = x.gas.buckets := by
    unfold computeSetpoint
    split <;> exact ⟨rfl, rfl⟩
  have set : (stepSet m index r s).gas.openBucket = 0 ∧ (stepSet m index r s).gas.buckets = [] := by
    simp [stepSet_frame, stepComputed, computed, clearRing]
  obtain ⟨buckets, few, quiet⟩ := takeUpMode_ring m set.1
  rw [set.2] at buckets
  have gas : (stepTold r (takeUpMode m (stepSet m index r s))).gas = (takeUpMode m (stepSet m index r s)).gas := by
    simp [stepTold_frame]
  have leak (x : State) : (updateLeak x).gas.buckets = x.gas.buckets ∧
      (updateLeak x).gas.openBucket = x.gas.openBucket ∧ (updateLeak x).gas.state = x.gas.state := ⟨rfl, rfl, rfl⟩
  obtain ⟨ring, bucket, state⟩ := leak (stepTold r (takeUpMode m (stepSet m index r s)))
  rw [beginStep_eq, ring, bucket, state, gas]
  exact ⟨buckets, few, quiet⟩

/-- Without a carbonation target or a temperature a step's start leaves the setpoint (R77, R128). -/
theorem beginStep_setpointStands_unheated (m : Option GasMode) (index : Nat) {r : StepRecord} {s : State}
    (unheated : handedTarget (stepPlaced index r s) = none ∨ s.sampling.beer.filtered = none) :
    SetpointStands s (beginStep m index r s) := by
  have placed : SetpointStands s (stepPlaced index r s) := .of_gas (by simp [stepPlaced_frame])
  have computed : stepComputed index r s = clearRing (stepPlaced index r s) := by
    refine computeSetpoint_of_none (unheated.imp (fun target => ?_) fun cold => ?_)
    · simpa [handedTarget, clearRing] using target
    · simp [stepPlaced_frame, cold]
  exact (placed.trans (clearRing_setpointStands _)).trans (computed ▸ beginStep_setpointStands m index r s)

/-- A pour goes on only where the mode does not leave SERVE (R78, R172). -/
theorem beginStep_pour {m : Option GasMode} {index : Nat} {r : StepRecord} {s : State}
    (flowing : (beginStep m index r s).disp.state = .flowing) :
    ¬(m = some .serve ∧ handedMode (stepPlaced index r s) ≠ some .serve) := by
  intro leaves
  have told (x : State) : (stepTold r x).disp = x.disp := by
    unfold stepTold
    split <;> simp
  have mode : handedMode (stepComputed index r s) = handedMode (stepPlaced index r s) := by
    simp [handedMode, stepComputed]
  have ends : stepPour m (stepComputed index r s) = endFlowing .mode (stepComputed index r s) := by
    rw [stepPour, if_pos (by rwa [mode])]
  have disp : (beginStep m index r s).disp = (endFlowing .mode (stepComputed index r s)).disp := by
    rw [← ends]
    simp [beginStep_eq, told, stepSet, stepComputed]
  exact endFlowing_not_flowing .mode _ (disp ▸ flowing)

/-- Up to the frames that tell of the start, a step's start queues DRAWs, and the frame of one alarm (R28 to R30). -/
theorem queuesFew_takenUp (m : Option GasMode) (index : Nat) (r : StepRecord) (s : State) :
    QueuesFew s.link 1 (takeUpMode m (stepSet m index r s)) := by
  have computed : QueuesFew s.link 0 (stepComputed index r s) := by
    have link : (stepComputed index r s).link = s.link := by simp [stepComputed, stepPlaced_rest]
    unfold QueuesFew
    rw [link]
    exact QueuesFew.refl s
  have poured : QueuesFew s.link 0 (stepPour m (stepComputed index r s)) := by
    unfold stepPour
    split
    exacts [computed.endFlowing _, computed]
  have set : QueuesFew s.link 0 (stepSet m index r s) := poured.updateLockouts.formUrgency
  unfold takeUpMode
  split <;> exact QueuesFew.evaluateGas set

/-- A step's start that has taken up its mode leaves SILENT. -/
theorem takenUp_silent (m : Option GasMode) (index : Nat) (r : StepRecord) (s : State) :
    (queueBayState (takeUpMode m (stepSet m index r s))).link.silent = s.link.silent := by
  have poured (x : State) : (stepPour m x).link.silent = x.link.silent := by
    unfold stepPour
    split <;> simp
  simp [stepSet, poured, stepPlaced_rest]

/-- The sync-out GROUP_SYNC is queued (R79). -/
theorem beginStep_sync (m : Option GasMode) (index : Nat) {r : StepRecord} {g : Nat} (sync : r.syncOut = some g)
    (s : State) : Queued (.groupSync g) s (beginStep m index r s) := by
  have few := (queuesFew_takenUp m index r s).queueBayState.load
  have silent := takenUp_silent m index r s
  rw [beginStep_eq]
  simp only [stepTold, sync]
  generalize queueBayState (takeUpMode m (stepSet m index r s)) = x at few silent ⊢
  intro loud short
  have room := x.link.firmCount_le_load
  have before := s.link.load_le_length
  rw [updateLeak_link]
  exact enqueue_takes (f := { frame := .groupSync g }) (silent.trans loud) (by omega)

/-- Without a sync out no GROUP_SYNC is queued (R79). -/
theorem beginStep_no_sync (m : Option GasMode) (index : Nat) {r : StepRecord} (sync : r.syncOut = none) (s : State) :
    ∀ q ∈ (beginStep m index r s).link.queue, (∃ g, q.frame = .groupSync g) →
      q.frame ∈ s.link.queue.map (·.frame) := by
  have syncs := (queuesFew_takenUp m index r s).queueBayState.syncs
  rw [beginStep_eq]
  simp only [stepTold, sync, updateLeak_link]
  exact syncs

/-- A step of positive duration in the slot that the sequencer takes has started (R76 to R79). -/
theorem stepStarted_beginStep {f : Sequencer → Sequencer} {index : Nat} {r : StepRecord} {s : State}
    (long : 0 < r.duration) (slot : (f s.seq).slot (f s.seq).active index = some r)
    (busy : (f s.seq).profile ≠ .idle) (bankA : (f s.seq).bankA = s.seq.bankA)
    (bankB : (f s.seq).bankB = s.seq.bankB) :
    StepStarted r s (beginStep (handedMode s) index r (s.mapSeq f)) := by
  obtain ⟨p, seq⟩ := stepPlaced_seq index r (s.mapSeq f)
  obtain ⟨placed, temp⟩ := beginStep_placed (handedMode s) index r (s.mapSeq f)
  obtain ⟨ring, few, quiet⟩ := beginStep_ring (handedMode s) index r (s.mapSeq f)
  have current : (stepPlaced index r (s.mapSeq f)).seq.current = some r := by
    rw [seq]
    exact (if_neg busy).trans slot
  have target : handedTarget (stepPlaced index r (s.mapSeq f)) = r.gas.target := by
    rw [handedTarget, current, Option.bind_some]
  have ramping {rate : Nat} := stepPlaced_ramping index (r := r) (s := s.mapSeq f) (rate := rate)
  have soaking := stepPlaced_soaking index (r := r) (s := s.mapSeq f) long
  have computed := beginStep_computed (handedMode s) index r (s.mapSeq f)
  have stands := beginStep_setpointStands_unheated (handedMode s) index (r := r) (s := s.mapSeq f)
  have sync {g : Nat} (h : r.syncOut = some g) := beginStep_sync (handedMode s) index h (s.mapSeq f)
  have noSync (h : r.syncOut = none) := beginStep_no_sync (handedMode s) index h (s.mapSeq f)
  have pour := beginStep_pour (m := handedMode s) (index := index) (r := r) (s := s.mapSeq f)
  obtain ⟨-, -, -, -, setup, sampling, view, cool⟩ := beginStep_frame (handedMode s) index r (s.mapSeq f)
  obtain ⟨keptA, keptB⟩ := beginStep_banks (handedMode s) index r (s.mapSeq f)
  obtain ⟨level, log, -⟩ := beginStep_log (handedMode s) index r (s.mapSeq f)
  have integral := beginStep_integral (handedMode s) index r (s.mapSeq f)
  have station := beginStep_station (handedMode s) index r (s.mapSeq f)
  generalize beginStep (handedMode s) index r (s.mapSeq f) = t at *
  refine ⟨fun ⟨⟨rate, ramp⟩, away⟩ => ?_, fun soaks => ?_, ?_, few, quiet, ring, ?_, computed, fun unheated => ?_,
    fun g => sync, noSync, ?_⟩
  · obtain ⟨phase, held⟩ := ramping ramp away
    rw [placed, temp, phase, held]
    exact ⟨rfl, rfl⟩
  · obtain ⟨phase, taken⟩ := soaking soaks
    rw [placed, temp, phase, taken]
    exact ⟨rfl, rfl⟩
  · rw [placed, seq]
  · rw [handedTarget, placed]
    exact target
  · exact stands (unheated.imp_left target.trans)
  · have timer : t.temp.onTimer = s.temp.onTimer := by
      rw [temp]
      by_cases ramps : (∃ rate, r.kind = .ramp rate) ∧ r.target ≠ s.temp.accumulator / 65536
      · obtain ⟨⟨rate, ramp⟩, away⟩ := ramps
        rw [(ramping ramp away).2]
        rfl
      · rw [(soaking ramps).2]
        rfl
    refine ⟨keptA.trans bankA, keptB.trans bankB, integral, timer, cool, view, setup, sampling, level, log, station,
      fun flowing => ?_⟩
    have stays := pour flowing
    rw [handedMode, handedMode, current] at stays
    simp only [Option.map_some, not_and_or, not_not, Option.some.injEq] at stays
    exact stays.symm

end Sys2Proof.Machine
end


section
/-! ### The end of a step, a pending switch, and GROUP_SYNC (R81, R83, R86) -/

namespace Sys2Proof.Machine

/-! #### What follows a step's start in the same command -/

/-- An activity event, and the leak check at the command's end, leave a started step. -/
theorem StepStarted.told {r : StepRecord} {s t : State} (started : StepStarted r s t) (e : Activity) :
    StepStarted r s (updateLeak (activityEvent e t)) := by
  obtain ⟨ramps, soaks, count, few, quiet, ring, target, computed, stands, sync, noSync, rest⟩ := started
  have kept := (FramesKept.refl t).activityEvent e
  have told := ((QueuesFew.refl t).activityEvent e).syncs
  have frame := activityEvent_frame e t
  have station := activityEvent_station e t
  generalize activityEvent e t = u at *
  obtain ⟨-, -, -, -, setup, sampling, -, view, seq, temp, cool, gas, -, disp⟩ := frame
  have same : SetpointStands t u := .of_gas gas
  refine ⟨?_, ?_, ?_, ?_, ?_, ?_, ?_, ?_, fun unheated => ?_, fun g out loud short => ?_, fun none q hq out => ?_, ?_⟩
  · simpa [seq, temp] using ramps
  · simpa [seq, temp] using soaks
  · simpa [seq] using count
  · exact (congrArg Gas.openBucket gas).trans_le few
  · intro state
    exact (congrArg Gas.openBucket gas).trans (quiet fun pulse => state ((congrArg Gas.state gas).trans pulse))
  · exact (congrArg Gas.buckets gas).trans ring
  · simpa [handedTarget, seq] using target
  · exact (computed.of_stands (congrArg (fun q => q.current.bind (·.gas.target)) seq) sampling setup same).of_stands
      rfl rfl rfl (updateLeak_setpointStands u)
  · exact ((stands unheated).trans same).trans (updateLeak_setpointStands u)
  · exact kept _ rfl rfl (sync g out loud short)
  · obtain ⟨x, hx, frame⟩ := List.mem_map.1 (told q hq out)
    rw [← frame] at out ⊢
    exact noSync none x hx out
  · simpa [seq, temp, cool, view, setup, sampling, disp, station] using rest

/-- A step of positive duration does not wait at its own start (R76). -/
theorem StepStarted.not_waiting {r : StepRecord} {s t : State} (started : StepStarted r s t) :
    t.seq.phase ≠ some .waiting := by
  obtain ⟨ramps, soaks, -⟩ := started
  by_cases ramping : (∃ rate, r.kind = .ramp rate) ∧ r.target ≠ s.temp.accumulator / 65536
  · simp [(ramps ramping).1]
  · simp [(soaks ramping).1]

/-- The chain of ends stops at a step that does not wait. -/
theorem chain_of_not_waiting (n : Nat) {s : State} (phase : s.seq.phase ≠ some .waiting) : chain n s = s := by
  cases n with
  | zero => rfl
  | succ n => simp [chain, waitingEndMet, phase]

theorem chain_of_not_running (n : Nat) {s : State} (profile : s.seq.profile ≠ .running) : chain n s = s := by
  cases n with
  | zero => rfl
  | succ n => simp [chain, waitingEndMet, profile]

/-! #### A pending switch taken (R80, R81) -/

/-- The sequencer once it has taken its pending switch, at a step's start in slot `start`. -/
def Sequencer.switched (start : Nat) (p : Option Phase) (q : Sequencer) : Sequencer :=
  { q with active := q.staged, pendingSwitch := none, profile := if q.profile = .paused then .paused else .running,
           index := start, count := 0, phase := p }

theorem afterSwitch_eq (p : ProfileState) : afterSwitch p = if p = .paused then .paused else .running := by
  cases p <;> rfl

section
variable {start : Nat} {r : StepRecord} {s : State} (slot : s.seq.slot s.seq.staged start = some r)
  (long : 0 < r.duration)
include slot long

theorem takeSwitch_started :
    StepStarted r s (takeSwitch start s) ∧ ∃ p, (takeSwitch start s).seq = s.seq.switched start p := by
  have taken : takeSwitch start s = beginStep (handedMode s) start r (s.mapSeq fun q =>
      { q with active := q.staged, pendingSwitch := none, profile := afterSwitch q.profile }) := by
    simp [takeSwitch, slot]
  rw [taken]
  refine ⟨stepStarted_beginStep long slot ?_ rfl rfl, ?_⟩
  · rw [afterSwitch_eq]
    split <;> simp
  · obtain ⟨p, seq⟩ := beginStep_seq (handedMode s) start r (s.mapSeq fun q =>
      { q with active := q.staged, pendingSwitch := none, profile := afterSwitch q.profile })
    exact ⟨p, by rw [seq]; simp [Sequencer.switched, afterSwitch_eq]⟩

theorem takeSwitchChain_eq : takeSwitchChain start s = takeSwitch start s :=
  chain_of_not_waiting _ (takeSwitch_started slot long).1.not_waiting

end

/-! #### The end of a step (R83) -/

section
variable {s : State} (unswitched : ∀ start, s.seq.pendingSwitch ≠ some ⟨.stepEnd, start⟩)
include unswitched

theorem endStep_unswitched :
    endStep s = (nextSlot s.seq).elim (changeProfile .ended s) fun r =>
      beginStep (handedMode s) (s.seq.index + 1) r s := by
  unfold endStep
  split
  · next start pending => exact absurd pending (unswitched start)
  · cases nextSlot s.seq <;> rfl

/-- The next slot's step starts (R83). -/
theorem endStep_next {r : StepRecord} (busy : s.seq.profile ≠ .idle) (next : nextSlot s.seq = some r)
    (long : 0 < r.duration) :
    StepStarted r s (endStep s) ∧
      ∃ p, (endStep s).seq = { s.seq with index := s.seq.index + 1, count := 0, phase := p } := by
  rw [endStep_unswitched unswitched, next, Option.elim_some]
  have slot : s.seq.slot s.seq.active (s.seq.index + 1) = some r := by
    unfold nextSlot at next
    split at next
    · exact next
    · nomatch next
  exact ⟨stepStarted_beginStep (f := id) long slot busy rfl rfl, beginStep_seq _ _ _ _⟩

/-- Without a next slot the profile is ENDED, its step kept (R83). -/
theorem endStep_last (last : nextSlot s.seq = none) : endStep s = changeProfile .ended s := by
  rw [endStep_unswitched unswitched, last, Option.elim_none]

end

theorem endStepChain_of_last {s : State} (unswitched : ∀ start, s.seq.pendingSwitch ≠ some ⟨.stepEnd, start⟩)
    (last : nextSlot s.seq = none) : endStepChain s = changeProfile .ended s := by
  rw [endStepChain, endStep_last unswitched last]
  exact chain_of_not_running _ (by simp [changeProfile])

/-- The profile's end is told of with a BAY_STATE, which begins the report count anew (R38, R39). -/
theorem changeProfile_reportCount (p : ProfileState) {s : State} (loud : s.link.silent = false) :
    (changeProfile p s).link.reportCount = 0 := by
  have heard : (evaluateGas (s.mapSeq fun q => { q with profile := p })).link.silent = false := by simpa using loud
  rw [changeProfile, queueBayState_link, heard]
  rfl

/-- A step's end, with the activity event and the leak check after it, is one as the statements say it (R83). -/
theorem stepEnded_endStepChain {s : State} (busy : s.seq.profile ≠ .idle) (e : Activity) :
    StepEnded s (updateLeak (activityEvent e (endStepChain s))) := by
  have seq (t : State) : (updateLeak (activityEvent e t)).seq = t.seq := by simp
  refine ⟨fun start pending r slot long => ?_, fun unswitched => ⟨fun r next long => ?_, fun last => ?_⟩⟩
  · have switch : endStep s = takeSwitch start s := by simp [endStep, pending]
    obtain ⟨started, p, taken⟩ := takeSwitch_started slot long
    rw [endStepChain, switch, chain_of_not_waiting _ started.not_waiting, seq, taken]
    exact ⟨started.told e, rfl, rfl, rfl, rfl⟩
  · obtain ⟨started, p, moved⟩ := endStep_next unswitched busy next long
    rw [endStepChain, chain_of_not_waiting _ started.not_waiting, seq, moved]
    exact ⟨started.told e, rfl, rfl, rfl, rfl⟩
  · rw [endStepChain_of_last unswitched last]
    have ended := changeProfile_reportCount .ended (s := s)
    refine ⟨by simp [changeProfile], by simp [changeProfile], by simp [changeProfile], by simp [changeProfile],
      by simp [changeProfile], fun loud => ?_⟩
    exact activityEvent_reportCount (ended loud)

/-! #### GROUP_SYNC (R86) -/

theorem groupSyncAtSequencer_switch {g start : Nat} {s : State}
    (pending : s.seq.pendingSwitch = some ⟨.groupSync g, start⟩) :
    groupSyncAtSequencer g s = takeSwitchChain start s := by
  simp [groupSyncAtSequencer, pending]

/-- Without a switch pending on its group a GROUP_SYNC ends the step that waits on it (R83, R86). -/
theorem groupSyncAtSequencer_end {g : Nat} {s : State}
    (unswitched : ∀ start, s.seq.pendingSwitch ≠ some ⟨.groupSync g, start⟩) :
    groupSyncAtSequencer g s =
      if s.seq.profile = .running ∧ s.seq.phase = some .waiting ∧
        (s.seq.current.map (·.endKind)) = some (.groupSync g) then endStepChain s else s := by
  unfold groupSyncAtSequencer
  split
  · next g' start pending =>
    rw [if_neg]
    rintro rfl
    exact unswitched start pending
  · rfl

theorem exec_receiveGroupSync {h : Header} {g : Nat} {s : State} (accepts : Accepts h s) (dest : h.dest = .group g) :
    exec (.receiveGroupSync h []) s =
      .next (updateLeak (activityEvent .groupSync (groupSyncAtSequencer g (endReception s)))) := by
  refine (perform_accepted accepts _).trans ?_
  rw [dest]
  rfl

/-- Settles O49: what the sequencer does at the end of the reception, and the activity event after it. -/
theorem groupSyncActs : Obligations.GroupSyncActs := by
  intro h g s accepts dest
  have row := exec_receiveGroupSync accepts dest
  have busy (running : s.seq.profile = .running) : s.seq.profile ≠ .idle := by simp [running]
  have met {r : StepRecord} (running : s.seq.profile = .running) (waiting : s.seq.phase = some .waiting)
      (current : s.seq.current = some r) (sync : r.endKind = .groupSync g) :
      (endReception s).seq.profile = .running ∧ (endReception s).seq.phase = some .waiting ∧
        ((endReception s).seq.current.map (·.endKind)) = some (.groupSync g) := by
    simp [endReception, running, waiting, current, sync]
  refine ⟨fun start r pending slot soak long => ?_, fun r unswitched running waiting current sync last => ?_,
    fun r unswitched running waiting current sync => ?_, fun unswitched idle => ?_⟩
  · obtain ⟨started, p, switched⟩ := takeSwitch_started (s := endReception s) slot long
    rw [groupSyncAtSequencer_switch (by exact pending), takeSwitchChain_eq (by exact slot) long] at row
    obtain ⟨-, soaks, -, few, quiet, ring, -⟩ := started.told .groupSync
    obtain ⟨phase, accumulator⟩ := soaks (by simp [soak])
    have seq : (updateLeak (activityEvent .groupSync (takeSwitch start (endReception s)))).seq =
        s.seq.switched start p := by simpa using switched
    obtain rfl : p = some .soaking := by rw [seq] at phase; exact phase
    exact ⟨_, row, seq, accumulator, ring, few, quiet, by simp, by simp, by simp, by simp, by simp⟩
  · rw [groupSyncAtSequencer_end (by simp [endReception, unswitched]),
      if_pos (met running waiting current sync)] at row
    have ended := stepEnded_endStepChain (s := endReception s) (by exact busy running) .groupSync
    obtain ⟨seq, temp, cool, disp, -⟩ := (ended.2 (by simp [endReception, unswitched])).2 last
    exact ⟨_, row, seq, cool, temp, disp, by simp, by simp, by simp⟩
  · rw [groupSyncAtSequencer_end (by exact unswitched), if_pos (met running waiting current sync)] at row
    exact ⟨_, row, stepEnded_endStepChain (s := endReception s) (by exact busy running) .groupSync, by simp, by simp,
      by simp, by simp⟩
  · rw [groupSyncAtSequencer_end (by exact unswitched), if_neg] at row
    · exact row
    · rintro ⟨running, waiting, current⟩
      obtain ⟨r, current, sync⟩ := Option.map_eq_some_iff.1 current
      rcases idle with notRunning | notWaiting | otherEnd
      exacts [notRunning running, notWaiting waiting, otherEnd r current sync]

end Sys2Proof.Machine
end


section
/-! ## The peer view: entries, refreshes, the count of lifetimes, expiries (R42 to R51) -/

namespace Sys2Proof.Machine

/-! ### Entries -/

theorem PeerView.entry_update (v : PeerView) (n : Nat) (f : PeerEntry → PeerEntry) (m : Nat) :
    (v.update n f).entry m = if m - 1 = n - 1 ∧ m - 1 < v.entries.length then f (v.entry m) else v.entry m := by
  by_cases inside : m - 1 < v.entries.length
  · by_cases same : m - 1 = n - 1
    · simp [PeerView.entry, PeerView.update, inside, ← same]
    · simp [PeerView.entry, PeerView.update, inside, same, Ne.symm same]
  · simp [PeerView.entry, PeerView.update, inside]

theorem PeerView.entry_update_same {v : PeerView} {n : Nat} (inside : n - 1 < v.entries.length)
    (f : PeerEntry → PeerEntry) : (v.update n f).entry n = f (v.entry n) := by
  rw [entry_update, if_pos ⟨rfl, inside⟩]

theorem PeerView.entry_update_other (v : PeerView) {n m : Nat} (hn : 1 ≤ n) (hm : 1 ≤ m) (other : m ≠ n)
    (f : PeerEntry → PeerEntry) : (v.update n f).entry m = v.entry m := by
  rw [entry_update, if_neg (by omega)]

/-- Where a change leaves a part of every entry, that part of the view stands. -/
theorem PeerView.entry_update_part {α : Type} {part : PeerEntry → α} {f : PeerEntry → PeerEntry}
    (stands : ∀ e, part (f e) = part e) (v : PeerView) (n m : Nat) :
    part ((v.update n f).entry m) = part (v.entry m) := by
  rw [entry_update]
  split
  exacts [stands _, rfl]

theorem PeerView.length_update (v : PeerView) (n : Nat) (f : PeerEntry → PeerEntry) :
    (v.update n f).entries.length = v.entries.length := by
  simp [PeerView.update]

theorem PeerEntry.ok_empty : PeerEntry.Ok {} := ⟨by nofun, by nofun, by nofun⟩

/-- What holds of the absent entry holds of all entries exactly where it holds at every number. -/
theorem PeerView.forall_entries_iff {P : PeerEntry → Prop} (absent : P {}) (v : PeerView) :
    (∀ e ∈ v.entries, P e) ↔ ∀ m, P (v.entry m) := by
  constructor
  · intro all m
    cases at_m : v.entries[m - 1]? with
    | none => simpa [PeerView.entry, at_m] using absent
    | some e => simpa [PeerView.entry, at_m] using all e (List.mem_of_getElem? at_m)
  · intro all e mem
    obtain ⟨i, at_i⟩ := List.mem_iff_getElem?.1 mem
    simpa [PeerView.entry, at_i] using all (i + 1)

/-! ### The list of chillers -/

/-- The chillers are listed once each, the one refreshed most recently first (R47, R51). -/
def PeerView.ChillersOk (v : PeerView) : Prop :=
  v.chillers.Nodup ∧ (v.chillers.map v.chillerLeft).Pairwise (· ≥ ·) ∧
    ∀ n, n ∈ v.chillers ↔ 1 ≤ n ∧ n ≤ 15 ∧ (v.entry n).chiller.isSome = true

theorem PeerView.chillerLeft_le {v : PeerView} (entries : ∀ m, (v.entry m).Ok) (m : Nat) :
    v.chillerLeft m ≤ ms 10000 := by
  rw [chillerLeft]
  cases part : (v.entry m).chiller with
  | none => exact Nat.zero_le _
  | some q => exact ((entries m).2.2 q part).2

/-- The list hangs on the chiller parts alone. -/
theorem PeerView.ChillersOk.congr {v w : PeerView} (ok : v.ChillersOk) (chillers : w.chillers = v.chillers)
    (parts : ∀ m, (w.entry m).chiller = (v.entry m).chiller) : w.ChillersOk := by
  have left : w.chillerLeft = v.chillerLeft := funext fun m => by simp [PeerView.chillerLeft, parts]
  simpa [PeerView.ChillersOk, chillers, left, parts] using ok

/-- The peer view's form for a station number, with the entries named by their numbers. -/
def PeerView.Ok (own : Nat) (v : PeerView) : Prop :=
  v.entries.length = 15 ∧ (∀ m, (v.entry m).Ok) ∧ v.entry own = {} ∧ v.ChillersOk

theorem viewInv_iff (s : State) :
    ViewInv s ↔ (1 ≤ s.ident.number ∧ s.ident.number ≤ 8) ∧ s.view.Ok s.ident.number := by
  rw [ViewInv, PeerView.forall_entries_iff PeerEntry.ok_empty, PeerView.Ok, PeerView.ChillersOk]
  tauto

theorem PeerView.ok_empty (own : Nat) : ({} : PeerView).Ok own := by
  have absent (m : Nat) : ({} : PeerView).entry m = {} := by
    simp only [PeerView.entry, List.getElem?_replicate]
    split <;> rfl
  refine ⟨rfl, fun m => ?_, absent own, .nil, .nil, fun n => ?_⟩
  · rw [absent]
    exact PeerEntry.ok_empty
  · rw [absent]
    simp

section
variable {own : Nat} {v : PeerView} (ok : v.Ok own)
include ok

/-! ### Refreshes and expiries of the bay and the draw part (R43 to R46, R49) -/

/-- A change of one entry that leaves its chiller part and, where it is the own one, leaves it empty. -/
theorem PeerView.Ok.update {n : Nat} {f : PeerEntry → PeerEntry} (fits : ∀ e, e.Ok → (f e).Ok)
    (chiller : ∀ e, (f e).chiller = e.chiller) (peer : own - 1 ≠ n - 1 ∨ f {} = {}) : (v.update n f).Ok own := by
  obtain ⟨length, entries, empty, chillers⟩ := ok
  refine ⟨(length_update ..).trans length, fun m => ?_, ?_, chillers.congr rfl (entry_update_part chiller v n)⟩
  · rw [entry_update]
    split
    exacts [fits _ (entries m), entries m]
  · rw [entry_update, empty]
    split
    · next here => exact peer.resolve_left (· here.1)
    · rfl

theorem PeerView.Ok.fillBay {n : Nat} {p : BayPart} (peer : own - 1 ≠ n - 1)
    (fits : (1 ≤ p.weight ∧ p.weight ≤ 4) ∧ p.demand ≤ 255 ∧ p.interval ≤ 255 ∧ p.left ≤ ms 182000) :
    (v.fillBay n p).Ok own :=
  ok.update (fun _ h => ⟨fun _ at_p => Option.some.inj at_p ▸ fits, h.2⟩) (fun _ => rfl) (.inl peer)

theorem PeerView.Ok.fillDraw {n : Nat} {p : DrawPart} (peer : own - 1 ≠ n - 1) (fits : p.left ≤ ms 3000) :
    (v.fillDraw n p).Ok own :=
  ok.update (fun _ h => ⟨h.1, fun _ at_p => Option.some.inj at_p ▸ fits, h.2.2⟩) (fun _ => rfl) (.inl peer)

theorem PeerView.Ok.setPouring (n : Nat) (on : Bool) : (v.setPouring n on).Ok own := by
  refine ok.update (fun e h => ⟨fun p at_p => ?_, h.2⟩) (fun _ => rfl) (.inr rfl)
  obtain ⟨q, at_q, rfl⟩ := Option.map_eq_some_iff.1 at_p
  exact h.1 q at_q

theorem PeerView.Ok.expireBay (n : Nat) : (v.expire n .bay).Ok own :=
  ok.update (fun _ h => ⟨fun p at_p => h.1 p (Option.filter_eq_some_iff.1 at_p).1, h.2⟩) (fun _ => rfl) (.inr rfl)

theorem PeerView.Ok.expireDraw (n : Nat) : (v.expire n .draw).Ok own :=
  ok.update (fun _ h => ⟨h.1, fun p at_p => h.2.1 p (Option.filter_eq_some_iff.1 at_p).1, h.2.2⟩) (fun _ => rfl)
    (.inr rfl)

/-! ### The chiller part (R47, R50, R51) -/

/-- A COOL_CAP's station leads the list, its lifetime being the longest there is (R47, R51). -/
theorem PeerView.Ok.fillChiller {n : Nat} {p : ChillerPart} (range : 1 ≤ n ∧ n ≤ 15) (peer : own - 1 ≠ n - 1)
    (capacity : p.capacity ≤ 2000) (left : p.left = ms 10000) : (v.fillChiller n p).Ok own := by
  obtain ⟨length, entries, empty, nodup, sorted, listed⟩ := ok
  have entry (m : Nat) : (v.fillChiller n p).entry m =
      if m - 1 = n - 1 ∧ m - 1 < v.entries.length then { v.entry m with chiller := some p } else v.entry m :=
    v.entry_update n _ m
  have chillers : (v.fillChiller n p).chillers = n :: v.chillers.filter (· ≠ n) := rfl
  have here : (v.fillChiller n p).entry n = { v.entry n with chiller := some p } := by
    rw [entry, if_pos ⟨rfl, by omega⟩]
  have elsewhere {m : Nat} (hm : 1 ≤ m) (other : m ≠ n) : (v.fillChiller n p).entry m = v.entry m := by
    rw [entry, if_neg (by omega)]
  have others {m : Nat} (mem : m ∈ v.chillers.filter (· ≠ n)) :
      (v.fillChiller n p).chillerLeft m = v.chillerLeft m := by
    simp only [List.mem_filter, decide_eq_true_eq] at mem
    rw [chillerLeft, elsewhere ((listed m).1 mem.1).1 mem.2, chillerLeft]
  refine ⟨(length_update ..).trans length, fun m => ?_, ?_, ?_, ?_, fun m => ?_⟩
  · rw [entry]
    split
    · obtain ⟨bay, draw, -⟩ := entries m
      exact ⟨bay, draw, fun q at_q => Option.some.inj at_q ▸ ⟨capacity, left.le⟩⟩
    · exact entries m
  · rw [entry, if_neg fun same => peer same.1, empty]
  · rw [chillers]
    exact List.nodup_cons.2 ⟨by simp, nodup.filter _⟩
  · rw [chillers, List.map_cons, List.map_congr_left fun m => others]
    refine List.pairwise_cons.2 ⟨fun k mem => ?_, sorted.sublist (List.filter_sublist.map _)⟩
    obtain ⟨m, -, rfl⟩ := List.mem_map.1 mem
    have longest : (v.fillChiller n p).chillerLeft n = ms 10000 := by rw [chillerLeft, here, ← left]; rfl
    exact longest.symm ▸ chillerLeft_le entries m
  · rw [chillers]
    by_cases same : m = n
    · simp [same, here, range]
    · simp only [List.mem_cons, same, false_or, List.mem_filter, decide_eq_true_eq, ne_eq, not_false_eq_true, and_true,
        listed]
      refine and_congr_right fun hm => ?_
      rw [elsewhere hm same]

/-- A chiller part at the end of its lifetime leaves the list, and every other stays in its place (R50, R51). -/
theorem PeerView.Ok.expireChiller (n : Nat) : (v.expire n .chiller).Ok own := by
  obtain ⟨length, entries, empty, nodup, sorted, listed⟩ := ok
  have entry (m : Nat) : (v.expire n .chiller).entry m = v.entry m ∨
      (v.expire n .chiller).entry m = { v.entry m with chiller := (v.entry m).chiller.filter (0 < ·.left) } := by
    change (v.update n _).entry m = _ ∨ (v.update n _).entry m = _
    rw [entry_update]
    split
    exacts [.inr rfl, .inl rfl]
  have kept {m : Nat} (present : ((v.expire n .chiller).entry m).chiller.isSome = true) :
      ((v.expire n .chiller).entry m).chiller = (v.entry m).chiller := by
    rcases entry m with same | expired
    · rw [same]
    · rw [expired] at present ⊢
      obtain ⟨q, at_q⟩ := Option.isSome_iff_exists.1 present
      exact at_q.trans (Option.filter_eq_some_iff.1 at_q).1.symm
  have chillers : (v.expire n .chiller).chillers =
      v.chillers.filter fun m => ((v.expire n .chiller).entry m).chiller.isSome := rfl
  refine ⟨(length_update ..).trans length, fun m => ?_, ?_, nodup.filter _, ?_, fun m => ?_⟩
  · rcases entry m with same | expired
    · exact same ▸ entries m
    · obtain ⟨bay, draw, chiller⟩ := entries m
      exact expired ▸ ⟨bay, draw, fun q at_q => chiller q (Option.filter_eq_some_iff.1 at_q).1⟩
  · rcases entry own with same | expired
    · exact same.trans empty
    · rw [expired, empty]
      rfl
  · have left : ∀ m ∈ (v.expire n .chiller).chillers, (v.expire n .chiller).chillerLeft m = v.chillerLeft m := by
      intro m mem
      rw [chillers, List.mem_filter] at mem
      rw [chillerLeft, kept mem.2, chillerLeft]
    rw [List.map_congr_left left, chillers]
    exact sorted.sublist (List.filter_sublist.map _)
  · rw [chillers, List.mem_filter, listed]
    constructor
    · rintro ⟨⟨low, high, -⟩, present⟩
      exact ⟨low, high, present⟩
    · rintro ⟨low, high, present⟩
      exact ⟨⟨low, high, kept present ▸ present⟩, present⟩

theorem PeerView.Ok.expire (n : Nat) (part : PeerPart) : (v.expire n part).Ok own := by
  cases part
  exacts [ok.expireBay n, ok.expireDraw n, ok.expireChiller n]

end

/-! ### The count of lifetimes (R50) -/

/-- An entry after one more 10 ms event. -/
def PeerEntry.tick (e : PeerEntry) : PeerEntry :=
  { e with bay := e.bay.map fun p => { p with left := p.left - 1 },
           draw := e.draw.map fun p => { p with left := p.left - 1 },
           chiller := e.chiller.map fun p => { p with left := p.left - 1 } }

/-- The peer view after one more 10 ms event. -/
def PeerView.tick (v : PeerView) : PeerView := { v with entries := v.entries.map PeerEntry.tick }

@[simp] theorem countDurations_view (s : State) : (countDurations s).view = s.view.tick := rfl

theorem PeerView.entry_tick (v : PeerView) (m : Nat) : v.tick.entry m = (v.entry m).tick := by
  cases at_m : v.entries[m - 1]? <;> simp [PeerView.entry, PeerView.tick, at_m]
  rfl

theorem PeerEntry.Ok.tick {e : PeerEntry} (ok : e.Ok) : e.tick.Ok := by
  obtain ⟨bay, draw, chiller⟩ := ok
  refine ⟨fun p at_p => ?_, fun p at_p => ?_, fun p at_p => ?_⟩ <;>
    obtain ⟨q, at_q, rfl⟩ := Option.map_eq_some_iff.1 at_p
  · obtain ⟨weight, demand, interval, left⟩ := bay q at_q
    exact ⟨weight, demand, interval, (Nat.sub_le _ _).trans left⟩
  · exact (Nat.sub_le _ _).trans (draw q at_q)
  · obtain ⟨capacity, left⟩ := chiller q at_q
    exact ⟨capacity, (Nat.sub_le _ _).trans left⟩

theorem PeerView.chillerLeft_tick (v : PeerView) (m : Nat) : v.tick.chillerLeft m = v.chillerLeft m - 1 := by
  rw [chillerLeft, entry_tick, chillerLeft]
  cases part : (v.entry m).chiller <;> simp [PeerEntry.tick, part]

/-- One event less for each part leaves the chillers in their order (R50, R51). -/
theorem PeerView.Ok.tick {own : Nat} {v : PeerView} (ok : v.Ok own) : v.tick.Ok own := by
  obtain ⟨length, entries, empty, nodup, sorted, listed⟩ := ok
  refine ⟨by simpa [PeerView.tick] using length, fun m => ?_, ?_, nodup, ?_, fun m => ?_⟩
  · rw [entry_tick]
    exact (entries m).tick
  · rw [entry_tick, empty]
    rfl
  · rw [List.pairwise_map] at sorted ⊢
    refine sorted.imp fun {a b} later => ?_
    rw [chillerLeft_tick, chillerLeft_tick]
    exact Nat.sub_le_sub_right later 1
  · rw [entry_tick, PeerEntry.tick, Option.isSome_map]
    exact listed m

end Sys2Proof.Machine
end


section
/-! ## The peer view's form at every step (R42, R47, R51): O17 -/

namespace Sys2Proof.Machine

/-! ### What a frame's payload can give a part (R44 to R47, R200) -/

theorem bayLifetime_eq (interval : Nat) :
    bayLifetime interval = if interval = 0 then 1700 else if 60 < interval then 18200 else 300 * interval + 200 := by
  by_cases none : interval = 0
  · simp [bayLifetime, ms, none]
  · by_cases long : 60 < interval
    · simp [bayLifetime, ms, none, long]
    · simp only [bayLifetime, ms, none, long, if_false]
      omega

theorem bayLifetime_le (interval : Nat) : bayLifetime interval ≤ ms 182000 := by
  rw [bayLifetime_eq, ms]
  (repeat' split) <;> omega

theorem bayPartOf_fits {payload : List Byte} {p : BayPart} (part : bayPartOf payload = some p) :
    (1 ≤ p.weight ∧ p.weight ≤ 4) ∧ p.demand ≤ 255 ∧ p.interval ≤ 255 ∧ p.left ≤ ms 182000 := by
  unfold bayPartOf at part
  split at part
  · next o0 o1 o2 _ _ _ _ _ _ _ o10 _ _ _ _ _ =>
    obtain rfl := Option.some.inj part
    have demand := o10.isLt
    have interval := o2.isLt
    refine ⟨?_, Nat.le_of_lt_succ demand, Nat.le_of_lt_succ interval, bayLifetime_le _⟩
    simp only [bitsOf]
    omega
  · nomatch part

theorem drawPartOf_left_le (kind : DrawKind) (urgency : Urgency) (weak : Bool) :
    (drawPartOf kind urgency weak).left ≤ ms 3000 := by
  cases kind <;> simp [drawPartOf, ms]

theorem chillerPartOf_fits {payload : List Byte} {p : ChillerPart} (part : chillerPartOf payload = some p) :
    p.capacity ≤ 2000 ∧ p.left = ms 10000 := by
  unfold chillerPartOf at part
  split at part
  · obtain rfl := Option.some.inj part
    exact ⟨min_le_left _ _, rfl⟩
  · nomatch part

/-! ### The form and the commands that wait -/

/-- The peer view has its form, and these commands wait. -/
def Viewed (waiting : List Instr) (s : State) : Prop := ViewInv s ∧ s.pending = waiting

section
variable {waiting : List Instr} {s : State} (inv : Viewed waiting s)
include inv

/-- Both hang on the queue of commands, the station number and the view alone. -/
theorem Viewed.stands {t : State} (same : t.pending = s.pending ∧ t.ident = s.ident ∧ t.view = s.view) :
    Viewed waiting t := by
  obtain ⟨pending, ident, view⟩ := same
  unfold Viewed ViewInv
  rw [pending, ident, view]
  exact inv

theorem Viewed.occasion {t : State} {p : Prop} [Decidable p]
    (same : t.pending = s.pending ∧ t.ident = s.ident ∧ t.view = s.view) : Viewed waiting (if p then t else s) := by
  split
  exacts [inv.stands same, inv]

/-- A change of the view that keeps its form. -/
theorem Viewed.mapView {f : PeerView → PeerView} (keeps : s.view.Ok s.ident.number → (f s.view).Ok s.ident.number) :
    Viewed waiting (s.mapView f) := by
  obtain ⟨view, pending⟩ := inv
  obtain ⟨number, ok⟩ := (viewInv_iff s).1 view
  exact ⟨(viewInv_iff _).2 ⟨number, keeps ok⟩, pending⟩

theorem Viewed.countDurations : Viewed waiting (countDurations s) :=
  (inv.mapView (f := PeerView.tick) (·.tick)).stands (by simp)

theorem Viewed.acceptFrame {h : Header} {act : State → State}
    (acts : ∀ x, h.src ≠ 0 → h.src ≠ x.ident.number → Viewed waiting x → Viewed waiting (act x)) :
    Viewed waiting (acceptFrame h act s) :=
  acceptFrame_keeps (fun _ _ inv => inv.stands (by simp)) (fun _ inv => inv.stands (by simp)) acts inv

/-- A received frame whose effect leaves the view alone. -/
theorem Viewed.acceptFrame_stands {h : Header} {act : State → State}
    (same : ∀ x, (act x).pending = x.pending ∧ (act x).ident = x.ident ∧ (act x).view = x.view) :
    Viewed waiting (Machine.acceptFrame h act s) :=
  inv.acceptFrame fun x _ _ inv => inv.stands (same x)

theorem Viewed.tenMsEvent (pins : SwitchPins) : Viewed waiting (tenMsEvent pins s) := by
  unfold Machine.tenMsEvent
  dsimp only
  split
  all_goals
    refine Viewed.countDurations (inv.stands ?_)
    simp

/-- A RESTART empties the view (R66). -/
theorem Viewed.restartStation : Viewed waiting (restartStation s) := by
  obtain ⟨view, pending⟩ := inv
  obtain ⟨number, -⟩ := (viewInv_iff s).1 view
  have same : (Machine.restartStation s).pending = s.pending ∧ (Machine.restartStation s).ident = s.ident ∧
      (Machine.restartStation s).view = {} := by
    have ended : (endPourAtRestart s).pending = s.pending ∧ (endPourAtRestart s).ident = s.ident := by
      unfold endPourAtRestart
      split <;> simp
    simp [Machine.restartStation, wakeBlocks, restartValues, ended, powerOnValues]
  refine ⟨(viewInv_iff _).2 ?_, same.1.trans pending⟩
  rw [same.2.1, same.2.2]
  exact ⟨number, PeerView.ok_empty _⟩

/-- Every command but RESTART leaves the view to the frames of peers (R54). -/
theorem Viewed.reply (n : CommandName) (args : List Byte) : Viewed waiting (n.reply args s).state := by
  cases n
  case restart => exact inv.restartStation
  all_goals
    refine inv.stands ?_
    simp [CommandName.reply, answer]

theorem Viewed.commandFrame (n : CommandName) (h : Header) (tag : Byte) (args : List Byte) :
    Viewed waiting (commandFrame n h tag args (n.reply args) s) :=
  commandFrame_keeps (fun _ _ inv => inv.stands (by simp)) (fun _ inv => inv.stands (by simp))
    (fun _ inv => inv.stands (by simp)) (fun _ _ inv => inv.stands (by simp)) (fun _ inv => inv.reply n args) inv

end

theorem viewed_perform {waiting : List Instr} {f : State → State} {s t : State} (h : perform f s = .next t)
    (hf : Viewed waiting s → Viewed waiting (f s)) (inv : Viewed waiting s) : Viewed waiting t :=
  perform_keeps h (fun _ inv => inv.stands (by simp)) (fun _ => hf) inv

/-! ### The frames from peers -/

section
variable {waiting : List Instr} {h : Header} {payload : List Byte} {s : State} (inv : Viewed waiting s)
include inv

/-- The header of a frame that can reach the part names a station of the view. -/
theorem Viewed.source (number : h.src ≤ 15) (source : h.src ≠ 0) (other : h.src ≠ s.ident.number) :
    (1 ≤ h.src ∧ h.src ≤ 15) ∧ s.ident.number - 1 ≠ h.src - 1 := by
  obtain ⟨⟨low, -⟩, -⟩ := (viewInv_iff s).1 inv.1
  omega

theorem viewed_receiveBayState {t : State} (number : h.src ≤ 15)
    (next : exec (.receiveBayState h payload) s = .next t) : Viewed waiting t := by
  refine viewed_perform next (fun inv => inv.acceptFrame fun x source other inv => ?_) inv
  split
  · next part =>
    have peer := (inv.source number source other).2
    exact (inv.mapView (·.fillBay peer (bayPartOf_fits part))).stands (by simp)
  · exact inv

theorem viewed_receiveDraw {t : State} (number : h.src ≤ 15)
    (next : exec (.receiveDraw h payload) s = .next t) : Viewed waiting t := by
  refine viewed_perform next (fun inv => inv.acceptFrame fun x source other inv => ?_) inv
  split
  · next kind urgency weak _ _ =>
    have peer := (inv.source number source other).2
    exact (inv.mapView (·.fillDraw peer (drawPartOf_left_le kind urgency weak))).stands (by simp)
  · exact inv

theorem viewed_receiveCoolCap {t : State} (number : h.src ≤ 15)
    (next : exec (.receiveCoolCap h payload) s = .next t) : Viewed waiting t := by
  refine viewed_perform next (fun inv => inv.acceptFrame fun x source other inv => ?_) inv
  split
  · next part =>
    obtain ⟨range, peer⟩ := inv.source number source other
    obtain ⟨capacity, left⟩ := chillerPartOf_fits part
    exact inv.mapView (·.fillChiller range peer capacity left)
  · exact inv

theorem viewed_receivePour {t : State} (next : exec (.receivePour h payload) s = .next t) : Viewed waiting t := by
  refine viewed_perform next (fun inv => inv.acceptFrame fun x _ _ inv => ?_) inv
  split
  · next started _ _ =>
    have filled := inv.mapView (·.setPouring h.src started)
    dsimp only
    split
    exacts [filled.stands (by simp), filled]
  · exact inv

end

/-! ### Every command -/

theorem viewed_powerOn (p : Straps) (s : State) : Viewed s.pending (powerOn p s) := by
  refine ⟨(viewInv_iff _).2 ?_, by simp [powerOn, wakeBlocks]⟩
  have ident : (powerOn p s).ident = identityOf p := by simp [powerOn, wakeBlocks, powerOnValues]
  have view : (powerOn p s).view = {} := by simp [powerOn, wakeBlocks, powerOnValues]
  have range : 1 ≤ (identityOf p).number ∧ (identityOf p).number ≤ 8 := by
    simp only [identityOf]
    (repeat' split) <;> omega
  rw [ident, view]
  exact ⟨range, PeerView.ok_empty _⟩

theorem viewed_holdReset {s : State} (view : ViewInv s) : Viewed s.pending (holdReset s) := by
  obtain ⟨number, -⟩ := (viewInv_iff s).1 view
  exact ⟨(viewInv_iff _).2 ⟨number, PeerView.ok_empty _⟩, rfl⟩

/-- Every command that can reach the part keeps the view's form, and leaves the commands that wait. -/
theorem viewed_exec {c : Instr} {s t : State} (fits : c.wellFormed = true) (next : exec c s = .next t)
    (view : ViewInv s) : Viewed s.pending t := by
  have inv : Viewed s.pending s := ⟨view, rfl⟩
  have source {h : Header} {p : List Byte} (fits : (h.wellFormed && decide (p.length ≤ 16)) = true) :
      h.src ≤ 15 := by
    simp only [Header.wellFormed, Bool.and_eq_true, decide_eq_true_eq] at fits
    exact fits.1.1
  have command {n : CommandName} {h : Header} {tag : Byte} {args : List Byte}
      (next : exec (n.row h tag args) s = .next t) : Viewed s.pending t :=
    viewed_perform ((exec_row n h tag args s).symm.trans next) (·.commandFrame n h tag args) inv
  cases c <;> have run := next <;> dsimp only [exec] at run
  case powerOn p =>
    cases run
    exact viewed_powerOn p s
  case rstnHeldLow =>
    cases run
    exact viewed_holdReset view
  case receiveBayState => exact viewed_receiveBayState inv (source fits) next
  case receiveDraw => exact viewed_receiveDraw inv (source fits) next
  case receiveCoolCap => exact viewed_receiveCoolCap inv (source fits) next
  case receivePour => exact viewed_receivePour inv next
  case setupItem => exact command (n := .setupItem) next
  case start => exact command (n := .start) next
  case restart => exact command (n := .restart) next
  case forceOutput => exact command (n := .forceOutput) next
  case writeStep => exact command (n := .writeStep) next
  case readStep => exact command (n := .readStep) next
  case switchBank => exact command (n := .switchBank) next
  case advance => exact command (n := .advance) next
  case pauseProfile => exact command (n := .pauseProfile) next
  case resumeProfile => exact command (n := .resumeProfile) next
  case stopProfile => exact command (n := .stopProfile) next
  case clearSupply => exact command (n := .clearSupply) next
  case setLevel => exact command (n := .setLevel) next
  case armPortion => exact command (n := .armPortion) next
  case readPour => exact command (n := .readPour) next
  case dropPours => exact command (n := .dropPours) next
  case readView => exact command (n := .readView) next
  case quiet => exact command (n := .quiet) next
  case wake => exact command (n := .wake) next
  case clearAlarms => exact command (n := .clearAlarms) next
  case leaveSafe => exact command (n := .leaveSafe) next
  all_goals refine viewed_perform run (fun inv => ?_) inv
  case event10ms pins =>
    split
    exacts [inv, inv.tenMsEvent pins]
  case peerPartExpiry station part => exact inv.mapView (·.expire station part)
  case receiveGroupSync | unknownCommand =>
    refine inv.acceptFrame_stands fun x => ?_
    (repeat' split) <;> simp [queueResult, refuse]
  case auxLineChange line => cases line <;> exact inv.occasion (by simp)
  case event100ms | event1s | event1min | event1h | handlePress | handleRelease | extStopActive | extStopInactive
      | heaterOnTimeEnd | glycolOpenTimeEnd | reportTimer | idleTimerExpiry | pulseTimerEnd | settleEnd
      | settleWindowEnd | keepTimerPeriod | backoffEnd | recoverEnd | stallTimerStart | stallTimerEnd
      | lowPressureTimerEnd | tailTimerEnd | portionExpiry | busIdle | txAttemptStart | firstStartBit =>
    exact inv.occasion (by simp)
  case flowPulse | durationElapsed | frameDiscarded => exact inv.stands (by simp)
  case arbitrationLost | bitError =>
    split
    exacts [inv, inv.occasion (by simp)]
  case frameSent =>
    split
    exacts [inv.stands (by simp), inv]

/-- Settles O17: the command taken is one that can reach the part and keeps the form, and those that wait still can. -/
theorem peerViewKept : Obligations.PeerViewKept := by
  rintro s t next ⟨view, reach⟩
  unfold step at next
  split at next
  · cases next
    exact ⟨view, reach⟩
  · next c rest pending =>
    have front : c.wellFormed = true := reach c (by simp [pending])
    obtain ⟨kept, waiting⟩ := viewed_exec (s := { s with pending := rest }) front next view
    refine ⟨kept, fun d mem => reach d ?_⟩
    rw [pending]
    exact List.mem_cons_of_mem c (by simpa [waiting] using mem)

end Sys2Proof.Machine
end


section
/-! ## Frames from peers, expiries and READ_VIEW (R42 to R54, R148): O47 -/

namespace Sys2Proof.Machine

/-! ### The examination (R148) -/

theorem examine_outside_waiting {s : State} (other : s.draw.state ≠ .waiting) : examine s = s := if_neg other

theorem examine_waiting {s : State} (waiting : s.draw.state = .waiting) :
    examine s =
      if mayClaim s then makeClaim { s with draw := { s.draw with limit := s.setup.drawLimit } }
      else { s with draw := { s.draw with limit := s.setup.drawLimit } } :=
  if_pos waiting

/-- A DRAW that makes no drawer yield is an examination (R148, R156). -/
theorem drawHeard_eq_examine {kind : DrawKind} {urgency : Urgency} {s : State}
    (quiet : kind = .claim → urgency = .routine ∨ s.draw.state ≠ .drawing) :
    drawHeard kind urgency s = examine s := by
  refine if_neg ?_
  rintro ⟨claim, priority, yields⟩
  have drawing : s.draw.state = .drawing := by
    simp only [mustYield, Bool.and_eq_true, decide_eq_true_eq] at yields
    exact yields.1.1.1
  rcases quiet claim with routine | other
  · simp [priority] at routine
  · exact other drawing

/-- The command ends the reception with this view, and the coordinator examines where it waits (R148, R149). -/
def FillsView (s : State) (view : PeerView) (c : Instr) : Prop :=
  let s' := { endReception s with view := view }
  (s.draw.state ≠ .waiting → exec c s = .next (updateLeak s')) ∧
  (s.draw.state = .waiting → mayClaim s' = false →
    exec c s = .next (updateLeak { s' with draw := { s.draw with limit := s.setup.drawLimit } })) ∧
  (s.draw.state = .waiting → mayClaim s' = true → s.link.silent = false → s.link.queue.length < 6 →
    ∃ t, exec c s = .next t ∧ t.draw = { examinedDraw .claiming s with claimUrgency := s.draw.urgency } ∧
      (∃ q ∈ t.link.queue, q.frame = .draw .claim s.draw.urgency s.draw.supplyWeak ∧ q.liveClaim = true) ∧
      t.view = view ∧ t.disp = s.disp ∧ t.temp = s.temp ∧ t.cool = s.cool ∧ t.seq = s.seq ∧ t.sup = s.sup ∧
      t.setup = s.setup ∧ t.sampling = s.sampling ∧ t.time = s.time ∧ t.drivers = s.drivers)

theorem fillsView_of_examine {s : State} {view : PeerView} {c : Instr}
    (row : exec c s = .next (updateLeak (examine { endReception s with view := view }))) : FillsView s view c := by
  refine ⟨fun other => ?_, fun waiting refused => ?_, fun waiting granted loud room => ?_⟩
  · rw [row, examine_outside_waiting (by exact other)]
  · rw [row, examine_waiting (by exact waiting), refused]
    rfl
  · rw [examine_waiting (by exact waiting), if_pos granted] at row
    obtain ⟨draw, q, mem, frame, live, -⟩ := makeClaim_taken
      (s := { endReception s with view := view, draw := { s.draw with limit := s.setup.drawLimit } }) loud room
    exact ⟨_, row, draw, ⟨q, mem, frame, live⟩, by simp⟩

/-! ### The frames (R43 to R49) -/

theorem bitsOf_seven_six (o : Byte) : bitsOf o 7 6 = o.toNat / 64 := by
  have small := o.isLt
  simp only [bitsOf]
  omega

theorem drawOf_octet {o : Byte} {kind : DrawKind} (code : bitsOf o 7 6 = kind.code) :
    drawOf [o] = some (kind, if o.getLsbD 5 then .priority else .routine, o.getLsbD 4) := by
  cases kind <;> simp [drawOf, code, DrawKind.code]

section
variable {h : Header} {s : State} (accepts : Accepts h s) (dest : h.dest = .all)
include accepts dest

theorem exec_receiveBayState {payload : List Byte} {p : BayPart} (part : bayPartOf payload = some p) :
    exec (.receiveBayState h payload) s =
      .next (updateLeak (examine { endReception s with view := s.view.fillBay h.src p })) := by
  refine (perform_accepted accepts _).trans ?_
  rw [dest, part]
  rfl

theorem exec_receiveDraw {payload : List Byte} {kind : DrawKind} {urgency : Urgency} {weak : Bool}
    (read : drawOf payload = some (kind, urgency, weak)) :
    exec (.receiveDraw h payload) s =
      .next (updateLeak (drawHeard kind urgency
        { endReception s with view := s.view.fillDraw h.src (drawPartOf kind urgency weak) })) := by
  refine (perform_accepted accepts _).trans ?_
  rw [dest, read]
  rfl

theorem fillsView_receiveDraw {o : Byte} {kind : DrawKind} {urgency : Urgency} {weak : Bool}
    (read : drawOf [o] = some (kind, urgency, weak))
    (quiet : kind = .claim → urgency = .routine ∨ s.draw.state ≠ .drawing) :
    FillsView s (s.view.fillDraw h.src (drawPartOf kind urgency weak)) (.receiveDraw h [o]) := by
  refine fillsView_of_examine ((exec_receiveDraw accepts dest read).trans ?_)
  rw [drawHeard_eq_examine (by exact quiet)]

theorem exec_receiveCoolCap {payload : List Byte} {p : ChillerPart} (part : chillerPartOf payload = some p) :
    exec (.receiveCoolCap h payload) s =
      .next (updateLeak { endReception s with view := s.view.fillChiller h.src p }) := by
  refine (perform_accepted accepts _).trans ?_
  rw [dest, part]
  rfl

theorem exec_receivePour {payload : List Byte} {started : Bool} (read : pourStartOf payload = some started) :
    exec (.receivePour h payload) s =
      .next (updateLeak (if started then
          activityEvent .peerPour { endReception s with view := s.view.setPouring h.src started }
        else { endReception s with view := s.view.setPouring h.src started })) := by
  refine (perform_accepted accepts _).trans ?_
  rw [dest, read]
  rfl

end

/-! ### The expiry of a part (R46, R47, R50) -/

theorem exec_peerPartExpiry {s : State} (up : s.held = false) (n : Nat) (part : PeerPart) :
    exec (.peerPartExpiry n part) s = .next (updateLeak { s with view := s.view.expire n part }) :=
  perform_running _ up

/-- With its chillers listed as they are present, the view's list loses no station but the one whose part expires. -/
theorem PeerView.expire_chillers {own n : Nat} {v : PeerView} (ok : v.Ok own) (hn : 1 ≤ n) :
    (v.expire n .chiller).chillers =
      v.chillers.filter fun m => decide (m ≠ n) || ((v.expire n .chiller).entry n).chiller.isSome := by
  obtain ⟨-, -, -, -, -, listed⟩ := ok
  refine List.filter_congr fun m mem => ?_
  obtain ⟨hm, -, present⟩ := (listed m).1 mem
  change ((v.expire n .chiller).entry m).chiller.isSome = _
  by_cases same : m = n
  · simp [same]
  · have elsewhere : (v.expire n .chiller).entry m = v.entry m := v.entry_update_other hn hm same _
    simp [same, elsewhere, present]

/-! ### READ_VIEW (R54) -/

theorem exec_readView (h : Header) (tag : Byte) (args : List Byte) (s : State) :
    exec (.readView h tag args) s = execReadView h tag args s := by rfl

@[simp] theorem atDispatch_view (s : State) : (atDispatch s).view = s.view := by simp [atDispatch]

theorem exec_readView_addressed {h : Header} {s : State} (tag x : Byte) (addressed : Addressed h s) :
    exec (.readView h tag [x]) s =
      .next (withResult h 0x40#8 tag (readViewReply [x] (atDispatch s)).code (readViewReply [x] (atDispatch s)).data
        (readViewReply [x] (atDispatch s)).state) := by
  rw [exec_readView, execReadView,
    commandFrame_addressed addressed (p := readViewReply [x]) rfl fun s => by simp]
  rfl

/-- Settles O47: each frame by its payload's content, an expiry by the entry it changes, READ_VIEW by its reply. -/
theorem peersFillTheView : Obligations.PeersFillTheView := by
  refine ⟨fun h s accepts dest => ⟨?_, ?_, ?_, ?_⟩, fun n s up length low high => ?_,
    fun h tag x s addressed => ⟨fun low high => ?_, fun outside => ?_⟩⟩
  · intro o0 o1 o2 o3 o4 o5 o6 o7 o8 o9 o10 o11 o12 o13 o14 o15
    refine fillsView_of_examine (exec_receiveBayState accepts dest ?_)
    have left : (if o2 = 0#8 then 1700 else if 60 < o2.toNat then 18200 else 300 * o2.toNat + 200) =
        bayLifetime o2.toNat := by
      rw [bayLifetime_eq]
      simp [← BitVec.toNat_inj]
    rw [left, ← bitsOf_seven_six]
    rfl
  · rintro u weak o rfl rfl
    rw [← bitsOf_seven_six]
    refine ⟨fun claim quiet => ?_, fun keep => ?_, fun release => ?_, fun other => ?_⟩
    · exact fillsView_receiveDraw accepts dest (drawOf_octet (kind := .claim) claim) fun _ => quiet
    · exact fillsView_receiveDraw accepts dest (drawOf_octet (kind := .keep) keep) nofun
    · exact fillsView_receiveDraw accepts dest (drawOf_octet (kind := .release) release) nofun
    · refine receiveDraw_untaken accepts (.inr (.inl ⟨rfl, .inr (.inr ⟨o, rfl, ?_⟩)⟩))
      rw [bitsOf_seven_six] at other
      omega
  · intro hi lo
    refine exec_receiveCoolCap accepts dest ?_
    rfl
  · intro o1 o2 o3 o4 o5 o6 o7
    exact ⟨exec_receivePour (started := true) accepts dest rfl,
      exec_receivePour (started := false) accepts dest rfl⟩
  · have inside : n - 1 < s.view.entries.length := by omega
    have others (f : PeerEntry → PeerEntry) (m : Nat) (hm : 1 ≤ m) (other : m ≠ n) :
        (s.view.update n f).entry m = s.view.entry m := s.view.entry_update_other low hm other f
    exact
      ⟨⟨_, exec_peerPartExpiry up n .bay, PeerView.entry_update_same inside _, rfl, others _, rfl, rfl, rfl⟩,
        ⟨_, exec_peerPartExpiry up n .draw, PeerView.entry_update_same inside _, rfl, others _, rfl, rfl, rfl⟩,
        ⟨_, exec_peerPartExpiry up n .chiller, PeerView.entry_update_same inside _,
          fun view => PeerView.expire_chillers ((viewInv_iff s).1 view).2 low, others _, rfl, rfl, rfl⟩⟩
  · rw [exec_readView_addressed tag x addressed, readViewReply, if_neg (by omega), atDispatch_view]
  · rw [exec_readView_addressed tag x addressed, readViewReply, if_pos outside]
    rfl

end Sys2Proof.Machine
end

section
/-! ## Power-on, and the state right after reset (R3, R56, R68, R145, R163): O3, O6 -/

namespace Sys2Proof.Machine

/-! ### The two blocks that act on the UNSEEN transducer (R145, R163) -/

/-- A transducer that is not GOOD is a cause of the lockout (R160). -/
theorem formCauses_any_of_sensor {s : State} (sensor : s.sampling.transducer.state ≠ .good) :
    (formCauses s).any = true := by
  simp [Causes.any, formCauses, sensor]

/-- Without a pressure the regulator vents (R137). -/
theorem decideGas_of_sensor {s : State} (sensor : s.sampling.transducer.state ≠ .good) : decideGas s = .sensorVent := by
  simp [decideGas, goodPressure, sensor]

/-- A cause locks an idle coordinator, which has nothing to release (R160). -/
theorem updateLockouts_of_idle {s : State} (idle : s.draw.state = .idle) (cause : (formCauses s).any = true) :
    updateLockouts s = s.mapDraw fun d => { d.enter .locked with causes := formCauses s } := by
  have formed : (s.mapDraw fun d => { d with causes := formCauses s }).draw.state = .idle := idle
  rw [updateLockouts]
  dsimp only
  rw [if_pos (by exact cause), if_neg (by simp [idle]), enterLocked, formed]
  rfl

/-- After a reset the gas regulator vents and the coordinator is LOCKED (R145, R163). -/
theorem wakeBlocks_unseen {s : State} (sensor : s.sampling.transducer.state ≠ .good) (rest : s.gas.state = .rest)
    (free : s.drivers.inlet ≠ .forcedOn) (idle : s.draw.state = .idle) :
    wakeBlocks s =
      { s with gas := s.gas.moveTo .sensorVent, draw := { s.draw.enter .locked with causes := formCauses s } } := by
  have free' : (s.mapGas (·.moveTo .sensorVent)).drivers.inlet ≠ .forcedOn := free
  have vented : evaluateGas s = s.mapGas (·.moveTo .sensorVent) := by
    rw [evaluateGas, decideGas_of_sensor sensor, moveGas, if_neg (by simp [rest]), rest, leaveGas, enterGas,
      dropForcedInlet, if_neg free']
  rw [wakeBlocks, vented]
  exact updateLockouts_of_idle (s := s.mapGas (·.moveTo .sensorVent)) idle (formCauses_any_of_sensor sensor)

/-! ### O3 -/

/-- Power-on gives every block its power-on value, but for the two blocks that act at once (R145, R163). -/
theorem powerOn_eq (p : Straps) (s : State) :
    powerOn p s =
      { powerOnValues p with
        pending := s.pending, gas := { state := .sensorVent },
        draw := { state := .locked, causes := { sensor := true } } } := by
  have causes : formCauses { powerOnValues p with pending := s.pending } = { sensor := true } := by
    simp [formCauses, powerOnValues, hasAlarm]
  rw [powerOn, wakeBlocks_unseen (by simp [powerOnValues]) rfl (by simp [powerOnValues]) rfl, causes]
  rfl

theorem identityOf_number (p : Straps) :
    (identityOf p).number =
      (if p.stn2 = .high then 4 else 0) + (if p.stn1 = .high then 2 else 0) + (if p.stn0 = .high then 1 else 0) + 1 := by
  simp [identityOf]

/-- Settles O3: the state after POWER_ON written out, of which `State.reset` is the one with the straps of the
configuration. -/
theorem powerOnAndReset : Obligations.PowerOnAndReset := by
  refine ⟨fun p s => ⟨powerOn p s, rfl, ?_⟩, fun s idle => ?_⟩
  · rw [powerOn_eq]
    refine ⟨rfl, rfl, identityOf_number p, ?_⟩
    and_intros <;> rfl
  · refine congrArg Host.Outcome.next ((powerOn_eq _ s).trans ?_)
    rw [idle]
    rfl

/-! ### O6 -/

/-- Every setup item's default lies within its range (R58). -/
theorem setupOk_default : SetupOk {} := by
  intro item
  cases item <;> rfl

/-- A bank of EMPTY slots is a legal one (R68, R69). -/
theorem bankOk_empty : BankOk (List.replicate 12 none) := by simp [BankOk]

/-- Settles O6: each invariant from the reset values of its blocks. -/
theorem invariantsHoldAtReset : Obligations.InvariantsHoldAtReset := by
  refine ⟨linkOk_fresh, setupOk_default, ?gas, ⟨bankOk_empty, bankOk_empty, rfl, rfl⟩, ?temp, ?cool, ?draw, ?time, ?need,
    ?lock, ?vent, ?keg, ?flow, ?drive, ?alarm, ?view, by nofun⟩
  case gas => simp [GasOk, State.reset, powerOnValues]
  case temp => simp [TempOk, State.reset, powerOnValues]
  case cool => simp [CoolOk, State.reset, powerOnValues]
  case draw => simp [DrawOk, State.reset, powerOnValues]
  case time => simp [TimeOk, State.reset, powerOnValues, TimeBase.phase]
  case need => simp [NeedInv, State.reset, powerOnValues]
  case lock => simp [LockInv, State.reset, powerOnValues, Causes.any, formCauses, hasAlarm]
  case vent => simp [VentInv, State.reset, powerOnValues]
  case keg => simp [KegInv, State.reset, powerOnValues]
  case flow => simp [FlowInv, State.reset, powerOnValues]
  case drive => simp [DriveInv, State.reset, powerOnValues]
  case alarm => simp [AlarmInv, State.reset, powerOnValues, hasAlarm, Config.levelBeforeFirstReading]
  case view => exact (viewInv_iff _).2 ⟨by decide, PeerView.ok_empty _⟩

end Sys2Proof.Machine
end

section
/-! ## RESTART (R65 to R67, R181): O5 -/

namespace Sys2Proof.Machine

/-! ### A raising outside RUN on a fresh link -/

/-- The link controller after the ALARM of a new latch and its BAY_STATE (R188, R39). -/
def raisedLink (a : Alarm) (lines : BitVec 4) (l : Link) : Link :=
  { ((l.enqueue { frame := .alarm a true lines }).1.enqueue { frame := .bayState }).1 with
    reportCount := 0, reportBegunNow := true }

/-- The link controller after a raising outside RUN, of which nobody is told but by these two frames (R183, R188). -/
theorem raiseAlarm_link {a : Alarm} {s : State} (lines : BitVec 4) (loud : s.link.silent = false)
    (outside : s.sup.station ≠ .run) (inactive : hasAlarm s.sup.active a = false)
    (unlatched : hasAlarm s.sup.latched a = false) : (raiseAlarm a s lines).link = raisedLink a lines s.link := by
  unfold raiseAlarm
  rw [if_neg (by simp [inactive])]
  dsimp only
  rw [if_pos (by simp [unlatched]), activityEvent_outside_run _ (by simpa using outside), queueBayState_link,
    if_neg (by simpa using loud)]
  rfl

/-! ### The resets (R65, R66) -/

/-- The part right after the resets of a RESTART, before any raising (R66). -/
def restarted (s : State) : State := wakeBlocks (restartValues (endPourAtRestart s))

/-- The end of a pour at a RESTART is the dispense unit's alone (R181). -/
theorem endPourAtRestart_eq (s : State) : endPourAtRestart s = { s with disp := (endPourAtRestart s).disp } := by
  unfold endPourAtRestart
  split <;> rfl

theorem restarted_eq (s : State) :
    restarted s =
      { restartValues (endPourAtRestart s) with
        gas := { ceiling := s.setup.reliefCeiling, state := .sensorVent },
        draw := { limit := s.setup.drawLimit, state := .locked,
                  causes := { sensor := true, keg := s.sampling.levelsTaken && !s.sampling.keg.active } } } := by
  rw [restarted, endPourAtRestart_eq,
    wakeBlocks_unseen (by simp [restartValues, powerOnValues]) rfl (by simp [restartValues, powerOnValues]) rfl]
  have leak (x : AlarmSet) : hasAlarm (x &&& BitVec.twoPow 11 Alarm.duplicate.code) .leak = false := by
    rw [hasAlarm_and]
    simp [hasAlarm, Alarm.code]
  simp [restartValues, powerOnValues, formCauses, leak, Gas.moveTo, Draw.enter]

/-! ### The raisings at the RESTART (R67) -/

/-- At a RESTART some watched line differs from its reference (R16, R67). -/
def restartTrips (s : State) : Bool := s.sampling.levelsTaken && watchMismatch s

/-- After the watch's evaluation at a RESTART, ARMED before it (R16, R67). -/
def restartWatched (s : State) : State :=
  if restartTrips s then
    raiseAlarm .watch ((restarted s).mapSampling fun u => { u with watch := .tripped }) (lineLevels s.sampling)
  else restarted s

theorem restartStation_eq (s : State) :
    restartStation s = if s.sampling.ext.active then raiseAlarm .extStop (restartWatched s) else restartWatched s := by
  have fields : (restarted s).sampling.levelsTaken = s.sampling.levelsTaken ∧ (restarted s).sampling.watch = .armed ∧
      lineLevels (restarted s).sampling = lineLevels s.sampling ∧ (restarted s).setup = s.setup := by
    rw [restarted_eq, endPourAtRestart_eq]
    exact ⟨rfl, rfl, rfl, rfl⟩
  obtain ⟨taken, armed, lines, setup⟩ := fields
  have watched : evaluateWatch (restarted s) = restartWatched s := by
    rw [evaluateWatch, restartWatched, restartTrips, ← watchMismatch_congr lines setup, taken, armed, lines]
    cases s.sampling.levelsTaken <;> simp
  have ext : (restartWatched s).sampling.ext = s.sampling.ext := by
    have reset : (restarted s).sampling.ext = s.sampling.ext := by
      rw [restarted_eq, endPourAtRestart_eq]
      rfl
    unfold restartWatched
    split <;> simp [reset]
  rw [← ext, ← watched]
  rfl

/-- The raisings leave everything but the supervisor's alarms, the link controller and the watch. -/
theorem restartStation_rest (s : State) :
    (restartStation s).ident = (restarted s).ident ∧ (restartStation s).time = (restarted s).time ∧
      (restartStation s).setup = (restarted s).setup ∧ (restartStation s).drivers = (restarted s).drivers ∧
      (restartStation s).view = (restarted s).view ∧ (restartStation s).seq = (restarted s).seq ∧
      (restartStation s).temp = (restarted s).temp ∧ (restartStation s).cool = (restarted s).cool ∧
      (restartStation s).gas = (restarted s).gas ∧ (restartStation s).draw = (restarted s).draw ∧
      (restartStation s).disp = (restarted s).disp ∧ (restartStation s).sup.station = (restarted s).sup.station ∧
      (restartStation s).link.silent = (restarted s).link.silent ∧
      (restartStation s).sup.leaveSafeRefused = (restarted s).sup.leaveSafeRefused ∧
      (restartStation s).sampling = { (restarted s).sampling with watch := if restartTrips s then .tripped else .armed } := by
  have armed : (restarted s).sampling.watch = .armed := by
    rw [restarted_eq, endPourAtRestart_eq]
    rfl
  have same : { (restarted s).sampling with watch := .armed } = (restarted s).sampling := by rw [← armed]
  rw [restartStation_eq, restartWatched]
  cases restartTrips s <;> cases s.sampling.ext.active <;> simp [same]

theorem restarted_sup (s : State) :
    (restarted s).sup = { latched := s.sup.latched &&& BitVec.twoPow 11 Alarm.duplicate.code } := by
  rw [restarted_eq, endPourAtRestart_eq]
  rfl

theorem restarted_link (s : State) : (restarted s).link = { bus := s.link.bus } := by
  rw [restarted_eq, endPourAtRestart_eq]
  rfl

/-- Of the latches a RESTART keeps DUPLICATE's alone (R65, R66). -/
theorem restarted_alarms (s : State) (a : Alarm) :
    hasAlarm (restarted s).sup.active a = false ∧
      hasAlarm (restarted s).sup.latched a = (decide (a = .duplicate) && hasAlarm s.sup.latched .duplicate) := by
  rw [restarted_sup, hasAlarm_and]
  cases a <;> simp [hasAlarm, Alarm.code]

/-- WATCH and EXT_STOP are active again where their causes are still there, and latched beside a DUPLICATE kept (R67). -/
theorem restartStation_alarms (s : State) (a : Alarm) :
    hasAlarm (restartStation s).sup.active a =
        (decide (a = .watch) && restartTrips s || decide (a = .extStop) && s.sampling.ext.active) ∧
      hasAlarm (restartStation s).sup.latched a =
        (hasAlarm (restartStation s).sup.active a || decide (a = .duplicate) && hasAlarm s.sup.latched .duplicate) := by
  have fresh := restarted_alarms s
  rw [restartStation_eq, restartWatched]
  cases restartTrips s <;> cases s.sampling.ext.active <;> cases a <;> simp [fresh]

/-- A raising at a RESTART wakes nobody and starts no idle timer: both stand as reset (R66, R67). -/
theorem restartStation_idle (s : State) :
    (restartStation s).sup.quiet = false ∧ (restartStation s).sup.idleCount = 0 := by
  have quiet : (restarted s).sup.quiet = false := by rw [restarted_sup]
  have zero : (restarted s).sup.idleCount = 0 := by rw [restarted_sup]
  rw [restartStation_eq, restartWatched]
  (repeat' split)
  exacts [⟨raiseAlarm_awake (raiseAlarm_awake quiet), raiseAlarm_idleCount (raiseAlarm_idleCount zero)⟩,
    ⟨raiseAlarm_awake quiet, raiseAlarm_idleCount zero⟩, ⟨raiseAlarm_awake quiet, raiseAlarm_idleCount zero⟩, ⟨quiet, zero⟩]

/-- The link controller after the raisings at a RESTART (R67). -/
def restartLink (trips stops : Bool) (lines : BitVec 4) (l : Link) : Link :=
  let watched := if trips then raisedLink .watch lines l else l
  if stops then raisedLink .extStop 0#4 watched else watched

theorem restartStation_link (s : State) :
    (restartStation s).link =
      restartLink (restartTrips s) s.sampling.ext.active (lineLevels s.sampling) { bus := s.link.bus } := by
  have fresh := restarted_alarms s
  have link := restarted_link s
  have setup : (restarted s).sup.station = .setup := by rw [restarted_sup]
  have watched : (restartWatched s).link =
      if restartTrips s then raisedLink .watch (lineLevels s.sampling) { bus := s.link.bus } else { bus := s.link.bus } := by
    rw [restartWatched]
    split
    · rw [raiseAlarm_link _ (by simp [link]) (by simp [setup]) (by simp [fresh]) (by simp [fresh])]
      exact congrArg _ link
    · exact link
  have silent : (restartWatched s).link.silent = false := by
    unfold restartWatched
    split <;> simp [link]
  have outside : (restartWatched s).sup.station ≠ .run := by
    unfold restartWatched
    split <;> simp [setup]
  have unraised : hasAlarm (restartWatched s).sup.active .extStop = false ∧
      hasAlarm (restartWatched s).sup.latched .extStop = false := by
    unfold restartWatched
    split <;> simp [fresh]
  rw [restartStation_eq, restartLink, ← watched]
  split
  · exact raiseAlarm_link _ silent outside unraised.1 unraised.2
  · rfl

/-- On an empty queue the ALARM comes first (R28). -/
theorem raisedLink_first (a : Alarm) (lines : BitVec 4) (bus : Bus) :
    raisedLink a lines { bus := bus } =
      { queue := [{ frame := .alarm a true lines }, { frame := .bayState }], bus := bus, reportCount := 0,
        reportBegunNow := true } := by
  simp [raisedLink, Link.enqueue, replaceLast, insertFrame, queueLimit, coalescesWith, Frame.isBayState, Frame.isDraw,
    Frame.priority, Frame.frameClass, FrameClass.priority]

/-- A second ALARM joins behind the first, and its BAY_STATE takes the place of the one that waits (R28, R29). -/
theorem raisedLink_second (a b : Alarm) (x y : BitVec 4) (bus : Bus) :
    raisedLink b y
        { queue := [{ frame := .alarm a true x }, { frame := .bayState }], bus := bus, reportCount := 0,
          reportBegunNow := true } =
      { queue := [{ frame := .alarm a true x }, { frame := .alarm b true y }, { frame := .bayState }], bus := bus,
        reportCount := 0, reportBegunNow := true } := by
  simp [raisedLink, Link.enqueue, replaceLast, insertFrame, queueLimit, coalescesWith, Frame.isBayState, Frame.isDraw,
    Frame.priority, Frame.frameClass, FrameClass.priority]

theorem restartLink_eq (trips stops : Bool) (lines : BitVec 4) (bus : Bus) :
    restartLink trips stops lines { bus := bus } =
      { queue := (if trips then [{ frame := .alarm .watch true lines }] else []) ++
          (if stops then [{ frame := .alarm .extStop true 0#4 }] else []) ++
          (if trips || stops then [{ frame := .bayState }] else []),
        bus := bus, reportCount := if trips || stops then 0 else 4, reportBegunNow := trips || stops } := by
  cases trips <;> cases stops <;> simp [restartLink, raisedLink_first, raisedLink_second]

/-- The RESULT joins behind the ALARMs and ahead of their BAY_STATE (R28, R65). -/
theorem restartLink_result (trips stops : Bool) (lines : BitVec 4) (bus : Bus) (n : Nat) (code tag : Byte)
    (outcome : ResultCode) (data : List Byte) :
    ((restartLink trips stops lines { bus := bus }).enqueue { frame := .result n code tag outcome data }).1 =
      { queue := (if trips then [{ frame := .alarm .watch true lines }] else []) ++
          (if stops then [{ frame := .alarm .extStop true 0#4 }] else []) ++
          [{ frame := .result n code tag outcome data }] ++ (if trips || stops then [{ frame := .bayState }] else []),
        bus := bus, reportCount := if trips || stops then 0 else 4, reportBegunNow := trips || stops } := by
  rw [restartLink_eq]
  cases trips <;> cases stops <;>
    simp [Link.enqueue, replaceLast, insertFrame, queueLimit, coalescesWith, Frame.isBayState, Frame.isDraw,
      Frame.priority, Frame.frameClass, FrameClass.priority]

/-! ### O5 -/

/-- What a RESTART keeps of the samples, the banks and the pours is not touched before it is performed. -/
theorem atDispatch_rest (s : State) :
    (atDispatch s).time = s.time ∧ (atDispatch s).sup.latched = s.sup.latched := by
  simp [atDispatch]

/-- The pour in progress at a RESTART: its volume leaves the keg, and its record joins the log (R181). -/
theorem endPourAtRestart_disp (s : State) :
    (endPourAtRestart s).disp.nextNumber = s.disp.nextNumber ∧
      (s.disp.pour = none → (endPourAtRestart s).disp = s.disp) ∧
      ∀ p, s.disp.pour = some p → (endPourAtRestart s).disp.level = s.disp.level - volumeNow s ∧
        (endPourAtRestart s).disp.log = (s.disp.joinLog (pourRecord p (volumeNow s) .stopped)).log := by
  unfold endPourAtRestart
  cases pour : s.disp.pour with
  | none => simp
  | some p =>
    have number (r : PourRecord) : (s.disp.joinLog r).nextNumber = s.disp.nextNumber := by
      unfold Dispense.joinLog
      (repeat' split) <;> rfl
    simp [number]

/-- The part after a RESTART, its RESULT queued unless SILENT holds it back (R65). -/
def restartAnswered (h : Header) (tag : Byte) (silent : Bool) (s : State) : State :=
  if silent then restartStation s else queueFrame (.result h.src 0x03#8 tag .done []) (restartStation s)

/-- The link controller after RESTART's RESULT (R28, R65, R67). -/
theorem restartAnswered_link (h : Header) (tag : Byte) (silent : Bool) (s : State) :
    (restartAnswered h tag silent s).link.queue.map (·.frame) =
        (if restartTrips s then [Frame.alarm .watch true (lineLevels s.sampling)] else []) ++
        (if s.sampling.ext.active then [Frame.alarm .extStop true 0#4] else []) ++
        (if silent then [] else [Frame.result h.src 0x03#8 tag .done []]) ++
        (if restartTrips s || s.sampling.ext.active then [Frame.bayState] else []) ∧
      (restartAnswered h tag silent s).link.reportCount =
        (if restartTrips s || s.sampling.ext.active then 0 else 4) ∧
      (restartAnswered h tag silent s).link.silent = false ∧ (restartAnswered h tag silent s).link.dropCount = 0 ∧
      (restartAnswered h tag silent s).link.txDropped = false ∧ (restartAnswered h tag silent s).link.attempt = none ∧
      (restartAnswered h tag silent s).link.rx = .empty := by
  have link : (restartAnswered h tag silent s).link =
      if silent then (restartStation s).link
      else ((restartStation s).link.enqueue { frame := .result h.src 0x03#8 tag .done [] }).1 := by
    unfold restartAnswered
    generalize restartStation s = t
    cases silent <;> rfl
  rw [link, restartStation_link, restartLink_result, restartLink_eq]
  cases silent <;> cases restartTrips s <;> cases s.sampling.ext.active <;> exact ⟨rfl, rfl, rfl, rfl, rfl, rfl, rfl⟩

theorem restartAnswered_frame (h : Header) (tag : Byte) (silent : Bool) (s : State) :
    restartAnswered h tag silent s =
      { restartStation s with link := (restartAnswered h tag silent s).link } := by
  unfold restartAnswered
  generalize restartStation s = t
  cases silent <;> rfl

theorem exec_restart_addressed {h : Header} {s : State} (tag : Byte) (addressed : Addressed h s) :
    exec (.restart h tag []) s =
      .next (updateLeak
        (restartAnswered h tag s.link.silent (atDispatch s))) := by
  have performed := perform_commandFrame_addressed (n := .restart) (tag := tag) (args := [])
    (p := fun s => answer .done (restartStation s)) addressed
  refine Eq.trans ?_ (performed.trans (congrArg (fun x => Host.Outcome.next (updateLeak x)) ?_))
  · rfl
  · rw [answerCommand]
    rfl

/-- What R65 lists stands at a RESTART. -/
theorem restartStation_keeps (s : State) :
    (restartStation s).ident = s.ident ∧ (restartStation s).setup = s.setup ∧ (restartStation s).time = s.time ∧
      (restartStation s).seq.bankA = s.seq.bankA ∧ (restartStation s).seq.bankB = s.seq.bankB ∧
      (restartStation s).seq.active = s.seq.active ∧ (restartStation s).sampling.handle = s.sampling.handle ∧
      (restartStation s).sampling.keg = s.sampling.keg ∧ (restartStation s).sampling.lid = s.sampling.lid ∧
      (restartStation s).sampling.drip = s.sampling.drip ∧ (restartStation s).sampling.ext = s.sampling.ext ∧
      (restartStation s).disp =
        { level := (endPourAtRestart s).disp.level, log := (endPourAtRestart s).disp.log,
          wrapped := (endPourAtRestart s).disp.wrapped, nextNumber := (endPourAtRestart s).disp.nextNumber } := by
  simp only [restartStation_rest, restarted_eq]
  rw [endPourAtRestart_eq]
  exact ⟨rfl, rfl, rfl, rfl, rfl, rfl, rfl, rfl, rfl, rfl, rfl, rfl⟩

/-- What R66 lists is reset at a RESTART, with the two blocks that act at once on the UNSEEN transducer (R145, R163). -/
theorem restartStation_resets (s : State) :
    (restartStation s).sup.station = .setup ∧ (restartStation s).sup.leaveSafeRefused = false ∧
      (restartStation s).view = {} ∧ (restartStation s).drivers = {} ∧ (restartStation s).temp = {} ∧
      (restartStation s).cool = { capacity := s.setup.fallbackCapacity } ∧
      (restartStation s).seq = { bankA := s.seq.bankA, bankB := s.seq.bankB, active := s.seq.active } ∧
      (restartStation s).sampling.beer = {} ∧ (restartStation s).sampling.jacket = {} ∧
      (restartStation s).sampling.transducer = {} ∧
      (restartStation s).sampling.watch = (if restartTrips s then .tripped else .armed) ∧
      (restartStation s).gas = { ceiling := s.setup.reliefCeiling, state := .sensorVent } ∧
      (restartStation s).draw =
        { limit := s.setup.drawLimit, state := .locked,
          causes := { sensor := true, keg := s.sampling.levelsTaken && !s.sampling.keg.active } } := by
  simp only [restartStation_rest, restarted_eq]
  rw [endPourAtRestart_eq]
  exact ⟨rfl, rfl, rfl, rfl, rfl, rfl, rfl, rfl, rfl, rfl, trivial, trivial, trivial⟩

/-- The leak check is off after a RESTART, whose station is in SETUP (R142). -/
theorem updateLeak_outside_run {s : State} (outside : s.sup.station ≠ .run) :
    (updateLeak s).gas = { s.gas with leak := .off } := by
  have off : leakConditions s = false := by simp [leakConditions, outside]
  simp [updateLeak, off]

/-- Settles O5: what is kept and what is reset, then the alarms, the RESULT and the queue. -/
theorem restartKeepsAndResets : Obligations.RestartKeepsAndResets := by
  intro h tag s accepts dest trips stops
  refine ⟨_, exec_restart_addressed tag ⟨accepts, dest⟩, ?_⟩
  obtain ⟨-, -, ident, setup, sampling, -, seq, -, -, disp, -⟩ := atDispatch_frame s
  obtain ⟨time, latched⟩ := atDispatch_rest s
  have volume : volumeNow (atDispatch s) = volumeNow s := by rw [volumeNow, volumeNow, disp, setup]
  have hTrips : restartTrips (atDispatch s) = trips := by
    rw [restartTrips, watchMismatch_congr (s := s) (by rw [sampling]) setup, sampling]
  have hStops : (atDispatch s).sampling.ext.active = stops := by rw [sampling]
  have keeps := restartStation_keeps (atDispatch s)
  have resets := restartStation_resets (atDispatch s)
  have idle := restartStation_idle (atDispatch s)
  have alarms := restartStation_alarms (atDispatch s)
  have pour := endPourAtRestart_disp (atDispatch s)
  have link := restartAnswered_link h tag s.link.silent (atDispatch s)
  rw [hTrips, hStops] at link alarms
  rw [hTrips] at resets
  have leak := updateLeak_outside_run (s := restartAnswered h tag s.link.silent (atDispatch s))
    (by rw [restartAnswered_frame]; simp [resets])
  rw [restartAnswered_frame] at leak
  rw [restartAnswered_frame]
  generalize restartAnswered h tag s.link.silent (atDispatch s) = u at *
  simp only [ident, setup, sampling, seq, disp, time, latched, volume] at keeps resets alarms pour link
  simp only [updateLeak_frame, leak]
  obtain ⟨number, unpoured, poured⟩ := pour
  refine ⟨by simp [keeps, number], fun none => ?_, fun p hp => ?_, by simp [resets, idle, link, keeps], alarms, link.1, link.2.1⟩
  · simp [keeps, unpoured none]
  · simpa [keeps] using poured p hp

end Sys2Proof.Machine
end

section
/-! ## The ranges of setup items, gas setpoint and activity ring (R58 to R60, R127, R128, R140, R141): O8 -/

namespace Sys2Proof.Machine

/-! ### Setup items (R58 to R60) -/

/-- The range of a numeric item is not empty (R58). -/
theorem ItemName.range_le {item : ItemName} {lo hi : Int} (h : item.values = .range lo hi) : lo ≤ hi := by
  cases item <;> simp_all [ItemName.values] <;> omega

theorem clamp_between {lo hi : Int} (h : lo ≤ hi) (x : Int) : lo ≤ clamp lo hi x ∧ clamp lo hi x ≤ hi := by
  unfold clamp
  split
  · omega
  · split <;> omega

theorem clamp_of_between {lo hi x : Int} (low : lo ≤ x) (high : x ≤ hi) : clamp lo hi x = x := by
  unfold clamp
  rw [if_neg (by omega), if_neg (by omega)]

/-- A value brought into range stays as it is when it is written again (R59, R60). -/
theorem ItemName.fit_fit {item : ItemName} {x v : Int} (h : item.values.fit x = some v) :
    item.values.fit v = some v := by
  cases values : item.values with
  | range lo hi =>
    obtain ⟨low, high⟩ := clamp_between (item.range_le values) x
    simp only [values, ItemValues.fit, Option.some.injEq] at h ⊢
    rw [h] at low high
    exact clamp_of_between low high
  | idle =>
    simp only [values, ItemValues.fit, clamp, Option.some.injEq] at h ⊢
    omega
  | members n =>
    simp only [values, ItemValues.fit] at h ⊢
    split at h
    · next inside =>
      obtain rfl := Option.some.inj h
      exact if_pos inside
    · nomatch h

/-- A stored value of the item's range is the value held (R59). -/
theorem SetupItems.get_put_same (x : SetupItems) {item : ItemName} {v : Int} (fits : item.values.fit v = some v) :
    (x.put v item).get item = v := by
  have natural {n : Int} (h : 0 ≤ n) : ((n.toNat : Nat) : Int) = n := Int.toNat_of_nonneg h
  have member {n : Nat} (h : 0 ≤ v ∧ v < (2 ^ n : Nat)) : (((BitVec.ofInt n v).toNat : Nat) : Int) = v := by
    rw [BitVec.toNat_ofInt, Int.emod_eq_of_lt h.1 h.2, natural h.1]
  have ranged {lo hi : Int} (le : lo ≤ hi) (pos : 0 ≤ lo) (h : some (clamp lo hi v) = some v) : 0 ≤ v := by
    have := clamp_between le v
    rw [Option.some.inj h] at this
    omega
  cases item <;> simp only [ItemName.values, ItemValues.fit] at fits
  case groupSet | activitySet | wakeSet | watchReference | watchSet =>
    refine member ?_
    by_contra outside
    rw [if_neg outside] at fits
    nomatch fits
  case idlePeriod =>
    refine natural ?_
    simp only [clamp, Option.some.injEq] at fits
    omega
  case filterShift | valveCapacity | fallbackCapacity | drawLimit | flowFactor | maxPour | reserve =>
    exact natural (ranged (by decide) (by decide) fits)
  all_goals rfl

/-- A stored value is that of its item alone (R59). -/
theorem SetupItems.get_put_other (x : SetupItems) (v : Int) {item i : ItemName} (other : i ≠ item) :
    (x.put v item).get i = x.get i := by
  cases item <;> cases i <;> first | rfl | exact absurd rfl other

/-- A value brought into its item's range keeps every item in range (R58 to R60). -/
theorem SetupOk.put {x : SetupItems} (ok : SetupOk x) {item : ItemName} {raw v : Int}
    (fits : item.values.fit raw = some v) : SetupOk (x.put v item) := by
  intro i
  by_cases same : i = item
  · subst same
    rw [x.get_put_same (ItemName.fit_fit fits)]
    exact ItemName.fit_fit fits
  · rw [x.get_put_other v same]
    exact ok i

/-- The relief ceiling leaves a range for the gas setpoint (R58, R127). -/
theorem SetupOk.ceiling {x : SetupItems} (ok : SetupOk x) : 1000 ≤ x.reliefCeiling ∧ x.reliefCeiling ≤ 3500 := by
  have fits : clamp 1000 3500 x.reliefCeiling = x.reliefCeiling := Option.some.inj (ok .reliefCeiling)
  rw [← fits]
  exact clamp_between (by decide) _

/-! ### The gas regulator's bounds (R127, R140) -/

section
variable {x : SetupItems} {g : Gas} (ok : GasOk x g)
include ok

theorem GasOk.congr {k : Gas} (setpoint : k.setpoint = g.setpoint) (bucket : k.openBucket = g.openBucket)
    (buckets : k.buckets = g.buckets) : GasOk x k := by
  unfold GasOk
  rw [setpoint, bucket, buckets]
  exact ok

/-- A PULSE is counted in the open bucket up to 255 (R140). -/
theorem GasOk.moveTo (new : GasState) : GasOk x (g.moveTo new) := by
  obtain ⟨setpoint, bucket, buckets⟩ := ok
  refine ⟨setpoint, ?_, buckets⟩
  unfold Gas.moveTo
  dsimp only
  split
  · exact Nat.min_le_left _ _
  · exact bucket

theorem GasOk.ringCleared (now : Bool) : GasOk x { g with openBucket := 0, buckets := [], bucketBegunNow := now } := by
  obtain ⟨setpoint, -⟩ := ok
  exact ⟨setpoint, Nat.zero_le _, Nat.zero_le _, by nofun⟩

/-- The ring keeps the newest eight buckets (R141). -/
theorem GasOk.bucketCompleted : GasOk x { g with buckets := (g.openBucket :: g.buckets).take 8, openBucket := 0 } := by
  obtain ⟨setpoint, bucket, length, buckets⟩ := ok
  refine ⟨setpoint, Nat.zero_le _, by simp, fun n hn => ?_⟩
  rcases List.mem_cons.1 (List.mem_of_mem_take hn) with rfl | old
  exacts [bucket, buckets n old]

/-- A setpoint clamped under the relief ceiling of the setup items (R127, R128). -/
theorem GasOk.clamped {y : SetupItems} (ceiling : 1000 ≤ y.reliefCeiling) (p : Int) (low high : Bool) :
    GasOk y { g with setpoint := clamp 50 (y.reliefCeiling - 200) p, limitedLow := low, limitedHigh := high } := by
  obtain ⟨-, bucket, buckets⟩ := ok
  exact ⟨clamp_between (by omega) p, bucket, buckets⟩

end

/-! ### The shared operations, in the order of their definitions -/

/-- The setup items lie in their ranges, and the gas regulator keeps its bounds (R58, R127, R140). -/
def Ranged (s : State) : Prop := SetupOk s.setup ∧ GasOk s.setup s.gas

section
variable {s : State} (inv : Ranged s)
include inv

/-- The ranges hang on the setup items and the gas regulator alone. -/
theorem Ranged.stands {t : State} (same : t.setup = s.setup ∧ t.gas = s.gas) : Ranged t := by
  obtain ⟨setup, gas⟩ := same
  unfold Ranged
  rw [setup, gas]
  exact inv

/-- A row that acts only on its occasion keeps the ranges where its action there does. -/
theorem Ranged.ite {t : State} {p : Prop} [Decidable p] (acts : Ranged t) : Ranged (if p then t else s) := by
  split
  exacts [acts, inv]

theorem Ranged.mapGas {f : Gas → Gas} (keeps : GasOk s.setup s.gas → GasOk s.setup (f s.gas)) : Ranged (s.mapGas f) := by
  obtain ⟨setup, gas⟩ := inv
  exact ⟨setup, keeps gas⟩

/-- A change of the regulator that leaves the setpoint and the ring. -/
theorem Ranged.gas_stands {t : State} (setup : t.setup = s.setup) (setpoint : t.gas.setpoint = s.gas.setpoint)
    (bucket : t.gas.openBucket = s.gas.openBucket) (buckets : t.gas.buckets = s.gas.buckets) : Ranged t := by
  obtain ⟨ok, gas⟩ := inv
  unfold Ranged
  rw [setup]
  exact ⟨ok, gas.congr setpoint bucket buckets⟩

theorem Ranged.evaluateGas : Ranged (evaluateGas s) := by
  obtain ⟨setup, gas⟩ := inv
  unfold Ranged
  rw [(evaluateGas_frame s).2.2.2.2.1, Machine.evaluateGas, moveGas_gas]
  refine ⟨setup, ?_⟩
  split
  exacts [gas, gas.moveTo _]

theorem Ranged.settleEnd : Ranged (settleEnd s) := (inv.mapGas (·.moveTo .rest)).evaluateGas

theorem Ranged.takeUpMode (m : Option GasMode) : Ranged (takeUpMode m s) :=
  (inv.ite (inv.mapGas (·.moveTo .rest))).evaluateGas

theorem Ranged.computeSetpoint : Ranged (computeSetpoint s) := by
  unfold Machine.computeSetpoint
  split
  · exact inv.mapGas fun gas => gas.clamped inv.1.ceiling.1 _ _ _
  · exact inv

theorem Ranged.updateLeak : Ranged (updateLeak s) := inv.gas_stands rfl rfl rfl rfl

theorem Ranged.leakDrift (t : Int) : Ranged (leakDrift t s) := by
  unfold Machine.leakDrift
  split
  · exact inv.ite (inv.gas_stands rfl rfl rfl rfl)
  · exact inv
  · exact inv

theorem Ranged.leakHour : Ranged (leakHour s) := by
  have window (l : LeakCheck) : Ranged (s.mapGas fun g => { g with leak := l }) := inv.gas_stands rfl rfl rfl rfl
  unfold Machine.leakHour
  split
  · exact window _
  · next p t _ _ _ =>
    have begun := window (.inWindow p t)
    refine begun.ite (begun.stands ?_)
    simp
  · exact inv

theorem Ranged.completeBucket : Ranged (completeBucket s) :=
  inv.mapGas fun gas => by
    split
    exacts [gas, gas.bucketCompleted]

theorem Ranged.clearRing : Ranged (clearRing s) := inv.mapGas fun gas => gas.ringCleared _

theorem Ranged.queueBayState : Ranged (queueBayState s) := inv.stands (by simp)

theorem Ranged.needEnds : Ranged (needEnds s) := inv.stands (by simp)

theorem Ranged.claimSent : Ranged (claimSent s) := inv.stands (by simp)

theorem Ranged.formWindow : Ranged (formWindow s) := inv.stands (by simp)

theorem Ranged.endFlowing (r : EndReason) : Ranged (endFlowing r s) := inv.stands (by simp)

theorem Ranged.withdrawWindow : Ranged (withdrawWindow s) := inv.stands (by simp)

theorem Ranged.updateLockouts : Ranged (updateLockouts s) := inv.stands (by simp)

theorem Ranged.countIdle : Ranged (countIdle s) := inv.stands (by simp)

theorem Ranged.coordinatorHandOver (w : Bool) : Ranged (coordinatorHandOver w s) := inv.stands (by simp)

theorem Ranged.lowPressureTest : Ranged (lowPressureTest s) := inv.stands (by simp)

theorem Ranged.beginStep (m : Option GasMode) (i : Nat) (r : StepRecord) : Ranged (beginStep m i r s) := by
  have placed : Ranged (stepPlaced i r s) := inv.stands (by simp [stepPlaced_frame])
  have set : Ranged (stepSet m i r s) := placed.clearRing.computeSetpoint.stands (by simp [stepSet, stepPour_frame])
  rw [beginStep_eq]
  exact Ranged.updateLeak ((set.takeUpMode m).stands (by simp [stepTold_frame]))

theorem Ranged.takeSwitch (n : Nat) : Ranged (takeSwitch n s) := by
  unfold Machine.takeSwitch
  dsimp only
  split
  · exact inv
  · refine Ranged.beginStep (inv.stands ?_) _ _ _
    exact ⟨rfl, rfl⟩

theorem Ranged.changeProfile (p : ProfileState) : Ranged (changeProfile p s) :=
  have changed : Ranged (s.mapSeq fun q => { q with profile := p }) := inv.stands ⟨rfl, rfl⟩
  changed.evaluateGas.queueBayState

theorem Ranged.endStep : Ranged (endStep s) := by
  unfold Machine.endStep
  split
  · exact inv.takeSwitch _
  · split
    exacts [inv.beginStep _ _ _, inv.changeProfile _]

omit inv in
theorem Ranged.chain (n : Nat) {s : State} (inv : Ranged s) : Ranged (chain n s) := by
  induction n generalizing s with
  | zero => exact inv
  | succ n ih => exact inv.ite (ih inv.endStep)

theorem Ranged.endStepChain : Ranged (endStepChain s) := inv.endStep.chain _

theorem Ranged.takeSwitchChain (n : Nat) : Ranged (takeSwitchChain n s) := (inv.takeSwitch n).chain _

theorem Ranged.elapseDuration : Ranged (elapseDuration s) := by
  refine inv.ite (Ranged.chain _ (inv.stands ?_))
  exact ⟨rfl, rfl⟩

theorem Ranged.targetReached : Ranged (targetReached s) := by
  unfold Machine.targetReached
  split
  · exact Ranged.chain _ (inv.stands ⟨rfl, rfl⟩)
  · exact inv

theorem Ranged.groupSyncAccepted (g : Nat) : Ranged (groupSyncAccepted g s) := by
  have synced : Ranged (groupSyncAtSequencer g s) := by
    unfold groupSyncAtSequencer
    (repeat' split)
    exacts [inv.takeSwitchChain _, inv.endStepChain, inv, inv.endStepChain, inv]
  exact synced.stands (by simp [Machine.groupSyncAccepted])

theorem Ranged.stationChanged : Ranged (stationChanged s) := by
  refine Ranged.evaluateGas (inv.stands ?_)
  simp

theorem Ranged.enterSafe : Ranged (enterSafe s) := by
  refine Ranged.stationChanged (inv.stands ?_)
  simp

theorem Ranged.startStation : Ranged (startStation s) := by
  have begun : Ranged (s.mapSup fun p => { p with station := .run, idleCount := 0 }) := inv.stands ⟨rfl, rfl⟩
  have free : Ranged ((s.mapSup fun p => { p with station := .run, idleCount := 0 }).mapDrivers fun _ => {}) :=
    begun.stands ⟨rfl, rfl⟩
  have unforced := free.ite (p := s.drivers.inlet = .forcedOn) free.needEnds
  have told := unforced.computeSetpoint.stationChanged.queueBayState
  exact told.ite told.enterSafe

theorem Ranged.leaveSafeState : Ranged (leaveSafeState s) := by
  have left : Ranged (s.mapSup fun p => { p with station := .run, idleCount := 0 }) := inv.stands ⟨rfl, rfl⟩
  exact left.stationChanged.queueBayState

theorem Ranged.beerSample (raw : Nat) : Ranged (beerSample raw s) := by
  have still {t : State} (same : t.setup = s.setup ∧ t.gas = s.gas) : Ranged t := inv.stands same
  unfold Machine.beerSample
  dsimp only
  split
  · refine still ?_
    split <;> simp
  · split
    · refine Ranged.leakDrift (still ?_) _
      split <;> simp
    · refine still ?_
      split <;> simp

theorem Ranged.countDurations : Ranged (countDurations s) :=
  inv.gas_stands (by simp) rfl rfl rfl

end

/-! ### The events, and the commands' replies -/

section
variable {s : State} (inv : Ranged s)
include inv

theorem Ranged.tenMsEvent (pins : SwitchPins) : Ranged (tenMsEvent pins s) := by
  unfold Machine.tenMsEvent
  dsimp only
  refine Ranged.countDurations (inv.stands ?_)
  split <;> simp

/-- The regulator is evaluated once, before or behind the coordinator, which leaves it alone (R130). -/
theorem Ranged.hundredMsEvent (raw : Nat) (b : Bool) : Ranged (hundredMsEvent raw b s) := by
  have sampled : Ranged (pressureSample raw
      ((s.mapTime fun t => { t with due100ms := false }).mapGas fun g => { g with ceiling := s.setup.reliefCeiling })) :=
    inv.gas_stands (by simp) (by simp) (by simp) (by simp)
  exact ((sampled.evaluateGas.coordinatorHandOver _).ite (p := b = true)
    (sampled.coordinatorHandOver _).evaluateGas).lowPressureTest

theorem Ranged.oneSecondEvent (m n : Nat) : Ranged (oneSecondEvent m n s) := by
  have begun : Ranged (s.mapTime fun t => { t with due1s := false }) := inv.stands ⟨rfl, rfl⟩
  exact (begun.beerSample m).stands (by simp [Machine.oneSecondEvent])

theorem Ranged.sequencerMinute (b : Bool) : Ranged (sequencerMinute b s) := by
  unfold Machine.sequencerMinute
  split
  exacts [inv.targetReached, inv.stands (by simp)]

theorem Ranged.oneMinuteEvent (b : Bool) : Ranged (oneMinuteEvent b s) := by
  have moved : Ranged (rampMove (s.mapTime fun t => { t with due1min := false, uptime := nextUptime t.uptime })).1 :=
    inv.stands (by simp)
  unfold Machine.oneMinuteEvent
  dsimp only
  split
  · exact (moved.sequencerMinute _).elapseDuration.computeSetpoint.formWindow.countIdle
  · exact (moved.computeSetpoint.formWindow.sequencerMinute _).countIdle

theorem Ranged.oneHourEvent : Ranged (oneHourEvent s) := by
  have begun : Ranged (s.mapTime fun t => { t with due1h := false }) := inv.stands ⟨rfl, rfl⟩
  have completed := begun.leakHour.completeBucket
  unfold Machine.oneHourEvent
  dsimp only
  split
  exacts [completed, completed.chain _]

omit inv in
/-- A ceiling within its range, new or old, leaves the setpoint room beneath it (R128). -/
theorem refitSetpoint_ranged {x : State} (setup : SetupOk x.setup) {y : SetupItems} (gas : GasOk y x.gas) :
    Ranged (refitSetpoint x) := by
  have clamped {p : Int} {low high : Bool} := gas.clamped setup.ceiling.1 p low high
  unfold refitSetpoint computeSetpoint
  split
  · exact ⟨setup, clamped⟩
  · exact ⟨setup, clamped⟩

theorem Ranged.storeItem {item : ItemName} {raw v : Int} (fits : item.values.fit raw = some v) :
    Ranged (storeItem item v s) := by
  obtain ⟨setup, gas⟩ := inv
  have stored : SetupOk (s.setup.put v item) := setup.put fits
  unfold Machine.storeItem
  dsimp only
  split
  · exact ⟨setup, gas⟩
  · split
    · exact refitSetpoint_ranged stored gas
    · next other =>
      have ceiling : (s.setup.put v item).reliefCeiling = s.setup.reliefCeiling := by
        have := s.setup.get_put_other v (item := item) (i := .reliefCeiling) (by rintro rfl; simp at other)
        exact this
      have put : Ranged (s.mapSetup (·.put v item)) := by
        refine ⟨stored, ?_⟩
        unfold GasOk at gas ⊢
        exact ceiling ▸ gas
      exact put.ite (put.stands (by simp))

theorem Ranged.setupItemReply (args : List Byte) : Ranged (setupItemReply args s).state := by
  unfold Machine.setupItemReply
  split
  · exact inv
  · split
    · split
      · exact inv
      · split
        · exact inv
        · next fits => exact inv.storeItem fits
    · exact inv

theorem Ranged.recordSwitch (source start group : Nat) : Ranged (recordSwitch source start group s) := by
  unfold Machine.recordSwitch
  (repeat' split)
  exacts [inv.takeSwitchChain _, inv.stands ⟨rfl, rfl⟩, inv.stands ⟨rfl, rfl⟩]

theorem Ranged.stopProfile : Ranged (stopProfile s) := by
  unfold Machine.stopProfile
  split
  · exact inv.stands ⟨rfl, rfl⟩
  · have stopped : Ranged (s.mapSeq fun q =>
        { q with profile := .idle, index := 0, phase := none, count := 0, pendingSwitch := none }) :=
      inv.stands ⟨rfl, rfl⟩
    exact (stopped.endFlowing _).withdrawWindow.evaluateGas.updateLockouts.queueBayState

/-- A RESTART keeps the setup items and puts the gas setpoint to 50 (R65, R66). -/
theorem Ranged.restartStation : Ranged (restartStation s) := by
  obtain ⟨setup, -⟩ := inv
  obtain ⟨-, same, -⟩ := restartStation_keeps s
  obtain ⟨-, -, -, -, -, -, -, -, -, -, -, gas, -⟩ := restartStation_resets s
  have ceiling := setup.ceiling.1
  rw [Ranged, same, gas]
  exact ⟨setup, ⟨le_rfl, by show (50 : Int) ≤ _; omega⟩, Nat.zero_le _, Nat.zero_le _, nofun⟩

/-- Every command keeps the ranges. -/
theorem Ranged.reply (n : CommandName) (args : List Byte) : Ranged (n.reply args s).state := by
  cases n <;> dsimp only [CommandName.reply]
  case setupItem => exact inv.setupItemReply args
  case restart => exact inv.restartStation
  case stopProfile => exact inv.stopProfile
  case start =>
    unfold startReply
    (repeat' split)
    exacts [inv, inv, inv.startStation]
  case advance =>
    unfold advanceReply
    split
    exacts [inv.endStepChain, inv]
  case pauseProfile =>
    unfold pauseReply
    split
    exacts [inv.changeProfile _, inv]
  case resumeProfile =>
    unfold resumeReply
    split
    exacts [(inv.changeProfile _).chain _, inv]
  case switchBank =>
    unfold switchBankReply
    (repeat' split)
    exacts [inv, inv.stands ⟨rfl, rfl⟩, inv, inv, inv.recordSwitch _ _ _, inv.recordSwitch _ _ _, inv]
  case leaveSafe =>
    unfold leaveSafeReply
    (repeat' split)
    exacts [inv, inv.stands ⟨rfl, rfl⟩, inv.leaveSafeState]
  case clearSupply => exact inv.stands (by simp [answer])
  all_goals exact inv.stands (by simp)

theorem Ranged.acceptFrame {h : Header} {act : State → State} (acts : ∀ x, Ranged x → Ranged (act x)) :
    Ranged (acceptFrame h act s) :=
  acceptFrame_keeps (fun _ _ inv => inv.stands (by simp)) (fun _ inv => inv.stands (by simp))
    (fun _ _ _ inv => acts _ inv) inv

theorem Ranged.commandFrame (n : CommandName) (h : Header) (tag : Byte) (args : List Byte) :
    Ranged (commandFrame n h tag args (n.reply args) s) :=
  commandFrame_keeps (fun _ _ inv => inv.stands (by simp)) (fun _ inv => inv.stands (by simp))
    (fun _ inv => inv.stands (by simp)) (fun _ _ inv => inv.stands (by simp)) (fun _ inv => inv.reply n args) inv

/-- The own GROUP_SYNC sent reaches the own sequencer (R41). -/
theorem Ranged.completeSend (a : Attempt) (q : QFrame) (rest : List QFrame) : Ranged (completeSend a q rest s) := by
  have ended : Ranged (endAlarm .linkFault (s.mapLink fun l =>
      { l with queue := rest, attempt := none, bus := .busy, dropCount := 0,
               txDropped := l.txDropped && !(a.carriesTxDropped && !a.droppedSince) })) := inv.stands (by simp)
  have reported := ended.ite (p := q.liveClaim = true) ended.claimSent
  unfold Machine.completeSend reportSend
  dsimp only
  split
  · exact reported.ite (reported.groupSyncAccepted _)
  all_goals exact reported

theorem Ranged.stopLineActive : Ranged (stopLineActive s) := by
  have raised : Ranged (stopRaised s) := by
    obtain ⟨-, setup, -, -, -, -, -, -, -, gas, -⟩ := stopRaised_frame s
    exact inv.stands ⟨setup, gas⟩
  have entered : Ranged (stopEntered s) := raised.ite raised.enterSafe
  rw [stopLineActive_eq]
  exact entered.stands (by simp)

end

/-! ### Every command -/

theorem ranged_powerOn (p : Straps) (s : State) : Ranged (powerOn p s) := by
  rw [powerOn_eq]
  exact ⟨setupOk_default, by simp [GasOk, powerOnValues]⟩

theorem ranged_holdReset (s : State) : Ranged (holdReset s) :=
  ⟨setupOk_default, by simp [GasOk, holdReset, powerOnValues]⟩

/-- Every command keeps the ranges. -/
theorem ranged_exec {c : Instr} {s t : State} (next : exec c s = .next t) (inv : Ranged s) : Ranged t := by
  have leak (x : State) (inv : Ranged x) : Ranged (updateLeak x) := inv.updateLeak
  have command {n : CommandName} {h : Header} {tag : Byte} {args : List Byte}
      (next : exec (n.row h tag args) s = .next t) : Ranged t :=
    perform_keeps ((exec_row n h tag args s).symm.trans next) leak (fun _ inv => inv.commandFrame n h tag args) inv
  cases c <;> have run := next <;> dsimp only [exec] at run
  case powerOn p =>
    cases run
    exact ranged_powerOn p s
  case rstnHeldLow =>
    cases run
    exact ranged_holdReset s
  case setupItem => exact command (n := .setupItem) next
  case start => exact command (n := .start) next
  case restart => exact command (n := .restart) next
  case forceOutput => exact command (n := .forceOutput) next
  case writeStep => exact command (n := .writeStep) next
  case readStep => exact command (n := .readStep) next
  case switchBank => exact command (n := .switchBank) next
  case advance => exact command (n := .advance) next
  case pauseProfile => exact command (n := .pauseProfile) next
  case resumeProfile => exact command (n := .resumeProfile) next
  case stopProfile => exact command (n := .stopProfile) next
  case clearSupply => exact command (n := .clearSupply) next
  case setLevel => exact command (n := .setLevel) next
  case armPortion => exact command (n := .armPortion) next
  case readPour => exact command (n := .readPour) next
  case dropPours => exact command (n := .dropPours) next
  case readView => exact command (n := .readView) next
  case quiet => exact command (n := .quiet) next
  case wake => exact command (n := .wake) next
  case clearAlarms => exact command (n := .clearAlarms) next
  case leaveSafe => exact command (n := .leaveSafe) next
  all_goals refine perform_keeps run leak (fun _ inv => ?_) inv
  case event10ms pins _ => exact (inv.tenMsEvent pins).ite inv
  case event100ms raw first _ => exact inv.ite (inv.hundredMsEvent raw first)
  case event1s beer jacket _ => exact inv.ite (inv.oneSecondEvent beer jacket)
  case event1min first _ => exact inv.ite (inv.oneMinuteEvent first)
  case event1h => exact inv.ite inv.oneHourEvent
  case settleEnd => exact inv.ite inv.settleEnd
  case pulseTimerEnd => exact inv.ite (inv.mapGas (·.moveTo _))
  case durationElapsed => exact inv.elapseDuration
  case extStopActive => exact inv.ite inv.stopLineActive
  case receiveGroupSync =>
    refine inv.acceptFrame fun x inv => ?_
    (repeat' split)
    exacts [inv.groupSyncAccepted _, inv]
  case receiveBayState | receiveDraw | receiveCoolCap | receivePour | unknownCommand =>
    refine inv.acceptFrame fun x inv => inv.stands ?_
    (repeat' split) <;> simp [queueResult, refuse]
  case auxLineChange line _ => cases line <;> exact inv.ite (inv.stands (by simp))
  case handlePress | handleRelease | extStopInactive | heaterOnTimeEnd | glycolOpenTimeEnd | reportTimer
      | idleTimerExpiry | settleWindowEnd | keepTimerPeriod | backoffEnd | recoverEnd | stallTimerStart | stallTimerEnd
      | lowPressureTimerEnd | tailTimerEnd | portionExpiry | busIdle | txAttemptStart | firstStartBit =>
    exact inv.ite (inv.stands (by simp))
  case flowPulse | frameDiscarded | peerPartExpiry => exact inv.stands (by simp)
  case arbitrationLost | bitError =>
    split
    exacts [inv, inv.ite (inv.stands (by simp))]
  case frameSent =>
    split
    exacts [inv.completeSend _ _ _, inv]

/-- Settles O8: the command taken keeps the ranges, in which the commands that wait have no part. -/
theorem setupAndSetpointKept : Obligations.SetupAndSetpointKept := by
  intro s t next inv
  unfold step at next
  split at next
  · cases next
    exact inv
  · exact ranged_exec next inv

end Sys2Proof.Machine
end

section
/-! ## START (R62 to R64): O52 -/

namespace Sys2Proof.Machine

/-! ### What a change of regulation state does to the need, the drive states and the idle timer -/

@[simp] theorem formUrgency_need (s : State) : (formUrgency s).draw.need = s.draw.need := by
  unfold formUrgency shortenBackoff contendAgain enterWaiting
  dsimp only
  (repeat' split) <;> simp [queueDraw, Draw.enter]

@[simp] theorem updateLockouts_need (s : State) : (updateLockouts s).draw.need = s.draw.need := by
  unfold updateLockouts enterLocked contendAgain enterWaiting
  dsimp only
  (repeat' split) <;> simp [queueDraw, Draw.enter]

@[simp] theorem endFlowing_need (r : EndReason) (s : State) : (endFlowing r s).draw.need = s.draw.need := by
  unfold endFlowing pourStateChanged
  split <;> simp

/-- After its end there is no need (R146). -/
@[simp] theorem needEnds_need (s : State) : (needEnds s).draw.need = false := by
  unfold needEnds
  dsimp only
  (repeat' split) <;> simp_all [queueDraw, Draw.enter]

theorem dropForcedInlet_of_free {s : State} (free : s.drivers.inlet ≠ .forcedOn) : dropForcedInlet s = s := if_neg free

/-- A need is there for a TOPPING alone (R133). -/
def NeedsToTop (s : State) : Prop := s.gas.state ≠ .topping → s.draw.need = false

/-- The need comes and goes with TOPPING (R133). -/
theorem evaluateGas_needsToTop {s : State} (h : NeedsToTop s) : NeedsToTop (evaluateGas s) := by
  have ended : ∀ t, t.draw.need = false → (dropForcedInlet t).draw.need = false := by
    intro t none
    unfold dropForcedInlet
    split <;> simp [none]
  unfold NeedsToTop
  rw [evaluateGas_state, evaluateGas, moveGas]
  intro other
  split
  · next same => exact h (same ▸ other)
  · have left : (leaveGas s.gas.state (s.mapGas (·.moveTo (decideGas s)))).draw.need = false := by
      unfold leaveGas
      split
      · exact needEnds_need _
      all_goals simp_all [NeedsToTop]
    unfold enterGas
    split
    · next topping => exact absurd topping other
    all_goals simp [ended, left]

/-- With INLET not forced on no evaluation moves a drive state (R136, R137). -/
theorem evaluateGas_drivers {s : State} (free : s.drivers.inlet ≠ .forcedOn) :
    (evaluateGas s).drivers = s.drivers := by
  have left : (leaveGas s.gas.state (s.mapGas (·.moveTo (decideGas s)))).drivers = s.drivers := by
    unfold leaveGas
    split <;> simp
  unfold evaluateGas moveGas enterGas
  (repeat' split) <;> simp [free, dropForcedInlet_of_free]

/-- An idle timer at 0 stays there (R183). -/
theorem evaluateGas_idleCount {s : State} (zero : s.sup.idleCount = 0) : (evaluateGas s).sup.idleCount = 0 := by
  have left : (leaveGas s.gas.state (s.mapGas (·.moveTo (decideGas s)))).sup.idleCount = 0 := by
    unfold leaveGas
    split <;> simp [endAlarm_sup, zero]
  unfold evaluateGas moveGas enterGas
  split
  · exact zero
  · split
    case h_2 =>
      refine raiseAlarm_idleCount ?_
      unfold dropForcedInlet
      split <;> simp [left]
    all_goals simp [left]

/-! ### START in its parts (R63, R64) -/

/-- RUN entered with every output in FUNCTION and a forced INLET's need ended (R22, R63). -/
def startReady (s : State) : State :=
  let ready := (s.mapSup fun p => { p with station := .run, idleCount := 0 }).mapDrivers fun _ => {}
  if s.drivers.inlet = .forcedOn then needEnds ready else ready

/-- And with the setpoint computed and the blocks' reaction to RUN (R63). -/
def startEntered (s : State) : State := queueBayState (stationChanged (computeSetpoint (startReady s)))

theorem startStation_eq (s : State) :
    startStation s = if s.sampling.ext.active then enterSafe (startEntered s) else startEntered s := by
  have sampling : (startEntered s).sampling = s.sampling := by
    unfold startEntered startReady
    dsimp only
    split <;> simp
  rw [← sampling]
  rfl

theorem startReady_frame (s : State) :
    (startReady s).drivers = {} ∧ (startReady s).sup = { s.sup with station := .run, idleCount := 0 } ∧
      (startReady s).gas = s.gas ∧ (startReady s).seq = s.seq ∧ (startReady s).sampling = s.sampling ∧
      (startReady s).setup = s.setup := by
  unfold startReady
  dsimp only
  split <;> simp

theorem startReady_need {s : State} (forced : s.drivers.inlet = .forcedOn) : (startReady s).draw.need = false := by
  simp [startReady, forced]

/-- The setpoint is computed from the handed target, the held temperature, the setup items and the old setpoint (R127). -/
theorem computeSetpoint_gas_congr {s t : State} (gas : t.gas = s.gas) (seq : t.seq = s.seq)
    (sampling : t.sampling = s.sampling) (setup : t.setup = s.setup) :
    (computeSetpoint t).gas = (computeSetpoint s).gas := by
  have target : handedTarget t = handedTarget s := by simp [handedTarget, seq]
  unfold computeSetpoint
  rw [target, sampling, setup]
  split <;> simp [gas]

/-- A change of station state leaves the setpoint, and the drive states with INLET not forced on. -/
theorem stationChanged_setpointStands (s : State) : SetpointStands s (stationChanged s) :=
  SetpointStands.trans (t := formUrgency (updateLockouts s)) (.of_gas (by simp)) (evaluateGas_setpointStands _)

theorem stationChanged_drivers {s : State} (free : s.drivers.inlet ≠ .forcedOn) :
    (stationChanged s).drivers = s.drivers := by
  rw [stationChanged, evaluateGas_drivers (by simpa using free)]
  simp

theorem stationChanged_needsToTop {s : State} (h : NeedsToTop s) : NeedsToTop (stationChanged s) :=
  evaluateGas_needsToTop (by simpa [NeedsToTop] using h)

theorem stationChanged_idleCount {s : State} (zero : s.sup.idleCount = 0) : (stationChanged s).sup.idleCount = 0 :=
  evaluateGas_idleCount (by simpa using zero)

theorem startEntered_drivers (s : State) : (startEntered s).drivers = {} := by
  obtain ⟨drivers, -⟩ := startReady_frame s
  simp [startEntered, stationChanged_drivers, drivers]

theorem startEntered_station (s : State) : (startEntered s).sup.station = .run := by
  obtain ⟨-, sup, -⟩ := startReady_frame s
  simp [startEntered, sup]

theorem startEntered_idleCount (s : State) : (startEntered s).sup.idleCount = 0 := by
  obtain ⟨-, sup, -⟩ := startReady_frame s
  rw [startEntered, (queueBayState_frame _).2.2.2.2.2.1]
  exact stationChanged_idleCount (by simp [sup])

theorem startEntered_needsToTop {s : State} (forced : s.drivers.inlet = .forcedOn) : NeedsToTop (startEntered s) := by
  have computed : NeedsToTop (computeSetpoint (startReady s)) := fun _ => by
    simp [startReady_need forced]
  simpa [NeedsToTop, startEntered] using stationChanged_needsToTop computed

theorem startEntered_setpointStands (s : State) : SetpointStands (computeSetpoint s) (startEntered s) := by
  obtain ⟨-, -, gas, seq, sampling, setup⟩ := startReady_frame s
  have computed : SetpointStands (computeSetpoint s) (computeSetpoint (startReady s)) :=
    .of_gas (computeSetpoint_gas_congr gas seq sampling setup)
  exact (computed.trans (stationChanged_setpointStands _)).trans (.of_gas (by simp [startEntered]))

theorem enterSafe_setpointStands (s : State) : SetpointStands s (enterSafe s) :=
  SetpointStands.trans (.of_gas (by simp)) (stationChanged_setpointStands _)

theorem enterSafe_drivers {s : State} (free : s.drivers.inlet ≠ .forcedOn) : (enterSafe s).drivers = s.drivers := by
  rw [enterSafe, stationChanged_drivers (by simpa using free)]
  simp

theorem enterSafe_needsToTop {s : State} (h : NeedsToTop s) : NeedsToTop (enterSafe s) :=
  stationChanged_needsToTop (by simpa [NeedsToTop, withdrawWindow] using h)

theorem startStation_station (s : State) :
    (startStation s).sup.station = if s.sampling.ext.active then .safe else .run := by
  rw [startStation_eq]
  split
  exacts [enterSafe_station _, startEntered_station s]

theorem startStation_drivers (s : State) : (startStation s).drivers = {} := by
  have entered := startEntered_drivers s
  rw [startStation_eq]
  split
  · rw [enterSafe_drivers (by simp [entered]), entered]
  · exact entered

theorem startStation_needsToTop {s : State} (forced : s.drivers.inlet = .forcedOn) : NeedsToTop (startStation s) := by
  have entered := startEntered_needsToTop forced
  rw [startStation_eq]
  split
  exacts [enterSafe_needsToTop entered, entered]

theorem startStation_setpointStands (s : State) : SetpointStands (computeSetpoint s) (startStation s) := by
  have entered := startEntered_setpointStands s
  rw [startStation_eq]
  split
  exacts [entered.trans (enterSafe_setpointStands _), entered]

/-! ### O52 -/

theorem exec_start_addressed {h : Header} {s : State} (tag : Byte) (addressed : Addressed h s) :
    exec (.start h tag []) s =
      .next (withResult h 0x02#8 tag (startReply (atDispatch s)).code (startReply (atDispatch s)).data
        (startReply (atDispatch s)).state) :=
  (exec_row .start h tag [] s).trans
    (commandFrame_addressed addressed (c := .start) (p := startReply) rfl fun s => by simp)

/-- Settles O52: START's reply at each row of R62, and the RUN and the SAFE that it enters. -/
theorem start : Obligations.Start := by
  intro h tag s addressed
  rw [exec_start_addressed tag addressed, startReply]
  refine ⟨fun other => ?_, fun setup high => ?_, fun setup low => ⟨_, rfl, ?_⟩⟩
  · rw [if_pos (by simpa using other)]
    rfl
  · rw [if_neg (by simp [setup]), if_pos (by simpa using high)]
    rfl
  · rw [if_neg (by simp [setup]), if_neg (by simpa using Int.add_lt_of_lt_sub_right low)]
    have dispatched : (computeSetpoint (atDispatch s)).gas = (computeSetpoint s).gas :=
      computeSetpoint_gas_congr (by simp) (by simp) (by simp) (by simp)
    obtain ⟨setpoint, limitedLow, limitedHigh⟩ := startStation_setpointStands (atDispatch s)
    rw [dispatched] at setpoint limitedLow limitedHigh
    refine ⟨?station, ?drivers, fun clear => ?idle, fun forced _ other => ?need, ?_⟩
    case station => simpa [withResult, answer] using startStation_station (atDispatch s)
    case drivers => simpa [withResult, answer] using startStation_drivers (atDispatch s)
    case idle =>
      have entered := startStation_eq (atDispatch s)
      simpa [withResult, answer, entered, clear] using startEntered_idleCount (atDispatch s)
    case need =>
      have kept : NeedsToTop (startStation (atDispatch s)) := startStation_needsToTop (by simpa using forced)
      simp only [withResult, answer, updateLeak_gas, queueFrame_frame, updateLeak_frame] at other ⊢
      exact kept other
    simp only [withResult, answer, updateLeak_gas, queueFrame_frame, updateLeak_frame, updateLeak_setpoint,
      startStation_frame, startStation_log]
    exact ⟨setpoint, limitedLow, limitedHigh, by simp [atDispatch_rest]⟩

end Sys2Proof.Machine
end

section
/-! ## SETUP_ITEM (R59, R60, R16, R128): O51 -/

namespace Sys2Proof.Machine

/-! ### A value in two octets (R196) -/

/-- A word read from two octets and written again gives the two octets. -/
theorem be16_signed16 (hi lo : Byte) : be16 (twos 16 (signed16 hi lo)) = [hi, lo] := by
  have high := hi.isLt
  have low := lo.isLt
  have bits : (hi ++ lo).toNat = hi.toNat * 256 + lo.toNat := by
    rw [BitVec.toNat_append, ← Nat.shiftLeft_add_eq_or_of_lt low, Nat.shiftLeft_eq]
  have word : twos 16 (signed16 hi lo) = hi.toNat * 256 + lo.toNat := by
    rw [twos, signed16, BitVec.toInt_eq_toNat_cond, bits]
    split <;> omega
  rw [word, be16, byte, byte]
  congr 1
  · apply BitVec.eq_of_toNat_eq
    rw [BitVec.toNat_ofNat]
    omega
  · congr 1
    apply BitVec.eq_of_toNat_eq
    rw [BitVec.toNat_ofNat]
    omega

/-- A word with a high octet of 0 is its low octet. -/
theorem signed16_zero (lo : Byte) : signed16 0#8 lo = lo.toNat := by
  have low := lo.isLt
  rw [signed16, BitVec.toInt_eq_toNat_cond, BitVec.toNat_append, ← Nat.shiftLeft_add_eq_or_of_lt low]
  simp only [BitVec.toNat_ofNat, Nat.zero_mod, Nat.zero_shiftLeft]
  split <;> omega

/-! ### An item stored (R59) -/

theorem storeItem_held {item : ItemName} {v : Int} {s : State} (held : s.setup.get item = v) : storeItem item v s = s :=
  if_pos held

/-- An item that no block follows is stored and no more (R59). -/
theorem storeItem_plain {item : ItemName} {v : Int} {s : State} (gas : item ≠ .atmosphere ∧ item ≠ .reliefCeiling)
    (watch : item ≠ .watchReference ∧ item ≠ .watchSet) (other : s.setup.get item ≠ v) :
    storeItem item v s = s.mapSetup (·.put v item) := by
  obtain ⟨atmosphere, ceiling⟩ := gas
  obtain ⟨reference, set⟩ := watch
  rw [storeItem, if_neg other, if_neg (by simp [atmosphere, ceiling]), if_neg (by simp [reference, set])]

/-- Where no block follows the item, or its value is held, the setup items alone change (R59). -/
theorem storeItem_alone {item : ItemName} {v : Int} {s : State}
    (alone : (item ≠ .atmosphere ∧ item ≠ .reliefCeiling) ∧ item ≠ .watchReference ∧ item ≠ .watchSet ∨
      s.setup.get item = v) :
    storeItem item v s =
      { s with setup := if s.setup.get item = v then s.setup else s.setup.put v item } := by
  by_cases held : s.setup.get item = v
  · rw [storeItem_held held, if_pos held]
  · obtain ⟨gas, watch⟩ := alone.resolve_right held
    rw [storeItem_plain gas watch held, if_neg held]
    rfl

/-- The watch follows two sets, and the gas setpoint two numeric items (R16, R128). -/
theorem ItemName.unwatched_of_range {item : ItemName} {a b : Int} (values : item.values = .range a b) :
    item ≠ .watchReference ∧ item ≠ .watchSet := by
  constructor <;> rintro rfl <;> nomatch values

theorem ItemName.ungassed_of_members {item : ItemName} {n : Nat} (values : item.values = .members n) :
    item ≠ .atmosphere ∧ item ≠ .reliefCeiling := by
  constructor <;> rintro rfl <;> nomatch values

/-- Atmosphere and relief ceiling are stored with the gas setpoint refitted (R128). -/
theorem storeItem_refits {item : ItemName} {v : Int} {s : State} (gas : item = .atmosphere ∨ item = .reliefCeiling)
    (other : s.setup.get item ≠ v) : storeItem item v s = refitSetpoint (s.mapSetup (·.put v item)) := by
  rw [storeItem, if_neg other, if_pos gas]

/-- Watch set and watch reference are stored with the watch evaluated (R16). -/
theorem storeItem_watches {item : ItemName} {v : Int} {s : State} (watch : item = .watchSet ∨ item = .watchReference)
    (other : s.setup.get item ≠ v) : storeItem item v s = evaluateWatch (s.mapSetup (·.put v item)) := by
  rw [storeItem, if_neg other, if_neg (by rcases watch with rfl | rfl <;> simp), if_pos watch]

/-- A set written with the members it holds stands (R59). -/
theorem SetupItems.put_get {x : SetupItems} {item : ItemName} {n : Nat} (set : item.values = .members n) :
    x.put (x.get item) item = x := by
  cases item <;> simp_all [ItemName.values, SetupItems.put, SetupItems.get]

theorem refitSetpoint_computes {s : State} (inputs : handedTarget s ≠ none ∧ s.sampling.beer.filtered ≠ none) :
    refitSetpoint s = computeSetpoint s := by
  obtain ⟨target, temperature⟩ := inputs
  unfold refitSetpoint
  split
  · rfl
  · next none =>
    obtain ⟨v, hv⟩ := Option.ne_none_iff_exists'.1 target
    obtain ⟨t, ht⟩ := Option.ne_none_iff_exists'.1 temperature
    exact (none v t hv ht).elim

theorem refitSetpoint_clamps {s : State} (missing : ¬(handedTarget s ≠ none ∧ s.sampling.beer.filtered ≠ none)) :
    refitSetpoint s = s.mapGas fun g =>
      { g with setpoint := clamp 50 (s.setup.reliefCeiling - 200) g.setpoint,
               limitedHigh := g.limitedHigh || decide (s.setup.reliefCeiling - 200 < g.setpoint) } := by
  unfold refitSetpoint
  split
  · next present temperature => exact absurd ⟨by simp [present], by simp [temperature]⟩ missing
  · rfl

/-! ### SETUP_ITEM's reply (R59) -/

section
variable {code hi lo : Byte} {s : State} (setup : s.sup.station = .setup)
include setup

theorem setupItemReply_unnamed (unnamed : 26 ≤ code.toNat) :
    setupItemReply [code, hi, lo] s = refuse .badArgument s := by
  have none : itemNames[code.toNat]? = none := List.getElem?_eq_none unnamed
  rw [setupItemReply, if_neg (by simp [setup])]
  rw [none]

theorem setupItemReply_stored {item : ItemName} {v : Int} (named : itemNames[code.toNat]? = some item)
    (fits : item.values.fit (signed16 hi lo) = some v) :
    setupItemReply [code, hi, lo] s =
      { state := storeItem item v s, code := if v = signed16 hi lo then .done else .doneClamped,
        data := code :: be16 (twos 16 v) } := by
  rw [setupItemReply, if_neg (by simp [setup])]
  rw [named]
  dsimp only
  rw [fits]

theorem setupItemReply_unfit {item : ItemName} (named : itemNames[code.toNat]? = some item)
    (unfit : item.values.fit (signed16 hi lo) = none) :
    setupItemReply [code, hi, lo] s = refuse .badArgument s := by
  rw [setupItemReply, if_neg (by simp [setup])]
  rw [named]
  dsimp only
  rw [unfit]

end

theorem exec_setupItem_addressed {h : Header} {s : State} (tag code hi lo : Byte) (addressed : Addressed h s) :
    exec (.setupItem h tag [code, hi, lo]) s =
      .next (withResult h 0x01#8 tag (setupItemReply [code, hi, lo] (atDispatch s)).code
        (setupItemReply [code, hi, lo] (atDispatch s)).data (setupItemReply [code, hi, lo] (atDispatch s)).state) :=
  (exec_row .setupItem h tag [code, hi, lo] s).trans
    (commandFrame_addressed addressed (c := .setupItem) (p := setupItemReply [code, hi, lo]) rfl fun s => by simp)

/-- A value that its item can hold is stored, and the RESULT tells of it (R59). -/
theorem exec_setupItem_stored {h : Header} {s : State} {item : ItemName} {code hi lo : Byte} {v : Int} (tag : Byte)
    (addressed : Addressed h s) (setup : s.sup.station = .setup) (named : itemNames[code.toNat]? = some item)
    (fits : item.values.fit (signed16 hi lo) = some v) :
    exec (.setupItem h tag [code, hi, lo]) s =
      .next (withResult h 0x01#8 tag (if v = signed16 hi lo then .done else .doneClamped) (code :: be16 (twos 16 v))
        (storeItem item v (atDispatch s))) := by
  rw [exec_setupItem_addressed tag code hi lo addressed, setupItemReply_stored (by simpa using setup) named fits]

theorem exec_setupItem_unfit {h : Header} {s : State} {item : ItemName} {code hi lo : Byte} (tag : Byte)
    (addressed : Addressed h s) (setup : s.sup.station = .setup) (named : itemNames[code.toNat]? = some item)
    (unfit : item.values.fit (signed16 hi lo) = none) :
    exec (.setupItem h tag [code, hi, lo]) s = .next (withResult h 0x01#8 tag .badArgument [] (atDispatch s)) := by
  rw [exec_setupItem_addressed tag code hi lo addressed, setupItemReply_unfit (by simpa using setup) named unfit]
  rfl

/-! ### The items that a block follows (R16, R128) -/

/-- A relief ceiling other than the one held, with the setpoint computed or brought beneath it (R128). -/
theorem storeItem_ceiling {s : State} {v : Int} (range : 1000 ≤ v) (other : v ≠ s.setup.reliefCeiling) :
    (handedTarget s ≠ none ∧ s.sampling.beer.filtered ≠ none →
      storeItem .reliefCeiling v s = computeSetpoint { s with setup := { s.setup with reliefCeiling := v } }) ∧
    (¬(handedTarget s ≠ none ∧ s.sampling.beer.filtered ≠ none) →
      storeItem .reliefCeiling v s =
        { s with setup := { s.setup with reliefCeiling := v },
                 gas := { s.gas with setpoint := max 50 (min (v - 200) s.gas.setpoint),
                                     limitedHigh := s.gas.limitedHigh || decide (v - 200 < s.gas.setpoint) } }) := by
  rw [storeItem_refits (.inr rfl) (Ne.symm other)]
  refine ⟨fun inputs => refitSetpoint_computes inputs, fun missing => ?_⟩
  rw [refitSetpoint_clamps (by exact missing), ← clamp_eq_max_min (by omega)]
  rfl

/-- Another atmosphere, with the setpoint computed; without the inputs one in its range stands (R128). -/
theorem storeItem_atmosphere {s : State} {v : Int} (other : v ≠ s.setup.atmosphere) :
    (handedTarget s ≠ none ∧ s.sampling.beer.filtered ≠ none →
      storeItem .atmosphere v s = computeSetpoint { s with setup := { s.setup with atmosphere := v } }) ∧
    (¬(handedTarget s ≠ none ∧ s.sampling.beer.filtered ≠ none) → 50 ≤ s.gas.setpoint →
      s.gas.setpoint ≤ s.setup.reliefCeiling - 200 →
      storeItem .atmosphere v s = { s with setup := { s.setup with atmosphere := v } }) := by
  rw [storeItem_refits (.inl rfl) (Ne.symm other)]
  refine ⟨fun inputs => refitSetpoint_computes inputs, fun missing low high => ?_⟩
  have within : clamp 50 (s.setup.reliefCeiling - 200) s.gas.setpoint = s.gas.setpoint := clamp_of_between low high
  rw [refitSetpoint_clamps (by exact missing)]
  simp [State.mapGas, State.mapSetup, SetupItems.put, within, not_lt.2 high]

/-- Another watch set or watch reference has the watch evaluated, in SETUP with no frame but its ALARMs (R16). -/
theorem evaluateWatch_stored {s : State} {x : SetupItems} (taken : s.sampling.levelsTaken = true) :
    let w := evaluateWatch { s with setup := x }
    (w.sampling.watch = .tripped ↔ watchMismatch w = true) ∧ w.setup = x ∧
      w.sampling = { s.sampling with watch := w.sampling.watch } ∧
      (∀ a : Alarm, a ≠ .watch →
        hasAlarm w.sup.active a = hasAlarm s.sup.active a ∧ hasAlarm w.sup.latched a = hasAlarm s.sup.latched a) ∧
      w.sup.station = s.sup.station ∧ w.gas = s.gas ∧ w.draw = s.draw ∧ w.disp = s.disp ∧ w.seq = s.seq ∧
      w.temp = s.temp ∧ w.cool = s.cool ∧ w.drivers = s.drivers := by
  intro w
  have sampling : w.sampling = { s.sampling with watch := w.sampling.watch } := evaluateWatch_sampling _
  have mismatch : watchMismatch w = watchMismatch { s with setup := x } :=
    watchMismatch_congr (by rw [sampling]; rfl) (by simp [w])
  refine ⟨?_, by simp [w], sampling, fun a other => evaluateWatch_otherAlarms other _, by simp [w]⟩
  rw [mismatch]
  exact evaluateWatch_tripped taken

/-! ### O51 -/

/-- Settles O51: SETUP_ITEM's reply by the kind of the item, and what the blocks make of the items that they follow. -/
theorem setupItems : Obligations.SetupItems := by
  refine ⟨fun h tag code hi lo s addressed => ⟨?refused, ?unnamed, ?range, ?members, ?idle⟩,
    fun h tag hi lo s addressed setup => ⟨?ceiling, ?atmosphere, ?watch⟩⟩
  case refused =>
    intro other
    rw [exec_setupItem_addressed tag code hi lo addressed, setupItemReply, if_pos (by simpa using other)]
    rfl
  case unnamed =>
    intro setup unnamed
    rw [exec_setupItem_addressed tag code hi lo addressed, setupItemReply_unnamed (by simpa using setup) unnamed]
    rfl
  case range =>
    intro item a b setup named values v plain
    have fits : item.values.fit (signed16 hi lo) = some v := by
      rw [values, ItemValues.fit, clamp_eq_max_min (item.range_le values)]
    have alone := plain.imp_left fun gas => And.intro gas (item.unwatched_of_range values)
    rw [exec_setupItem_stored tag addressed setup named fits, storeItem_alone (by simpa using alone)]
    simp only [atDispatch_frame]
  case members =>
    intro item n setup named values
    refine ⟨fun outside => ?_, fun low high plain => ?_⟩
    · refine exec_setupItem_unfit tag addressed setup named ?_
      rw [values, ItemValues.fit, if_neg]
      push_cast
      omega
    · have fits : item.values.fit (signed16 hi lo) = some (signed16 hi lo) := by
        rw [values, ItemValues.fit, if_pos ⟨low, by push_cast; exact high⟩]
      have alone := plain.imp_left (And.intro (item.ungassed_of_members values))
      have stored : (if s.setup.get item = signed16 hi lo then s.setup else s.setup.put (signed16 hi lo) item) =
          s.setup.put (signed16 hi lo) item := by
        split
        · next held => rw [← held, SetupItems.put_get values]
        · rfl
      rw [exec_setupItem_stored tag addressed setup named fits, if_pos rfl, be16_signed16,
        storeItem_alone (by simpa using alone)]
      simp only [atDispatch_frame, stored]
  case idle =>
    rintro setup rfl x v
    have fits : ItemName.idlePeriod.values.fit x = some v := rfl
    have stored : (if s.setup.get .idlePeriod = v then s.setup else s.setup.put v .idlePeriod) =
        { s.setup with idlePeriod := v.toNat } := by
      split
      · next held =>
        have same : v.toNat = s.setup.idlePeriod := by rw [← held]; rfl
        rw [same]
      · rfl
    rw [exec_setupItem_stored tag addressed setup (item := .idlePeriod) rfl fits,
      storeItem_alone (.inl (by simp))]
    simp only [atDispatch_frame, stored]
    rfl
  case ceiling =>
    intro v s' other
    have fits : ItemName.reliefCeiling.values.fit (signed16 hi lo) = some v :=
      congrArg some (clamp_eq_max_min (by decide) _)
    have stored := storeItem_ceiling (s := atDispatch s) (v := v) (le_max_left _ _) (by simpa using other)
    obtain ⟨computes, clamps⟩ := stored
    rw [exec_setupItem_stored tag addressed setup (item := .reliefCeiling) rfl fits]
    have held : (atDispatch s).setup = s.setup := by simp
    have gas : (atDispatch s).gas = s.gas := by simp
    rw [held] at computes clamps
    rw [gas] at clamps
    exact ⟨fun inputs => by rw [computes (by simpa [handedTarget] using inputs)],
      fun missing => by rw [clamps (by simpa [handedTarget] using missing)]⟩
  case atmosphere =>
    intro v s' other
    have fits : ItemName.atmosphere.values.fit (signed16 hi lo) = some v :=
      congrArg some (clamp_eq_max_min (by decide) _)
    have stored := storeItem_atmosphere (s := atDispatch s) (v := v) (by simpa using other)
    obtain ⟨computes, stands⟩ := stored
    rw [exec_setupItem_stored tag addressed setup (item := .atmosphere) rfl fits]
    have held : (atDispatch s).setup = s.setup := by simp
    rw [held] at computes stands
    exact ⟨fun inputs => by rw [computes (by simpa [handedTarget] using inputs)],
      fun missing low high => by
        rw [stands (by simpa [handedTarget] using missing) (by simpa using low) (by simpa using high)]⟩
  case watch =>
    rintro code which taken rfl small set x changed
    obtain ⟨item, named, watched, members, put⟩ : ∃ item : ItemName, itemNames[code.toNat]? = some item ∧
        (item = .watchSet ∨ item = .watchReference) ∧ item.values = .members 4 ∧ s.setup.put lo.toNat item = x := by
      rcases which with rfl | rfl
      · exact ⟨.watchReference, rfl, .inr rfl, rfl, by simp [SetupItems.put, x, set]⟩
      · exact ⟨.watchSet, rfl, .inl rfl, rfl, by simp [SetupItems.put, x, set]⟩
    have fits : item.values.fit (signed16 0#8 lo) = some (lo.toNat : Int) := by
      rw [members, signed16_zero, ItemValues.fit, if_pos (by omega)]
    have other : (atDispatch s).setup.get item ≠ lo.toNat := by
      intro held
      rw [show (atDispatch s).setup = s.setup by simp] at held
      rw [← put, ← held, SetupItems.put_get members] at changed
      exact changed rfl
    have stored : storeItem item lo.toNat (atDispatch s) = evaluateWatch { atDispatch s with setup := x } := by
      rw [storeItem_watches watched other, ← put, ← show (atDispatch s).setup = s.setup by simp]
      rfl
    have told : code :: be16 (twos 16 (lo.toNat : Int)) = [code, 0#8, lo] := by
      rw [← signed16_zero, be16_signed16]
    obtain ⟨tripped, setup', sampling, alarms, station, gas, draw, disp, seq, temp, cool, drivers⟩ :=
      evaluateWatch_stored (s := atDispatch s) (x := x) (by simpa using taken)
    refine ⟨_, tripped, ?_, setup', by simpa using sampling, fun a b => by simpa [atDispatch] using alarms a b,
      by simp [setup], ?_⟩
    · rw [exec_setupItem_stored tag addressed setup named fits, signed16_zero, if_pos rfl, told, stored]
    · rw [gas, draw, disp, seq, temp, cool, drivers]
      simp [atDispatch]

end Sys2Proof.Machine
end

section
/-! ## What only certain commands change (R3, R4, R40, R56, R59, R61, R65, R69, R176): O2 -/

namespace Sys2Proof.Machine

/-! ### All of it stands -/

/-- The queue of commands, identity, held part, setup items, banks, time base, keg level and relief ceiling in force stand,
and SILENT stays. -/
def Stands (s t : State) : Prop :=
  (t.pending = s.pending ∧ t.ident = s.ident) ∧ t.held = s.held ∧ t.setup = s.setup ∧
    (t.seq.bankA = s.seq.bankA ∧ t.seq.bankB = s.seq.bankB) ∧ t.time = s.time ∧ t.disp.level = s.disp.level ∧
    t.gas.ceiling = s.gas.ceiling ∧ (s.link.silent = true → t.link.silent = true)

theorem Stands.refl (s : State) : Stands s s := ⟨⟨rfl, rfl⟩, rfl, rfl, ⟨rfl, rfl⟩, rfl, rfl, rfl, id⟩

/-- What the command `c` may leave changed from `s` to `t`, where it is neither POWER_ON nor RSTN held low. -/
def Kept (c : Instr) (s t : State) : Prop :=
  (t.pending = s.pending ∧ t.ident = s.ident) ∧ t.held = s.held ∧
    ((∀ h g a, c ≠ .setupItem h g a) → t.setup = s.setup) ∧
    ((∀ h g a, c ≠ .writeStep h g a) → t.seq.bankA = s.seq.bankA ∧ t.seq.bankB = s.seq.bankB) ∧
    ((∀ p, c ≠ .event10ms p) → (∀ n b, c ≠ .event100ms n b) → (∀ m n, c ≠ .event1s m n) →
      (∀ b, c ≠ .event1min b) → c ≠ .event1h → t.time = s.time) ∧ (TimeOk s.time → TimeOk t.time) ∧
    ((∀ h g a, c ≠ .setLevel h g a) → c ≠ .tailTimerEnd → (∀ h g a, c ≠ .restart h g a) →
      t.disp.level = s.disp.level) ∧
    ((∀ n b, c ≠ .event100ms n b) → (∀ h g a, c ≠ .restart h g a) → t.gas.ceiling = s.gas.ceiling) ∧
    ((∀ h g a, c ≠ .restart h g a) → s.link.silent = true → t.link.silent = true)

section
variable {c : Instr} {s t : State}

theorem Stands.kept (h : Stands s t) (c : Instr) : Kept c s t := by
  obtain ⟨idle, held, setup, banks, time, level, ceiling, silent⟩ := h
  exact ⟨idle, held, fun _ => setup, fun _ => banks, fun _ _ _ _ _ => time, fun ok => time ▸ ok, fun _ _ _ => level,
    fun _ _ => ceiling, fun _ => silent⟩

theorem Kept.refl (c : Instr) (s : State) : Kept c s s := (Stands.refl s).kept c

theorem Kept.trans {u : State} (h : Kept c s t) (k : Kept c t u) : Kept c s u := by
  obtain ⟨⟨pending, ident⟩, held, setup, banks, time, clock, level, ceiling, silent⟩ := h
  obtain ⟨⟨pending', ident'⟩, held', setup', banks', time', clock', level', ceiling', silent'⟩ := k
  refine ⟨⟨pending'.trans pending, ident'.trans ident⟩, held'.trans held, fun a => (setup' a).trans (setup a), fun a => ?_,
    fun a b c d e => (time' a b c d e).trans (time a b c d e), clock' ∘ clock,
    fun a b c => (level' a b c).trans (level a b c), fun a b => (ceiling' a b).trans (ceiling a b),
    fun a => silent' a ∘ silent a⟩
  obtain ⟨bankA, bankB⟩ := banks a
  obtain ⟨bankA', bankB'⟩ := banks' a
  exact ⟨bankA'.trans bankA, bankB'.trans bankB⟩

theorem Kept.stands {u : State} (h : Kept c s t) (k : Stands t u) : Kept c s u := h.trans (k.kept c)

/-- A row that acts only on its occasion. -/
theorem Kept.ite {u : State} {p : Prop} [Decidable p] (h : Kept c s t) (acts : Kept c s u) :
    Kept c s (if p then u else t) := by
  split
  exacts [acts, h]

end

theorem duplicateHeard_stands (s : State) : Stands s (duplicateHeard s) := by
  unfold Stands duplicateHeard
  split
  · simp
  · simp

theorem discardFrame_stands (rx : Reception) (s : State) : Stands s (discardFrame rx s) := by
  have heard : Stands s (duplicateHeard (endReception s)) := by
    simpa [Stands] using duplicateHeard_stands (endReception s)
  rcases discardFrame_cases rx s with e | e | e | e | e <;> rw [e]
  · exact .refl s
  · simp [Stands]
  · exact heard
  all_goals simp [Stands]

theorem pressHandle_stands (s : State) : Stands s (pressHandle s) := by
  have joined (r : PourRecord) (d : Dispense) : (d.joinLog r).level = d.level := by
    unfold Dispense.joinLog
    (repeat' split) <;> rfl
  have level (x : State) : (requestPour x).disp.level = x.disp.level := by
    unfold requestPour grantPour pourStateChanged
    split
    · exact joined _ _
    · simp
  have pressed : (pressHandle s).disp.level = s.disp.level := by
    unfold pressHandle
    dsimp only
    split <;> simp [level]
  simp [Stands, pressed]

/-! ### The commands -/

theorem startStation_ceiling (s : State) : (startStation s).gas.ceiling = s.gas.ceiling := by
  obtain ⟨-, -, gas, -⟩ := startReady_frame s
  rw [startStation_eq]
  split <;> simp [startEntered, gas]

theorem startReply_stands (s : State) : Stands s (startReply s).state := by
  unfold startReply
  (repeat' split)
  exacts [.refl s, .refl s, by simp [Stands, answer, startStation_ceiling]]

theorem dropPoursReply_stands (args : List Byte) (s : State) : Stands s (dropPoursReply args s).state := by
  unfold dropPoursReply
  split
  exacts [.refl s, .refl s]

theorem CommandName.reply_stands {n : CommandName} (args : List Byte) (s : State) (setup : n ≠ .setupItem)
    (banks : n ≠ .writeStep) (level : n ≠ .setLevel) (restart : n ≠ .restart) : Stands s (n.reply args s).state := by
  cases n <;> dsimp only [CommandName.reply]
  case setupItem => exact absurd rfl setup
  case writeStep => exact absurd rfl banks
  case setLevel => exact absurd rfl level
  case restart => exact absurd rfl restart
  case start => exact startReply_stands s
  case dropPours => exact dropPoursReply_stands args s
  all_goals simp [Stands, answer]

section
variable {h : Header} {tag : Byte} {args : List Byte}

/-- SETUP_ITEM leaves the relief ceiling in force as it is (R61). -/
theorem setupItemReply_ceiling (x : List Byte) (s : State) : (setupItemReply x s).state.gas.ceiling = s.gas.ceiling := by
  unfold setupItemReply storeItem
  (repeat' split) <;> simp [refuse]

theorem setupItemReply_kept (x : List Byte) (s : State) : Kept (.setupItem h tag args) s (setupItemReply x s).state :=
  ⟨by simp, by simp, fun other => absurd rfl (other _ _ _), fun _ => by simp, fun _ _ _ _ _ => by simp,
    fun ok => by simpa using ok, fun _ _ _ => by simp, fun _ _ => setupItemReply_ceiling x s, fun _ => by simp⟩

theorem writeStepReply_kept (x : List Byte) (s : State) : Kept (.writeStep h tag args) s (writeStepReply x s).state :=
  ⟨by simp, by simp, fun _ => by simp, fun other => absurd rfl (other _ _ _), fun _ _ _ _ _ => by simp,
    fun ok => by simpa using ok, fun _ _ _ => by simp, fun _ _ => by simp, fun _ => by simp⟩

theorem setLevelReply_kept (x : List Byte) (s : State) : Kept (.setLevel h tag args) s (setLevelReply x s).state :=
  ⟨by simp, by simp, fun _ => by simp, fun _ => by simp, fun _ _ _ _ _ => by simp, fun ok => by simpa using ok,
    fun other => absurd rfl (other _ _ _), fun _ _ => by simp, fun _ => by simp⟩

/-- RESTART keeps what R65 lists; it is taken by a part that is not held. -/
theorem restartStation_kept {s : State} (up : s.held = false) : Kept (.restart h tag args) s (restartStation s) := by
  obtain ⟨ident, setup, time, bankA, bankB, -⟩ := restartStation_keeps s
  have ended : (endPourAtRestart s).pending = s.pending := by
    unfold endPourAtRestart
    split <;> rfl
  have pending : (restartStation s).pending = s.pending := by
    simp [restartStation, wakeBlocks, restartValues, ended]
  have held : (restartStation s).held = s.held := by
    simp [restartStation, wakeBlocks, restartValues, powerOnValues, up]
  exact ⟨⟨pending, ident⟩, held, fun _ => setup, fun _ => ⟨bankA, bankB⟩, fun _ _ _ _ _ => time, fun ok => time ▸ ok,
    fun _ _ other => absurd rfl (other _ _ _), fun _ other => absurd rfl (other _ _ _),
    fun other => absurd rfl (other _ _ _)⟩

/-- What each COMMAND's reply leaves, its own row may not (R59, R65, R69, R176). -/
theorem CommandName.reply_kept (n : CommandName) {s : State} (up : s.held = false) :
    Kept (n.row h tag args) s (n.reply args s).state := by
  cases n
  case setupItem => exact setupItemReply_kept args s
  case writeStep => exact writeStepReply_kept args s
  case setLevel => exact setLevelReply_kept args s
  case restart => exact restartStation_kept up
  all_goals
    refine Stands.kept (reply_stands args s ?_ ?_ ?_ ?_) _
    all_goals nofun

theorem Kept.acceptFrame {c : Instr} {act : State → State} (acts : ∀ x, Kept c x (act x)) (s : State) :
    Kept c s (acceptFrame h act s) :=
  acceptFrame_keeps (fun _ _ kept => kept.stands (by simp [Stands]))
    (fun _ kept => kept.stands (duplicateHeard_stands _)) (fun x _ _ kept => kept.trans (acts x)) (.refl c s)

theorem CommandName.frame_kept (n : CommandName) {s : State} (up : s.held = false) :
    Kept (n.row h tag args) s (commandFrame n h tag args (n.reply args) s) :=
  commandFrame_keeps (fun _ _ kept => kept.stands (by simp [Stands]))
    (fun _ kept => kept.stands (duplicateHeard_stands _)) (fun _ kept => kept.stands (by simp [Stands]))
    (fun _ _ kept => kept.stands (by simp [Stands]))
    (fun x kept => kept.trans (n.reply_kept (kept.2.1.trans up))) (.refl _ s)

end

/-! ### The events of the time base (R3, R4) -/

/-- The divider chain keeps its counts below their dividers, and its events where its place makes them fall (R3). -/
theorem timeOk_advance {t : TimeBase} (ok : TimeOk t) : TimeOk t.advance := by
  obtain ⟨tens, hundreds, seconds, minutes, -⟩ := ok
  obtain ⟨phase, due100ms, due1s, due1min, due1h⟩ := t.advance_phase tens hundreds seconds minutes
  refine ⟨?_, ?_, ?_, ?_, fun due => ?_, fun due => ?_, fun due => ?_, fun due => ?_⟩
  · dsimp only [TimeBase.advance]
    split <;> simp only [decide_eq_true_eq] at * <;> omega
  · dsimp only [TimeBase.advance]
    (repeat' split) <;> simp only [Bool.and_eq_true, decide_eq_true_eq] at * <;> omega
  · dsimp only [TimeBase.advance]
    (repeat' split) <;> simp only [Bool.and_eq_true, decide_eq_true_eq] at * <;> omega
  · dsimp only [TimeBase.advance]
    (repeat' split) <;> simp only [Bool.and_eq_true, decide_eq_true_eq] at * <;> omega
  · have := due100ms.1 due
    omega
  · have := due1s.1 due
    omega
  · have := due1min.1 due
    omega
  · have := due1h.1 due
    omega

/-- A coarser event taken, and the uptime counted, leave the divider chain (R3, R4). -/
theorem TimeOk.taken {t u : TimeBase} (ok : TimeOk t)
    (counts : u.tens = t.tens ∧ u.hundreds = t.hundreds ∧ u.seconds = t.seconds ∧ u.minutes = t.minutes)
    (due : (u.due100ms = true → t.due100ms = true) ∧ (u.due1s = true → t.due1s = true) ∧
      (u.due1min = true → t.due1min = true) ∧ (u.due1h = true → t.due1h = true)) : TimeOk u := by
  obtain ⟨tens, hundreds, seconds, minutes⟩ := counts
  obtain ⟨due100ms, due1s, due1min, due1h⟩ := due
  have phase : u.phase = t.phase := by simp only [TimeBase.phase, tens, hundreds, seconds, minutes]
  obtain ⟨ok0, ok1, ok2, ok3, ok4, ok5, ok6, ok7⟩ := ok
  unfold TimeOk
  rw [phase, tens, hundreds, seconds, minutes]
  exact ⟨ok0, ok1, ok2, ok3, ok4 ∘ due100ms, ok5 ∘ due1s, ok6 ∘ due1min, ok7 ∘ due1h⟩

section
variable {s : State}

theorem tenMsEvent_kept (p : SwitchPins) : Kept (.event10ms p) s (tenMsEvent p s) := by
  refine ⟨by simp, by simp, fun _ => by simp, fun _ => by simp, fun other => absurd rfl (other p), fun ok => ?_,
    fun _ _ _ => by simp, fun _ _ => by simp, fun _ => by simp⟩
  have time : (tenMsEvent p s).time = s.time.advance := by
    unfold tenMsEvent
    dsimp only
    split <;> simp
  exact time ▸ timeOk_advance ok

theorem hundredMsEvent_kept (n : Nat) (b : Bool) : Kept (.event100ms n b) s (hundredMsEvent n b s) := by
  refine ⟨by simp, by simp, fun _ => by simp, fun _ => by simp, fun _ other => absurd rfl (other n b), fun ok => ?_,
    fun _ _ _ => by simp, fun other => absurd rfl (other n b), fun _ => by simp⟩
  have time : (hundredMsEvent n b s).time = { s.time with due100ms := false } := by
    unfold hundredMsEvent
    dsimp only
    split <;> simp
  exact ok.taken (by simp [time]) (by simp [time])

theorem oneSecondEvent_kept (m n : Nat) : Kept (.event1s m n) s (oneSecondEvent m n s) := by
  refine ⟨by simp, by simp, fun _ => by simp, fun _ => by simp, fun _ _ other => absurd rfl (other m n), fun ok => ?_,
    fun _ _ _ => by simp, fun _ _ => by simp, fun _ => by simp⟩
  have time : (oneSecondEvent m n s).time = { s.time with due1s := false } := by simp [oneSecondEvent]
  exact ok.taken (by simp [time]) (by simp [time])

theorem oneMinuteEvent_kept (b : Bool) : Kept (.event1min b) s (oneMinuteEvent b s) := by
  refine ⟨by simp, by simp, fun _ => by simp, fun _ => by simp, fun _ _ _ other => absurd rfl (other b), fun ok => ?_,
    fun _ _ _ => by simp, fun _ _ => by simp, fun _ => by simp⟩
  have time : (oneMinuteEvent b s).time = { s.time with due1min := false, uptime := nextUptime s.time.uptime } := by
    unfold oneMinuteEvent
    dsimp only
    split <;> simp
  exact ok.taken (by simp [time]) (by simp [time])

theorem oneHourEvent_kept : Kept .event1h s (oneHourEvent s) := by
  refine ⟨by simp, by simp, fun _ => by simp, fun _ => by simp, fun _ _ _ _ other => absurd rfl other, fun ok => ?_,
    fun _ _ _ => by simp, fun _ _ => by simp, fun _ => by simp⟩
  have time : (oneHourEvent s).time = { s.time with due1h := false } := by
    unfold oneHourEvent
    dsimp only
    split <;> simp
  exact ok.taken (by simp [time]) (by simp [time])

/-- The end of a tail takes the pour's volume from the keg (R173). -/
theorem completePour_kept : Kept .tailTimerEnd s (completePour s) :=
  ⟨by simp, by simp, fun _ => by simp, fun _ => by simp, fun _ _ _ _ _ => by simp, fun ok => by simpa using ok,
    fun _ other => absurd rfl other, fun _ _ => by simp, fun _ => by simp⟩

end

/-! ### Every command -/

/-- Every command answers a next state (R3). -/
theorem exec_total (c : Instr) (s : State) : ∃ t, exec c s = .next t := by
  cases c <;> exact ⟨_, rfl⟩

/-- Every command but POWER_ON and RSTN held low changes what is its own to change. -/
theorem kept_exec {c : Instr} {s t : State} (next : exec c s = .next t) (on : ∀ p, c ≠ .powerOn p)
    (off : c ≠ .rstnHeldLow) : Kept c s t := by
  have leak (x : State) (kept : Kept c s x) : Kept c s (updateLeak x) := kept.stands (by simp [Stands])
  have command {n : CommandName} {h : Header} {tag : Byte} {args : List Byte} (row : c = n.row h tag args) :
      Kept c s t := by
    subst row
    exact perform_keeps (P := Kept _ s) ((exec_row n h tag args s).symm.trans next) leak
      (fun up _ => n.frame_kept up) (.refl _ s)
  cases c <;> have run := next <;> dsimp only [exec] at run
  case powerOn p => exact absurd rfl (on p)
  case rstnHeldLow => exact absurd rfl off
  case setupItem => exact command (n := .setupItem) rfl
  case start => exact command (n := .start) rfl
  case restart => exact command (n := .restart) rfl
  case forceOutput => exact command (n := .forceOutput) rfl
  case writeStep => exact command (n := .writeStep) rfl
  case readStep => exact command (n := .readStep) rfl
  case switchBank => exact command (n := .switchBank) rfl
  case advance => exact command (n := .advance) rfl
  case pauseProfile => exact command (n := .pauseProfile) rfl
  case resumeProfile => exact command (n := .resumeProfile) rfl
  case stopProfile => exact command (n := .stopProfile) rfl
  case clearSupply => exact command (n := .clearSupply) rfl
  case setLevel => exact command (n := .setLevel) rfl
  case armPortion => exact command (n := .armPortion) rfl
  case readPour => exact command (n := .readPour) rfl
  case dropPours => exact command (n := .dropPours) rfl
  case readView => exact command (n := .readView) rfl
  case quiet => exact command (n := .quiet) rfl
  case wake => exact command (n := .wake) rfl
  case clearAlarms => exact command (n := .clearAlarms) rfl
  case leaveSafe => exact command (n := .leaveSafe) rfl
  all_goals refine perform_keeps (P := Kept _ s) run leak (fun _ kept => ?_) (.refl _ s)
  case event10ms p _ => exact (tenMsEvent_kept p).ite kept
  case event100ms n b _ => exact kept.ite (hundredMsEvent_kept n b)
  case event1s m n _ => exact kept.ite (oneSecondEvent_kept m n)
  case event1min b _ => exact kept.ite (oneMinuteEvent_kept b)
  case event1h => exact kept.ite oneHourEvent_kept
  case tailTimerEnd => exact kept.ite completePour_kept
  case frameDiscarded rx _ => exact (discardFrame_stands rx s).kept _
  case receiveBayState | receiveDraw | receiveCoolCap | receivePour | receiveGroupSync | unknownCommand =>
    refine Kept.acceptFrame (fun x => Stands.kept ?_ _) s
    (repeat' split) <;> simp [Stands, queueResult, refuse]
  case auxLineChange line _ => cases line <;> exact kept.ite (kept.stands (by simp [Stands]))
  case handlePress => exact kept.ite (kept.stands (pressHandle_stands s))
  case handleRelease | extStopActive | extStopInactive | heaterOnTimeEnd | glycolOpenTimeEnd | reportTimer
      | idleTimerExpiry | pulseTimerEnd | settleEnd | settleWindowEnd | keepTimerPeriod | backoffEnd | recoverEnd
      | stallTimerStart | stallTimerEnd | lowPressureTimerEnd | portionExpiry | busIdle | txAttemptStart
      | firstStartBit =>
    exact kept.ite (kept.stands (by simp [Stands]))
  case flowPulse | durationElapsed | peerPartExpiry => exact kept.stands (by simp [Stands])
  case arbitrationLost | bitError =>
    split
    exacts [kept, kept.ite (kept.stands (by simp [Stands, Link.yieldBus]))]
  case frameSent =>
    split
    exacts [kept.stands (by simp [Stands]), kept]

/-- Neither POWER_ON nor RSTN held low touches the queue of commands; the identity stands but at POWER_ON (R3, R56). -/
theorem exec_idle {c : Instr} {s t : State} (next : exec c s = .next t) :
    t.pending = s.pending ∧ ((∀ p, c ≠ .powerOn p) → t.ident = s.ident) := by
  by_cases on : ∃ p, c = .powerOn p
  · obtain ⟨p, rfl⟩ := on
    cases next
    exact ⟨by rw [powerOn_eq], fun other => absurd rfl (other p)⟩
  · by_cases off : c = .rstnHeldLow
    · subst off
      cases next
      exact ⟨rfl, fun _ => rfl⟩
    · obtain ⟨⟨pending, ident⟩, -⟩ := kept_exec next (not_exists.1 on) off
      exact ⟨pending, fun _ => ident⟩

/-- Settles O2: what every command leaves, its own row may not. -/
theorem whatOnlyCertainCommandsChange : Obligations.WhatOnlyCertainCommandsChange := by
  intro c s
  obtain ⟨t, next⟩ := exec_total c s
  obtain ⟨pending, ident⟩ := exec_idle next
  refine ⟨t, next, pending, ident, fun on off => ?_⟩
  obtain ⟨-, kept⟩ := kept_exec next on off
  exact kept

end Sys2Proof.Machine
end

section
/-! ## The 100 ms event (R10, R11, R61, R130 to R137, R147, R148, R157, R171): O26

### The urgency and the need through the coordinator's operations (R146, R147) -/

namespace Sys2Proof.Machine

@[simp] theorem makeClaim_urgency (s : State) : (makeClaim s).draw.urgency = s.draw.urgency := by
  unfold makeClaim
  dsimp only
  split <;> simp [Draw.enter]

@[simp] theorem examine_urgency (s : State) : (examine s).draw.urgency = s.draw.urgency := by
  unfold examine
  dsimp only
  (repeat' split) <;> simp

@[simp] theorem contendAgain_urgency (s : State) : (contendAgain s).draw.urgency = s.draw.urgency := by
  unfold contendAgain enterWaiting
  split <;> simp [Draw.enter]

/-- The urgency formed is the present one (R147). -/
@[simp] theorem formUrgency_urgency (s : State) : (formUrgency s).draw.urgency = presentUrgency s := by
  unfold formUrgency shortenBackoff
  dsimp only
  split
  · next same => exact same.symm
  · (repeat' split) <;> simp

@[simp] theorem supplyTest_urgency (s : State) : (supplyTest s).draw.urgency = s.draw.urgency := by
  unfold supplyTest releaseToRecover
  dsimp only
  (repeat' split) <;> simp [Draw.enter]

@[simp] theorem supplyTest_need (s : State) : (supplyTest s).draw.need = s.draw.need := by
  unfold supplyTest releaseToRecover
  dsimp only
  (repeat' split) <;> simp [Draw.enter]

@[simp] theorem needArrives_urgency (s : State) : (needArrives s).draw.urgency = s.draw.urgency := by
  unfold needArrives enterWaiting
  dsimp only
  (repeat' split) <;> simp [Draw.enter]

@[simp] theorem needEnds_urgency (s : State) : (needEnds s).draw.urgency = s.draw.urgency := by
  unfold needEnds
  dsimp only
  (repeat' split) <;> simp [Draw.enter]

/-- What the urgency is formed from (R147). -/
theorem presentUrgency_congr {s t : State} (station : t.sup.station = s.sup.station) (seq : t.seq = s.seq)
    (disp : t.disp = s.disp) (sampling : t.sampling = s.sampling) (setup : t.setup = s.setup) :
    presentUrgency t = presentUrgency s := by
  unfold presentUrgency handedMode
  rw [station, seq, disp, sampling, setup]

/-- The urgency at a hand-over is the present one (R147). -/
@[simp] theorem coordinatorHandOver_urgency (w : Bool) (s : State) :
    (coordinatorHandOver w s).draw.urgency = presentUrgency s := by
  have formed : presentUrgency (updateLockouts s) = presentUrgency s :=
    presentUrgency_congr (by simp) (by simp) (by simp) (by simp) (by simp)
  unfold coordinatorHandOver
  dsimp only
  split <;> simp [formed]

@[simp] theorem coordinatorHandOver_need (w : Bool) (s : State) :
    (coordinatorHandOver w s).draw.need = s.draw.need := by
  unfold coordinatorHandOver
  dsimp only
  split <;> simp

@[simp] theorem coordinatorHandOver_causes (w : Bool) (s : State) :
    (coordinatorHandOver w s).draw.causes = formCauses s := by
  unfold coordinatorHandOver
  dsimp only
  split <;> simp

/-- A lockout cause leaves the coordinator LOCKED (R160). -/
theorem coordinatorHandOver_locked (w : Bool) {s : State} (cause : (formCauses s).any = true) :
    (coordinatorHandOver w s).draw.state = .locked := by
  have locked : (formUrgency (updateLockouts s)).draw.state = .locked := by simp [updateLockouts_locked cause]
  unfold coordinatorHandOver
  dsimp only
  split <;> simp [locked, examine_outside_waiting]

@[simp] theorem evaluateGas_urgency (s : State) : (evaluateGas s).draw.urgency = s.draw.urgency := by
  unfold evaluateGas moveGas enterGas leaveGas dropForcedInlet
  (repeat' split) <;> simp

/-! ### The alarms that a hand-over moves (R157) -/

@[simp] theorem supplyTest_otherAlarms {a : Alarm} (h : a ≠ .supplyWeak) (s : State) :
    hasAlarm (supplyTest s).sup.active a = hasAlarm s.sup.active a ∧
      hasAlarm (supplyTest s).sup.latched a = hasAlarm s.sup.latched a := by
  unfold supplyTest
  dsimp only
  (repeat' split) <;> simp [h]

@[simp] theorem coordinatorHandOver_otherAlarms {a : Alarm} (h : a ≠ .supplyWeak) (w : Bool) (s : State) :
    hasAlarm (coordinatorHandOver w s).sup.active a = hasAlarm s.sup.active a ∧
      hasAlarm (coordinatorHandOver w s).sup.latched a = hasAlarm s.sup.latched a := by
  unfold coordinatorHandOver
  dsimp only
  split <;> simp [h]

/-! ### Outside DRAWING a hand-over moves nothing of the supervisor (R157) -/

section
variable {s : State} (other : s.draw.state ≠ .drawing)
include other

theorem supplyTest_outside_drawing : supplyTest s = s := by
  unfold supplyTest
  split
  · next drawing _ => exact absurd drawing other
  · rfl

theorem examine_notDrawing : (examine s).draw.state ≠ .drawing := by
  unfold examine makeClaim
  dsimp only
  (repeat' split) <;> simp [Draw.enter, other]

omit other in
theorem contendAgain_notDrawing (s : State) : (contendAgain s).draw.state ≠ .drawing := by
  unfold contendAgain
  split
  · exact examine_notDrawing (by simp [Draw.enter])
  · simp [Draw.enter]

theorem formUrgency_notDrawing : (formUrgency s).draw.state ≠ .drawing := by
  unfold formUrgency shortenBackoff
  dsimp only
  (repeat' split)
  case h_1 => exact examine_notDrawing (by simpa using other)
  case h_2 drawing => exact absurd drawing other
  all_goals first | exact contendAgain_notDrawing _ | simp_all

theorem updateLockouts_notDrawing : (updateLockouts s).draw.state ≠ .drawing := by
  unfold updateLockouts enterLocked
  dsimp only
  (repeat' split)
  all_goals first | exact contendAgain_notDrawing _ | simp_all [Draw.enter]

theorem coordinatorHandOver_sup (w : Bool) : (coordinatorHandOver w s).sup = s.sup := by
  have formed := formUrgency_notDrawing (updateLockouts_notDrawing other)
  unfold coordinatorHandOver
  dsimp only
  split
  · simp [supplyTest_outside_drawing (examine_notDrawing formed)]
  · simp [supplyTest_outside_drawing formed]

end

section
variable {s t : State} (h : FramesKept s t)
include h

theorem FramesKept.supplyTest : FramesKept s (supplyTest t) := by
  have raised {x : State} (hx : FramesKept s x) :
      FramesKept s (releaseToRecover (Machine.raiseAlarm .supplyWeak x)) :=
    FramesKept.queueFrame (FramesKept.of_frames (hx.raiseAlarm .supplyWeak _) rfl) _
  have recorded (d : Draw) : FramesKept s { t with draw := d } := h
  unfold Machine.supplyTest
  dsimp only
  (repeat' split)
  exacts [raised (recorded _), (recorded _).endAlarm _, recorded _, h]

theorem FramesKept.coordinatorHandOver (w : Bool) : FramesKept s (coordinatorHandOver w t) := by
  have formed : FramesKept s (Machine.formUrgency (Machine.updateLockouts t)) := h.updateLockouts.formUrgency
  unfold Machine.coordinatorHandOver
  dsimp only
  split
  exacts [formed.examine.supplyTest, formed.supplyTest]

end

section
variable {l : Link} {n : Nat} {s : State} (h : QueuesFew l n s)
include h

theorem QueuesFew.supplyTest : QueuesFew l (n + 1) (supplyTest s) := by
  have raised {x : State} (hx : QueuesFew l n x) :
      QueuesFew l (n + 1) (releaseToRecover (Machine.raiseAlarm .supplyWeak x)) := by
    have recovering : QueuesFew l (n + 1) ((Machine.raiseAlarm .supplyWeak x).mapDraw fun d =>
        { d.enter .recover with backoffTimer := some (ms 1000) }) := hx.raiseAlarm .supplyWeak _
    exact recovering.queueDraw _
  have recorded (d : Draw) : QueuesFew l n { s with draw := d } := h
  unfold Machine.supplyTest
  dsimp only
  (repeat' split)
  exacts [raised (recorded _), (recorded _).endAlarm _, (recorded _).more, h.more]

theorem QueuesFew.coordinatorHandOver (w : Bool) : QueuesFew l (n + 1) (coordinatorHandOver w s) := by
  have formed : QueuesFew l n (Machine.formUrgency (Machine.updateLockouts s)) := h.updateLockouts.formUrgency
  unfold Machine.coordinatorHandOver
  dsimp only
  split
  exacts [formed.examine.supplyTest, formed.supplyTest]

end

/-- With two fixed frames queued beside DRAWs there is room for three firm ones (R28, R30). -/
theorem QueuesFew.firmCount_le {s u : State} (h : QueuesFew s.link 2 u) : u.link.firmCount ≤ s.link.firmCount + 3 := by
  have load : s.link.load ≤ s.link.firmCount + 1 := by
    rw [Link.firmCount_eq, Link.load]
    omega
  have before := h.load
  have firm := u.link.firmCount_le_load
  omega

/-! ### The regulation state by the rows of R130 -/

theorem modeTest_ne (m : GasMode) (x y z : Int) :
    modeTest m x y z ≠ .relief ∧ modeTest m x y z ≠ .sensorVent := by
  unfold modeTest
  (repeat' split) <;> simp

/-- The regulation is enabled for the mode handed, never for OPEN (R132). -/
theorem enabledMode_some {s : State} {m : GasMode} (enabled : enabledMode s = some m) :
    handedMode s = some m ∧ m ≠ .openKeg := by
  unfold enabledMode at enabled
  split at enabled
  · split at enabled <;> simp_all
    all_goals simp [← enabled]
  · nomatch enabled

section
variable {s : State} {p : Int} (pressure : goodPressure s.sampling.transducer = some p)
include pressure

/-- RELIEF goes on above the ceiling less 100 (R136). -/
theorem decideGas_reliefStays (relief : s.gas.state = .relief) (above : s.gas.ceiling - 100 < p) :
    decideGas s = .relief := by
  unfold decideGas
  rw [pressure]
  exact if_pos ⟨relief, above⟩

/-- Without a cause for RELIEF a pulse or a settle goes on, an OPEN keg vents, an enabled mode tests, and all else rests
(R130, R132 to R135). -/
theorem decideGas_unrelieved (within : p ≤ s.gas.ceiling) (free : s.gas.state ≠ .relief ∨ p ≤ s.gas.ceiling - 100) :
    decideGas s =
      if (s.gas.state = .pulse ∨ s.gas.state = .settle) ∧ (enabledMode s).isSome then s.gas.state
      else if handedMode s = some .openKeg ∧ s.sup.station ≠ .safe then .ventOpen
      else
        match enabledMode s with
        | none => .rest
        | some m =>
          if s.gas.state = .topping ∧ m ≠ .spund ∧ p < s.gas.setpoint then .topping
          else modeTest m p s.gas.setpoint (effectiveBand s) := by
  have released : ¬(s.gas.state = .relief ∧ s.gas.ceiling - 100 < p) := by
    rintro ⟨relief, above⟩
    exact free.elim (· relief) fun below => by omega
  unfold decideGas
  rw [pressure]
  dsimp only
  exact (if_neg released).trans (if_neg (not_lt.2 within))

/-- Within the ceiling RELIEF is not entered, nor SENSOR_VENT with a pressure (R136, R137). -/
theorem decideGas_unvented (within : p ≤ s.gas.ceiling) (free : s.gas.state ≠ .relief ∨ p ≤ s.gas.ceiling - 100) :
    decideGas s ≠ .relief ∧ decideGas s ≠ .sensorVent := by
  rw [decideGas_unrelieved pressure within free]
  split
  · next going => rcases going.1 with e | e <;> simp [e]
  · split
    · simp
    · split
      · simp
      · split
        · simp
        · exact modeTest_ne _ _ _ _

/-- An OPEN keg vents outside SAFE (R135). -/
theorem decideGas_openKeg (within : p ≤ s.gas.ceiling) (free : s.gas.state ≠ .relief ∨ p ≤ s.gas.ceiling - 100)
    (mode : handedMode s = some .openKeg) (outside : s.sup.station ≠ .safe) : decideGas s = .ventOpen := by
  have off : enabledMode s = none := by simp [enabledMode, mode]
  rw [decideGas_unrelieved pressure within free, if_neg (by simp [off]), if_pos ⟨mode, outside⟩]

/-- From REST or TOPPING an enabled mode tests the pressure, a TOPPING first against the setpoint (R132, R133). -/
theorem decideGas_enabled {m : GasMode} (within : p ≤ s.gas.ceiling) (enabled : enabledMode s = some m)
    (from_ : s.gas.state = .rest ∨ s.gas.state = .topping) :
    decideGas s =
      if s.gas.state = .topping ∧ m ≠ .spund ∧ p < s.gas.setpoint then .topping
      else modeTest m p s.gas.setpoint (effectiveBand s) := by
  obtain ⟨mode, closed⟩ := enabledMode_some enabled
  have free : s.gas.state ≠ .relief := by rcases from_ with e | e <;> simp [e]
  have still : ¬((s.gas.state = .pulse ∨ s.gas.state = .settle) ∧ (enabledMode s).isSome) := by
    rcases from_ with e | e <;> simp [e]
  rw [decideGas_unrelieved pressure within (.inl free), if_neg still, if_neg (by simp [mode, closed]), enabled]

end

/-! ### The pressure sample (R10, R11) -/

/-- The transducer after a sample (R10 to R12). -/
def pressureReading (raw : Nat) (s : State) : Transducer :=
  s.sampling.transducer.sample (transducerPressure raw s.setup.fullScale) s.setup.fullScale

/-- The sample taken, with nothing handed on yet. -/
def pressureTaken (raw : Nat) (s : State) : State :=
  s.mapSampling fun u => { u with transducer := pressureReading raw s }

theorem Transducer.sample_recovers {p fullScale : Int} {x : Transducer} (before : x.state = .fault)
    (now : (x.sample p fullScale).state ≠ .fault) : (x.sample p fullScale).state = .good := by
  cases valid : pressureValid p fullScale
  · rw [x.sample_invalid valid] at now
    exact absurd (by simp [before]) now
  · rw [x.sample_valid valid] at now ⊢
    dsimp only at now ⊢
    split
    · next fault => exact absurd (if_pos fault) now
    · rfl

section
variable {raw : Nat} {s : State}

@[simp] theorem pressureSample_sampling (raw : Nat) (s : State) :
    (pressureSample raw s).sampling = { s.sampling with transducer := pressureReading raw s } := by
  unfold pressureSample
  dsimp only
  (repeat' split) <;> simp <;> rfl

theorem pressureSample_fault (now : (pressureReading raw s).state = .fault) (before : s.sampling.transducer.state ≠ .fault) :
    pressureSample raw s = endFlowing .fault (raiseAlarm .pressureSensor (pressureTaken raw s)) :=
  if_pos ⟨now, before⟩

theorem pressureSample_recovery (now : (pressureReading raw s).state = .good) (before : s.sampling.transducer.state = .fault) :
    pressureSample raw s = endAlarm .pressureSensor (pressureTaken raw s) :=
  (if_neg fun fault => fault.2 before).trans (if_pos ⟨now, before⟩)

theorem pressureSample_calm (fault : ¬((pressureReading raw s).state = .fault ∧ s.sampling.transducer.state ≠ .fault))
    (recovery : ¬((pressureReading raw s).state = .good ∧ s.sampling.transducer.state = .fault)) :
    pressureSample raw s = pressureTaken raw s :=
  (if_neg fault).trans (if_neg recovery)

/-- A transducer that is GOOD after the sample moves neither draw nor pour, and nothing of the supervisor but an alarm's
cause (R11). -/
theorem pressureSample_of_good (now : (pressureReading raw s).state = .good) :
    (pressureSample raw s).draw = s.draw ∧ (pressureSample raw s).disp = s.disp ∧
      (pressureSample raw s).sup.quiet = s.sup.quiet ∧ (pressureSample raw s).link.silent = s.link.silent ∧
      (pressureSample raw s).sup.latched = s.sup.latched := by
  by_cases before : s.sampling.transducer.state = .fault
  · simp [pressureSample_recovery now before, pressureTaken]
  · rw [pressureSample_calm (by simp [now]) (by simp [before])]
    simp [pressureTaken]

@[simp] theorem pressureSample_otherAlarms {a : Alarm} (h : a ≠ .pressureSensor) (raw : Nat) (s : State) :
    hasAlarm (pressureSample raw s).sup.active a = hasAlarm s.sup.active a ∧
      hasAlarm (pressureSample raw s).sup.latched a = hasAlarm s.sup.latched a := by
  unfold pressureSample
  dsimp only
  (repeat' split) <;> simp [h]

theorem QueuesFew.pressureSample {l : Link} {n : Nat} (h : QueuesFew l n s) (raw : Nat) :
    QueuesFew l (n + 1) (pressureSample raw s) := by
  have taken : QueuesFew l n (s.mapSampling fun u => { u with transducer := pressureReading raw s }) := h
  unfold Machine.pressureSample
  dsimp only
  (repeat' split)
  exacts [(taken.raiseAlarm _ _).endFlowing _, taken.endAlarm _, taken.more]

@[simp] theorem pressureSample_need (raw : Nat) (s : State) : (pressureSample raw s).draw.need = s.draw.need := by
  unfold pressureSample
  dsimp only
  (repeat' split) <;> simp

end

/-! ### The event's states -/

/-- The event taken, with the stored relief ceiling in force (R61). -/
def ceilingTaken (s : State) : State :=
  (s.mapTime fun t => { t with due100ms := false }).mapGas fun g => { g with ceiling := s.setup.reliefCeiling }

/-- And the transducer sampled. -/
def pressureSensed (raw : Nat) (s : State) : State := pressureSample raw (ceilingTaken s)

/-- The state in which coordinator and regulator take the sample, one after the other. -/
def handedOver (raw : Nat) (s : State) : State :=
  coordinatorHandOver (s.draw.state = .waiting) (pressureSensed raw s)

/-- The state whose regulation state is evaluated. -/
def regulated (raw : Nat) (coordinatorFirst : Bool) (s : State) : State :=
  if coordinatorFirst then handedOver raw s else pressureSensed raw s

/-- After both, in their order. -/
def reacted (raw : Nat) (coordinatorFirst : Bool) (s : State) : State :=
  if coordinatorFirst then evaluateGas (handedOver raw s)
  else coordinatorHandOver (s.draw.state = .waiting) (evaluateGas (pressureSensed raw s))

theorem hundredMsEvent_eq (raw : Nat) (coordinatorFirst : Bool) (s : State) :
    hundredMsEvent raw coordinatorFirst s = lowPressureTest (reacted raw coordinatorFirst s) := rfl

section
variable (raw : Nat) (coordinatorFirst : Bool) (s : State)

theorem pressureSensed_frame :
    (pressureSensed raw s).held = s.held ∧ (pressureSensed raw s).setup = s.setup ∧
      (pressureSensed raw s).drivers = s.drivers ∧ (pressureSensed raw s).view = s.view ∧
      (pressureSensed raw s).seq = s.seq ∧ (pressureSensed raw s).sup.station = s.sup.station ∧
      (pressureSensed raw s).gas = { s.gas with ceiling := s.setup.reliefCeiling } ∧
      (pressureSensed raw s).sampling = { s.sampling with transducer := pressureReading raw s } ∧
      (pressureSensed raw s).ident = s.ident ∧ (pressureSensed raw s).time = { s.time with due100ms := false } := by
  simp [pressureSensed, ceilingTaken, pressureReading]

theorem regulated_frame :
    (regulated raw coordinatorFirst s).held = s.held ∧ (regulated raw coordinatorFirst s).setup = s.setup ∧
      (regulated raw coordinatorFirst s).drivers = s.drivers ∧ (regulated raw coordinatorFirst s).seq = s.seq ∧
      (regulated raw coordinatorFirst s).sup.station = s.sup.station ∧
      (regulated raw coordinatorFirst s).gas = { s.gas with ceiling := s.setup.reliefCeiling } ∧
      (regulated raw coordinatorFirst s).sampling = { s.sampling with transducer := pressureReading raw s } := by
  unfold regulated handedOver
  split <;> simp [pressureSensed_frame]

/-- The coordinator leaves the regulator to its one evaluation (R130). -/
theorem reacted_gas : (reacted raw coordinatorFirst s).gas = (evaluateGas (regulated raw coordinatorFirst s)).gas := by
  unfold reacted regulated
  split <;> simp

theorem reacted_frame :
    (reacted raw coordinatorFirst s).held = s.held ∧ (reacted raw coordinatorFirst s).setup = s.setup ∧
      (reacted raw coordinatorFirst s).seq = s.seq ∧ (reacted raw coordinatorFirst s).sup.station = s.sup.station ∧
      (reacted raw coordinatorFirst s).sampling = { s.sampling with transducer := pressureReading raw s } ∧
      (reacted raw coordinatorFirst s).disp = (pressureSensed raw s).disp ∧
      (reacted raw coordinatorFirst s).time = { s.time with due100ms := false } := by
  unfold reacted handedOver
  split <;> simp [pressureSensed_frame]

/-- The urgency after the event is the one present with the sample taken (R147). -/
theorem reacted_urgency : (reacted raw coordinatorFirst s).draw.urgency = presentUrgency (pressureSensed raw s) := by
  unfold reacted handedOver
  split
  · simp
  · rw [coordinatorHandOver_urgency]
    exact presentUrgency_congr (by simp) (by simp) (by simp) (by simp) (by simp)

theorem reacted_causes : (reacted raw coordinatorFirst s).draw.causes = formCauses (pressureSensed raw s) := by
  unfold reacted handedOver
  split
  · simp
  · rw [coordinatorHandOver_causes]
    exact formCauses_congr (by simp) (by simp) (by simp) (by simp) (by simp) (by simp) (by simp)

end

section
variable {raw : Nat} {coordinatorFirst : Bool} {s : State} {p : Int}

theorem reacted_state :
    (reacted raw coordinatorFirst s).gas.state = decideGas (regulated raw coordinatorFirst s) := by
  rw [reacted_gas, evaluateGas_state]

theorem reacted_need :
    (reacted raw coordinatorFirst s).draw.need = (evaluateGas (regulated raw coordinatorFirst s)).draw.need := by
  unfold reacted regulated
  split <;> simp

theorem regulated_need : (regulated raw coordinatorFirst s).draw.need = s.draw.need := by
  unfold regulated handedOver
  split <;> simp [pressureSensed, ceilingTaken]

theorem regulated_enabledMode : enabledMode (regulated raw coordinatorFirst s) = enabledMode s := by
  simp [enabledMode, handedMode, regulated_frame]

/-- A transducer that is not GOOD vents and locks (R137, R160). -/
theorem reacted_of_sensor (sensor : (pressureReading raw s).state ≠ .good) :
    (reacted raw coordinatorFirst s).gas.state = .sensorVent ∧
      (reacted raw coordinatorFirst s).draw.state = .locked := by
  constructor
  · rw [reacted_state]
    exact decideGas_of_sensor (by simpa [regulated_frame] using sensor)
  · have locked (x : State) (h : x.sampling.transducer.state ≠ .good) (w : Bool) :
        (coordinatorHandOver w x).draw.state = .locked := coordinatorHandOver_locked w (formCauses_any_of_sensor h)
    unfold reacted handedOver
    split
    · simpa using locked _ (by simpa [pressureSensed_frame] using sensor) _
    · exact locked _ (by simpa [pressureSensed_frame] using sensor) _

section
variable (good : (pressureReading raw s).state = .good) (held : heldPressure (pressureReading raw s) = some p)
include good held

theorem regulated_pressure :
    goodPressure (regulated raw coordinatorFirst s).sampling.transducer = some p := by
  simp [regulated_frame, goodPressure, good, held]

theorem reacted_overCeiling (above : s.setup.reliefCeiling < p) :
    (reacted raw coordinatorFirst s).gas.state = .relief := by
  rw [reacted_state]
  exact decideGas_of_overCeiling ⟨p, regulated_pressure good held, by simpa [regulated_frame] using above⟩

theorem reacted_reliefStays (relief : s.gas.state = .relief) (above : s.setup.reliefCeiling - 100 < p) :
    (reacted raw coordinatorFirst s).gas.state = .relief := by
  rw [reacted_state]
  exact decideGas_reliefStays (regulated_pressure good held) (by simpa [regulated_frame] using relief)
    (by simpa only [regulated_frame] using above)

theorem reacted_openKeg (mode : handedMode s = some .openKeg) (outside : s.sup.station ≠ .safe)
    (within : p ≤ s.setup.reliefCeiling) (free : s.gas.state ≠ .relief ∨ p ≤ s.setup.reliefCeiling - 100) :
    (reacted raw coordinatorFirst s).gas.state = .ventOpen := by
  rw [reacted_state]
  refine decideGas_openKeg (regulated_pressure good held) ?_ ?_ ?_ ?_ <;>
    simpa only [regulated_frame, handedMode] using (by assumption)

theorem regulated_unvented (within : p ≤ s.setup.reliefCeiling)
    (free : s.gas.state ≠ .relief ∨ p ≤ s.setup.reliefCeiling - 100) :
    decideGas (regulated raw coordinatorFirst s) ≠ .relief ∧
      decideGas (regulated raw coordinatorFirst s) ≠ .sensorVent :=
  decideGas_unvented (regulated_pressure good held) (by simpa only [regulated_frame] using within)
    (by simpa only [regulated_frame] using free)

/-- From REST or TOPPING the mode tests decide (R132, R133). -/
theorem regulated_enabled {m : GasMode} (within : p ≤ s.setup.reliefCeiling) (enabled : enabledMode s = some m)
    (before : s.gas.state = .rest ∨ s.gas.state = .topping) :
    decideGas (regulated raw coordinatorFirst s) =
      if s.gas.state = .topping ∧ m ≠ .spund ∧ p < s.gas.setpoint then .topping
      else modeTest m p s.gas.setpoint (effectiveBand (regulated raw coordinatorFirst s)) := by
  have tested := decideGas_enabled (m := m) (regulated_pressure (coordinatorFirst := coordinatorFirst) good held)
    (by simpa only [regulated_frame] using within) (by rwa [regulated_enabledMode])
    (by simpa only [regulated_frame] using before)
  simpa only [regulated_frame] using tested

omit held in
/-- QUIET moves on the event only with an alarm (R183, R188). -/
theorem regulated_quiet (other : s.draw.state ≠ .drawing) :
    (regulated raw coordinatorFirst s).sup.quiet = s.sup.quiet := by
  obtain ⟨draw, -, quiet, -, -⟩ := pressureSample_of_good (s := ceilingTaken s) good
  unfold regulated handedOver
  split
  · rw [coordinatorHandOver_sup (by rw [pressureSensed, draw]; exact other)]
    exact quiet
  · exact quiet

omit held in
theorem regulated_band (other : s.draw.state ≠ .drawing) :
    effectiveBand (regulated raw coordinatorFirst s) = if s.sup.quiet then 2 * s.setup.band else s.setup.band := by
  simp [effectiveBand, regulated_quiet good other, regulated_frame]

/-- From REST a pressure above setpoint plus band begins a pulse (R132, R134). -/
theorem reacted_pulse {m : GasMode} (within : p ≤ s.setup.reliefCeiling) (enabled : enabledMode s = some m)
    (rest : s.gas.state = .rest) (other : s.draw.state ≠ .drawing)
    (above : s.gas.setpoint + (if s.sup.quiet then 2 * s.setup.band else s.setup.band) < p) :
    (reacted raw coordinatorFirst s).gas = ({ s.gas with ceiling := s.setup.reliefCeiling } : Gas).moveTo .pulse := by
  have decided : decideGas (regulated raw coordinatorFirst s) = .pulse := by
    rw [regulated_enabled good held within enabled (.inl rest), if_neg (by simp [rest]), regulated_band good other]
    exact if_pos above
  rw [reacted_gas, evaluateGas, moveGas_gas, decided]
  simp [regulated_frame, rest]

/-- Below setpoint less band a mode that tops begins a TOPPING with its need (R132, R133). -/
theorem reacted_topping {m : GasMode} (within : p ≤ s.setup.reliefCeiling) (enabled : enabledMode s = some m)
    (rest : s.gas.state = .rest) (other : s.draw.state ≠ .drawing)
    (low : p ≤ s.gas.setpoint + (if s.sup.quiet then 2 * s.setup.band else s.setup.band))
    (below : p < s.gas.setpoint - (if s.sup.quiet then 2 * s.setup.band else s.setup.band)) (tops : m ≠ .spund) :
    (reacted raw coordinatorFirst s).gas = ({ s.gas with ceiling := s.setup.reliefCeiling } : Gas).moveTo .topping ∧
      (reacted raw coordinatorFirst s).draw.need = true := by
  have mode : m = .carbonate ∨ m = .serve := by
    have open_ := (enabledMode_some enabled).2
    cases m <;> simp_all
  have decided : decideGas (regulated raw coordinatorFirst s) = .topping := by
    rw [regulated_enabled good held within enabled (.inl rest), if_neg (by simp [rest]), regulated_band good other]
    exact (if_neg (by omega)).trans (if_pos ⟨below, mode⟩)
  constructor
  · rw [reacted_gas, evaluateGas, moveGas_gas, decided]
    simp [regulated_frame, rest]
  · rw [reacted_need, evaluateGas, moveGas, decided, if_neg (by simp [regulated_frame, rest])]
    exact needArrives_need _

/-- Between the bands REST stands (R132). -/
theorem reacted_rest {m : GasMode} (within : p ≤ s.setup.reliefCeiling) (enabled : enabledMode s = some m)
    (rest : s.gas.state = .rest) (other : s.draw.state ≠ .drawing)
    (low : p ≤ s.gas.setpoint + (if s.sup.quiet then 2 * s.setup.band else s.setup.band))
    (stays : s.gas.setpoint - (if s.sup.quiet then 2 * s.setup.band else s.setup.band) ≤ p ∨ m = .spund) :
    (reacted raw coordinatorFirst s).gas = { s.gas with ceiling := s.setup.reliefCeiling } := by
  have decided : decideGas (regulated raw coordinatorFirst s) = .rest := by
    rw [regulated_enabled good held within enabled (.inl rest), if_neg (by simp [rest]), regulated_band good other]
    refine (if_neg (by omega)).trans (if_neg ?_)
    rintro ⟨below, mode⟩
    rcases stays with high | rfl
    · omega
    · simp at mode
  rw [reacted_gas, evaluateGas, moveGas_gas, decided]
  simp [regulated_frame, rest]

/-- A TOPPING goes on below the setpoint (R133). -/
theorem regulated_toppingStays {m : GasMode} (within : p ≤ s.setup.reliefCeiling) (enabled : enabledMode s = some m)
    (topping : s.gas.state = .topping) (tops : m ≠ .spund) (below : p < s.gas.setpoint) :
    decideGas (regulated raw coordinatorFirst s) = .topping := by
  rw [regulated_enabled good held within enabled (.inr topping), if_pos ⟨topping, tops, below⟩]

/-- And ends in REST from it on, its need with it (R133). -/
theorem reacted_toppingEnds {m : GasMode} (within : p ≤ s.setup.reliefCeiling) (enabled : enabledMode s = some m)
    (topping : s.gas.state = .topping) (band : 0 ≤ s.setup.band) (high : s.gas.setpoint ≤ p)
    (low : p ≤ s.gas.setpoint + s.setup.band) :
    (reacted raw coordinatorFirst s).gas.state = .rest ∧ (reacted raw coordinatorFirst s).draw.need = false := by
  have wider : s.setup.band ≤ effectiveBand (regulated raw coordinatorFirst s) := by
    unfold effectiveBand
    simp only [regulated_frame]
    split <;> omega
  have decided : decideGas (regulated raw coordinatorFirst s) = .rest := by
    rw [regulated_enabled good held within enabled (.inr topping), if_neg (by omega)]
    exact (if_neg (by omega)).trans (if_neg (by omega))
  have before : (regulated raw coordinatorFirst s).gas.state = .topping := by simp [regulated_frame, topping]
  refine ⟨by rw [reacted_state, decided], ?_⟩
  rw [reacted_need, evaluateGas, moveGas, decided, before, if_neg (by simp)]
  exact needEnds_need _

end

end

end Sys2Proof.Machine
end

section
/-! ### The alarms of the event (R11, R136, R157, R188, R189) -/

namespace Sys2Proof.Machine

theorem QueuesFew.leaveGas_unrelieved {l : Link} {n : Nat} {s : State} (h : QueuesFew l n s) {old : GasState}
    (other : old ≠ .relief) : QueuesFew l n (leaveGas old s) := by
  unfold leaveGas
  split
  · exact h.needEnds
  · exact absurd rfl other
  all_goals exact h

section
variable {raw : Nat} {coordinatorFirst : Bool} {s : State}

/-- Coordinator and regulator leave every alarm but their own two. -/
theorem reacted_otherAlarms {a : Alarm} (relief : a ≠ .overpressure) (weak : a ≠ .supplyWeak) :
    hasAlarm (reacted raw coordinatorFirst s).sup.active a = hasAlarm (pressureSensed raw s).sup.active a ∧
      hasAlarm (reacted raw coordinatorFirst s).sup.latched a = hasAlarm (pressureSensed raw s).sup.latched a := by
  unfold reacted handedOver
  split <;> simp [relief, weak]

theorem FramesKept.reacted {x : State} (h : FramesKept x (pressureSensed raw s)) :
    FramesKept x (reacted raw coordinatorFirst s) := by
  unfold Machine.reacted handedOver
  split
  exacts [(h.coordinatorHandOver _).evaluateGas, h.evaluateGas.coordinatorHandOver _]

theorem pressureSensor_raised (before : s.sampling.transducer.state ≠ .fault) (now : (pressureReading raw s).state = .fault) :
    Raised .pressureSensor s (reacted raw coordinatorFirst s) := by
  have sensed : pressureSensed raw s =
      endFlowing .fault (raiseAlarm .pressureSensor (pressureTaken raw (ceilingTaken s))) :=
    pressureSample_fault (s := ceilingTaken s) now before
  obtain ⟨active, latched⟩ := reacted_otherAlarms (raw := raw) (coordinatorFirst := coordinatorFirst) (s := s)
    (a := .pressureSensor) (by simp) (by simp)
  have kept : FramesKept (raiseAlarm .pressureSensor (pressureTaken raw (ceilingTaken s))) (pressureSensed raw s) :=
    sensed ▸ (FramesKept.refl _).endFlowing _
  refine Raised.of_raise (u := pressureTaken raw (ceilingTaken s)) rfl rfl (Nat.le_add_right _ _) ?_ (fun h => ?_) kept.reacted
  · simp [active, sensed]
  · simpa [latched, sensed] using h

theorem pressureSensor_ended (before : s.sampling.transducer.state = .fault) (now : (pressureReading raw s).state ≠ .fault) :
    Ended .pressureSensor s (reacted raw coordinatorFirst s) := by
  have sensed : pressureSensed raw s = endAlarm .pressureSensor (pressureTaken raw (ceilingTaken s)) :=
    pressureSample_recovery (s := ceilingTaken s) (Transducer.sample_recovers before now) before
  obtain ⟨active, latched⟩ := reacted_otherAlarms (raw := raw) (coordinatorFirst := coordinatorFirst) (s := s)
    (a := .pressureSensor) (by simp) (by simp)
  have kept : FramesKept (endAlarm .pressureSensor (pressureTaken raw (ceilingTaken s))) (pressureSensed raw s) :=
    sensed ▸ .refl _
  refine Ended.of_end (u := pressureTaken raw (ceilingTaken s)) rfl rfl (Nat.le_add_right _ _) ?_ ?_ kept.reacted
  · simp [active, sensed]
  · simp [latched, sensed, pressureTaken, ceilingTaken]

/-- Before the evaluation the event has queued the frames of two alarms at most, and DRAWs (R11, R157). -/
theorem regulated_queuesFew : QueuesFew s.link 2 (regulated raw coordinatorFirst s) := by
  have sensed : QueuesFew s.link 1 (pressureSensed raw s) :=
    QueuesFew.pressureSample (s := ceilingTaken s) (.refl s) raw
  unfold regulated handedOver
  split
  exacts [sensed.coordinatorHandOver _, sensed.more]

theorem regulated_over :
    hasAlarm (regulated raw coordinatorFirst s).sup.active .overpressure = hasAlarm s.sup.active .overpressure ∧
      hasAlarm (regulated raw coordinatorFirst s).sup.latched .overpressure = hasAlarm s.sup.latched .overpressure := by
  unfold regulated handedOver
  split <;> simp [pressureSensed, ceilingTaken]

theorem regulated_silent : (regulated raw coordinatorFirst s).link.silent = s.link.silent := by
  unfold regulated handedOver
  split <;> simp [pressureSensed, ceilingTaken]

/-- After the evaluation only the coordinator may follow, which leaves OVERPRESSURE and its frames. -/
theorem reacted_over :
    hasAlarm (reacted raw coordinatorFirst s).sup.active .overpressure =
        hasAlarm (evaluateGas (regulated raw coordinatorFirst s)).sup.active .overpressure ∧
      hasAlarm (reacted raw coordinatorFirst s).sup.latched .overpressure =
        hasAlarm (evaluateGas (regulated raw coordinatorFirst s)).sup.latched .overpressure ∧
      FramesKept (evaluateGas (regulated raw coordinatorFirst s)) (reacted raw coordinatorFirst s) := by
  unfold reacted regulated
  split
  · exact ⟨rfl, rfl, .refl _⟩
  · exact ⟨by simp, by simp, (FramesKept.refl _).coordinatorHandOver _⟩

/-- The regulator's own record of the state decided. -/
def regulatorMoved (raw : Nat) (coordinatorFirst : Bool) (s : State) : State :=
  (regulated raw coordinatorFirst s).mapGas (·.moveTo (decideGas (regulated raw coordinatorFirst s)))

theorem overpressure_raised (before : s.gas.state ≠ .relief)
    (now : (reacted raw coordinatorFirst s).gas.state = .relief) :
    Raised .overpressure s (reacted raw coordinatorFirst s) := by
  rw [reacted_state] at now
  have before' : (regulated raw coordinatorFirst s).gas.state ≠ .relief := by simpa [regulated_frame] using before
  have few : QueuesFew s.link 2 (regulatorMoved raw coordinatorFirst s) :=
    regulated_queuesFew (raw := raw) (coordinatorFirst := coordinatorFirst)
  have raised : evaluateGas (regulated raw coordinatorFirst s) = raiseAlarm .overpressure
      (dropForcedInlet (leaveGas (regulated raw coordinatorFirst s).gas.state (regulatorMoved raw coordinatorFirst s))) := by
    rw [evaluateGas, moveGas, if_neg (by simpa [now] using Ne.symm before'), regulatorMoved, now]
    rfl
  have sup : (dropForcedInlet (leaveGas (regulated raw coordinatorFirst s).gas.state
      (regulatorMoved raw coordinatorFirst s))).sup = (regulated raw coordinatorFirst s).sup := by
    simp [leaveGas_sup before', regulatorMoved]
  obtain ⟨active, latched, kept⟩ := reacted_over (raw := raw) (coordinatorFirst := coordinatorFirst) (s := s)
  rw [raised] at active latched kept
  refine Raised.of_raise ?_ ?_ (few.leaveGas_unrelieved before').dropForcedInlet.firmCount_le ?_ (fun h => ?_) kept
  · rw [sup]
    exact regulated_over.1
  · simpa [regulatorMoved] using regulated_silent
  · simp [active]
  · rwa [latched]

section
variable (before : s.gas.state = .relief) (now : (reacted raw coordinatorFirst s).gas.state ≠ .relief)
include before now

theorem regulated_leavesRelief :
    evaluateGas (regulated raw coordinatorFirst s) =
      enterGas (decideGas (regulated raw coordinatorFirst s)) (endAlarm .overpressure (regulatorMoved raw coordinatorFirst s)) := by
  rw [reacted_state] at now
  have before' : (regulated raw coordinatorFirst s).gas.state = .relief := by simpa [regulated_frame] using before
  rw [evaluateGas, moveGas, before', if_neg now]
  rfl

/-- The end of RELIEF ends OVERPRESSURE's cause and leaves its latch (R136, R189). -/
theorem overpressure_cleared :
    hasAlarm (reacted raw coordinatorFirst s).sup.active .overpressure = false ∧
      hasAlarm (reacted raw coordinatorFirst s).sup.latched .overpressure = hasAlarm s.sup.latched .overpressure := by
  obtain ⟨active, latched, -⟩ := reacted_over (raw := raw) (coordinatorFirst := coordinatorFirst) (s := s)
  have ended := regulated_leavesRelief before now
  rw [reacted_state] at now
  rw [active, latched, ended, enterGas_sup now]
  simp [regulatorMoved, regulated_over]

theorem overpressure_ended : Ended .overpressure s (reacted raw coordinatorFirst s) := by
  obtain ⟨-, -, kept⟩ := reacted_over (raw := raw) (coordinatorFirst := coordinatorFirst) (s := s)
  obtain ⟨active, latched⟩ := overpressure_cleared before now
  have ended := FramesKept.enterGas (FramesKept.refl (endAlarm .overpressure
    (regulatorMoved raw coordinatorFirst s)))
    (decideGas (regulated raw coordinatorFirst s))
  rw [← regulated_leavesRelief before now] at ended
  have few : QueuesFew s.link 2 (regulatorMoved raw coordinatorFirst s) :=
    regulated_queuesFew (raw := raw) (coordinatorFirst := coordinatorFirst)
  exact Ended.of_end (u := regulatorMoved raw coordinatorFirst s) regulated_over.1 regulated_silent few.firmCount_le active
    latched (ended.trans kept)

end

end

end Sys2Proof.Machine
end

section
/-! ### The draw on the event (R147, R148, R157) -/

namespace Sys2Proof.Machine

/-! #### The supply test (R157) -/

/-- The rise record with one more pressure (R157). -/
def riseRecord (p : Int) (d : Draw) : List Int := (p :: d.rise).take 21

/-- The rise over the record (R157). -/
def riseOver (p : Int) (d : Draw) : Int := p - (riseRecord p d).getLast?.getD p

section
variable {s : State} {p : Int} (drawing : s.draw.state = .drawing)
  (held : heldPressure s.sampling.transducer = some p)
include drawing held

/-- A weak supply sets the flag and leads to RECOVER (R157). -/
theorem supplyTest_weak (full : (riseRecord p s.draw).length = 21) (low : riseOver p s.draw < 10) :
    supplyTest s = releaseToRecover (raiseAlarm .supplyWeak
      (s.mapDraw fun d => { d with rise := riseRecord p d, supplyWeak := true })) := by
  unfold supplyTest
  rw [drawing, held]
  exact if_pos ⟨full, low⟩

/-- Otherwise the draw goes on with the pressure recorded, and a sound rise under PRIORITY clears the flag (R157). -/
theorem supplyTest_goesOn (sound : ¬((riseRecord p s.draw).length = 21 ∧ riseOver p s.draw < 10)) :
    (supplyTest s).draw =
      { s.draw with rise := riseRecord p s.draw,
                    supplyWeak := s.draw.supplyWeak &&
                      !(decide (s.draw.urgency = .priority) && decide (10 ≤ riseOver p s.draw)) } := by
  unfold supplyTest
  rw [drawing, held]
  refine (congrArg State.draw (if_neg sound)).trans ?_
  split
  · next clears =>
    obtain ⟨priority, -, rise⟩ := clears
    have rise' : 10 ≤ riseOver p s.draw := rise
    have priority' : s.draw.urgency = .priority := priority
    simp [riseRecord, priority', rise']
  · next stands =>
    have stands' : ¬(s.draw.urgency = .priority ∧ s.draw.supplyWeak = true ∧ 10 ≤ riseOver p s.draw) := stands
    have kept : (s.draw.supplyWeak && !(decide (s.draw.urgency = .priority) && decide (10 ≤ riseOver p s.draw))) =
        s.draw.supplyWeak := by
      cases weak : s.draw.supplyWeak
      · rfl
      · simpa [weak, imp_iff_not_or] using stands'
    rw [kept]
    rfl

end

/-! #### Lockouts and urgency without a cause (R147, R160) -/

/-- Without a cause a coordinator that is not LOCKED takes the causes and no more (R160). -/
theorem updateLockouts_free {s : State} (free : (formCauses s).any = false) (unlocked : s.draw.state ≠ .locked) :
    updateLockouts s = s.mapDraw fun d => { d with causes := formCauses s } := by
  unfold updateLockouts
  dsimp only
  rw [if_neg (by simp [free]), if_neg (by exact unlocked)]

/-- In DRAWING a change of urgency queues a KEEP and leaves the draw (R147). -/
theorem formUrgency_drawing {s : State} (drawing : s.draw.state = .drawing) :
    (formUrgency s).draw = { s.draw with urgency := presentUrgency s } := by
  unfold formUrgency
  dsimp only
  split
  · next same => rw [same]
  · simp [drawing]

section
variable {raw : Nat} {coordinatorFirst : Bool} {s : State} {p : Int} {m : GasMode}

/-! #### A draw that goes on as TOPPING does (R133, R157) -/

section
variable (good : (pressureReading raw s).state = .good) (held : heldPressure (pressureReading raw s) = some p)
  (within : p ≤ s.setup.reliefCeiling) (enabled : enabledMode s = some m) (topping : s.gas.state = .topping)
  (tops : m ≠ .spund) (below : p < s.gas.setpoint)
include good held within enabled topping tops below

/-- While TOPPING goes on the event is the coordinator's alone. -/
theorem reacted_toppingStays : reacted raw coordinatorFirst s = handedOver raw s := by
  have still {x : State} (decided : decideGas x = .topping) (before : x.gas.state = .topping) : evaluateGas x = x := by
    rw [evaluateGas, moveGas, decided, before, if_pos rfl]
  have decided (b : Bool) := regulated_toppingStays (coordinatorFirst := b) good held within enabled topping tops below
  have before (b : Bool) : (regulated raw b s).gas.state = .topping := by simp [regulated_frame, topping]
  cases coordinatorFirst
  · exact congrArg (coordinatorHandOver (s.draw.state = .waiting)) (still (decided false) (before false))
  · exact still (decided true) (before true)

/-- The state whose supply is tested. -/
def drawFormed (raw : Nat) (s : State) : State := formUrgency (updateLockouts (pressureSensed raw s))

omit held within enabled topping tops below in
theorem drawFormed_draw (drawing : s.draw.state = .drawing) (free : (formCauses (pressureSensed raw s)).any = false) :
    (drawFormed raw s).draw =
      { s.draw with causes := formCauses (pressureSensed raw s), urgency := presentUrgency (pressureSensed raw s) } := by
  obtain ⟨draw, -⟩ := pressureSample_of_good (s := ceilingTaken s) good
  have drawing' : (pressureSensed raw s).draw.state = .drawing := by rw [pressureSensed, draw]; exact drawing
  rw [drawFormed, updateLockouts_free free (by simp [drawing']), formUrgency_drawing (by exact drawing')]
  have urgency : presentUrgency ((pressureSensed raw s).mapDraw fun d =>
      { d with causes := formCauses (pressureSensed raw s) }) = presentUrgency (pressureSensed raw s) :=
    presentUrgency_congr rfl rfl rfl rfl rfl
  rw [urgency]
  simp only [State.mapDraw, pressureSensed, draw]
  rfl

theorem reacted_supplyTest (drawing : s.draw.state = .drawing) :
    reacted raw coordinatorFirst s = supplyTest (drawFormed raw s) := by
  rw [reacted_toppingStays good held within enabled topping tops below, handedOver, coordinatorHandOver]
  simp [drawing, drawFormed]

omit good held within enabled topping tops below in
theorem drawFormed_queuesFew : QueuesFew s.link 2 (drawFormed raw s) := by
  have sensed : QueuesFew s.link 1 (pressureSensed raw s) :=
    QueuesFew.pressureSample (s := ceilingTaken s) (.refl s) raw
  exact sensed.more.updateLockouts.formUrgency

/-- A weak supply sets the flag, raises SUPPLY_WEAK and leads to RECOVER (R157). -/
theorem reacted_weak (drawing : s.draw.state = .drawing) (free : (formCauses (pressureSensed raw s)).any = false)
    (full : (riseRecord p s.draw).length = 21) (low : riseOver p s.draw < 10) :
    (reacted raw coordinatorFirst s).draw.state = .recover ∧
      (reacted raw coordinatorFirst s).draw.backoffTimer = some 100 ∧
      (reacted raw coordinatorFirst s).draw.supplyWeak = true ∧
      hasAlarm (reacted raw coordinatorFirst s).sup.active .supplyWeak = true ∧
      Raised .supplyWeak s (reacted raw coordinatorFirst s) := by
  have draw := drawFormed_draw good drawing free
  have tested := supplyTest_weak (s := drawFormed raw s) (p := p) (by simp [draw, drawing])
    (by simpa [drawFormed, pressureSensed_frame] using held) (by rw [draw]; exact full) (by rw [draw]; exact low)
  have reached := reacted_supplyTest (coordinatorFirst := coordinatorFirst) good held within enabled topping tops below
    drawing
  have raises : (reacted raw coordinatorFirst s).draw.state = .recover ∧
      (reacted raw coordinatorFirst s).draw.backoffTimer = some 100 ∧
      (reacted raw coordinatorFirst s).draw.supplyWeak = true ∧
      hasAlarm (reacted raw coordinatorFirst s).sup.active .supplyWeak = true := by
    rw [reached, tested]
    simp [releaseToRecover, Draw.enter, ms]
  obtain ⟨recover, timer, weak, active⟩ := raises
  refine ⟨recover, timer, weak, active, ?_⟩
  refine Raised.of_raise (u := (drawFormed raw s).mapDraw fun d => { d with rise := riseRecord p d, supplyWeak := true })
    ?_ ?_ drawFormed_queuesFew.firmCount_le active (fun h => ?_) ?_
  · simp [drawFormed, pressureSensed, ceilingTaken]
  · simp [drawFormed, pressureSensed, ceilingTaken]
  · rw [reached, tested]
    simpa [releaseToRecover] using h
  · rw [reached, tested]
    exact FramesKept.queueFrame (FramesKept.of_frames (.refl _) rfl) _

/-- A supply that is not weak leaves the draw going on (R157). -/
theorem reacted_sound (drawing : s.draw.state = .drawing) (free : (formCauses (pressureSensed raw s)).any = false)
    (sound : (riseRecord p s.draw).length < 21 ∨ 10 ≤ riseOver p s.draw) :
    (reacted raw coordinatorFirst s).draw =
      { s.draw with
        causes := formCauses (pressureSensed raw s), urgency := presentUrgency (pressureSensed raw s),
        rise := riseRecord p s.draw,
        supplyWeak := s.draw.supplyWeak &&
          !(decide (presentUrgency (pressureSensed raw s) = .priority) && decide (10 ≤ riseOver p s.draw)) } := by
  have notWeak : ¬((riseRecord p s.draw).length = 21 ∧ riseOver p s.draw < 10) := by omega
  have draw := drawFormed_draw good drawing free
  have tested := supplyTest_goesOn (s := drawFormed raw s) (p := p) (by simp [draw, drawing])
    (by simpa [drawFormed, pressureSensed_frame] using held)
    (by rw [draw]; exact notWeak)
  rw [reacted_supplyTest good held within enabled topping tops below drawing, tested, draw]
  rfl

end

end

end Sys2Proof.Machine
end

section
/-! #### A coordinator in WAITING (R148, R149) -/

namespace Sys2Proof.Machine

/-- An evaluation that neither begins or ends a TOPPING nor vents for safety leaves coordinator, queue and supervisor. -/
theorem evaluateGas_calm {x : State} (need : x.draw.need = true)
    (tops : x.gas.state = .topping → decideGas x = .topping) (unrelieved : x.gas.state ≠ .relief)
    (unvented : decideGas x ≠ .relief ∧ decideGas x ≠ .sensorVent) :
    (evaluateGas x).draw = x.draw ∧ (evaluateGas x).link = x.link ∧ (evaluateGas x).sup = x.sup := by
  obtain ⟨entersRelief, entersVent⟩ := unvented
  have left (t : GasState) (moved : decideGas x ≠ x.gas.state) : leaveGas x.gas.state (x.mapGas (·.moveTo t)) =
      x.mapGas (·.moveTo t) := by
    unfold leaveGas
    split
    · next topping => exact absurd ((tops topping).trans topping.symm) moved
    · next relief => exact absurd relief unrelieved
    all_goals rfl
  unfold evaluateGas moveGas
  split
  · exact ⟨rfl, rfl, rfl⟩
  · next moved =>
    rw [left _ moved]
    unfold enterGas
    split
    · have there : needArrives (x.mapGas (·.moveTo (decideGas x))) = x.mapGas (·.moveTo (decideGas x)) :=
        if_pos (by exact need)
      rw [there]
      exact ⟨rfl, rfl, rfl⟩
    · next relief => exact absurd relief entersRelief
    · next vent => exact absurd vent entersVent
    all_goals exact ⟨rfl, rfl, rfl⟩

/-- The permission is a matter of urgency, supply, view and draw limit (R148). -/
theorem mayClaim_congr {s t : State} (urgency : t.draw.urgency = s.draw.urgency)
    (weak : t.draw.supplyWeak = s.draw.supplyWeak) (view : t.view = s.view) (setup : t.setup = s.setup) :
    mayClaim t = mayClaim s := by
  unfold mayClaim supplySuspended
  rw [urgency, weak, view, setup]

/-- The present urgency formed in WAITING, before the examination. -/
def urgencyTaken (x : State) : State := x.mapDraw fun d => { d with urgency := presentUrgency x }

/-- And with the draw limit read at the examination (R148). -/
def limitRead (x : State) : State := (urgencyTaken x).mapDraw fun d => { d with limit := x.setup.drawLimit }

section
variable {x : State} (waiting : x.draw.state = .waiting)
include waiting

theorem examine_urgencyTaken :
    examine (urgencyTaken x) = if mayClaim (urgencyTaken x) then makeClaim (limitRead x) else limitRead x :=
  examine_waiting waiting

/-- A change of urgency examines at once (R147, R148). -/
theorem formUrgency_waiting :
    formUrgency x = if presentUrgency x = x.draw.urgency then urgencyTaken x else examine (urgencyTaken x) := by
  unfold formUrgency
  dsimp only
  split
  · next same =>
    unfold urgencyTaken
    rw [same]
    rfl
  · split
    · rfl
    all_goals simp_all

/-- However often it is examined on the event, without the permission the coordinator goes on waiting (R148). -/
theorem examine_formUrgency_refused (refused : mayClaim (urgencyTaken x) = false) :
    examine (formUrgency x) = limitRead x := by
  have once : examine (urgencyTaken x) = limitRead x := by rw [examine_urgencyTaken waiting, refused]; rfl
  have again : examine (limitRead x) = limitRead x := by
    have refused' : mayClaim (limitRead x) = false := (mayClaim_congr rfl rfl rfl rfl).trans refused
    rw [examine_waiting (by exact waiting), refused']
    rfl
  rw [formUrgency_waiting waiting]
  split
  · exact once
  · rw [once, again]

/-- With the permission and room in the queue it claims, once (R148, R149). -/
theorem examine_formUrgency_granted (granted : mayClaim (urgencyTaken x) = true) (loud : x.link.silent = false)
    (room : x.link.queue.length < 6) : examine (formUrgency x) = makeClaim (limitRead x) := by
  have once : examine (urgencyTaken x) = makeClaim (limitRead x) := by
    rw [examine_urgencyTaken waiting, granted]
    rfl
  have claiming := (makeClaim_taken (s := limitRead x) loud room).1
  rw [formUrgency_waiting waiting]
  split
  · exact once
  · rw [once, examine_outside_waiting (by simp [claiming, Draw.enter])]

end

/-- What a hand-over makes of a coordinator in WAITING with no lockout cause (R148, R149). -/
theorem coordinatorHandOver_waiting {e : State} (waiting : e.draw.state = .waiting) (free : (formCauses e).any = false) :
    (mayClaim (urgencyTaken e) = false →
      (coordinatorHandOver true e).draw =
        { e.draw with causes := formCauses e, urgency := presentUrgency e, limit := e.setup.drawLimit }) ∧
    (mayClaim (urgencyTaken e) = true → e.link.silent = false → e.link.queue.length < 6 →
      (coordinatorHandOver true e).draw.state = .claiming ∧
        (coordinatorHandOver true e).draw.claimUrgency = presentUrgency e ∧
        (coordinatorHandOver true e).draw.limit = e.setup.drawLimit ∧
        ∃ q ∈ (coordinatorHandOver true e).link.queue,
          q.frame = .draw .claim (presentUrgency e) e.draw.supplyWeak ∧ q.liveClaim = true) := by
  have locked : updateLockouts e = e.mapDraw fun d => { d with causes := formCauses e } :=
    updateLockouts_free free (by simp [waiting])
  have urgency : presentUrgency (updateLockouts e) = presentUrgency e := presentUrgency_congr (by simp) (by simp)
    (by simp) (by simp) (by simp)
  have waiting' : (updateLockouts e).draw.state = .waiting := by rw [locked]; exact waiting
  have permission : mayClaim (urgencyTaken (updateLockouts e)) = mayClaim (urgencyTaken e) :=
    mayClaim_congr urgency (by rw [locked]; rfl) (by simp [urgencyTaken]) (by simp [urgencyTaken])
  have tested {y : State} (done : examine (formUrgency (updateLockouts e)) = y) (other : y.draw.state ≠ .drawing) :
      coordinatorHandOver true e = y := by
    rw [coordinatorHandOver, if_pos rfl, done, supplyTest_outside_drawing other]
  have limited : (limitRead (updateLockouts e)).draw =
      { e.draw with causes := formCauses e, urgency := presentUrgency e, limit := e.setup.drawLimit } := by
    rw [limitRead, urgencyTaken, urgency, locked]
    rfl
  constructor
  · intro refused
    have done := examine_formUrgency_refused waiting' (permission.trans refused)
    rw [tested done (by simp [limited, waiting]), limited]
  · intro granted loud room
    have quiet : (limitRead (updateLockouts e)).link = e.link := by rw [locked]; rfl
    have done := examine_formUrgency_granted waiting' (permission.trans granted) (by rw [locked]; exact loud)
      (by rw [locked]; exact room)
    obtain ⟨draw, q, mem, frame, live, -⟩ := makeClaim_taken (s := limitRead (updateLockouts e)) (by rw [quiet]; exact loud)
      (by rw [quiet]; exact room)
    rw [limited] at draw frame
    rw [tested done (by simp [draw, Draw.enter]), draw]
    exact ⟨rfl, rfl, rfl, q, mem, frame, live⟩

section
variable {raw : Nat} {coordinatorFirst : Bool} {s : State} {p : Int}

/-- On the event a coordinator in WAITING whose need goes on, with no lockout cause, is examined with the urgency then
formed, whichever of coordinator and regulator comes first (R148). -/
theorem reacted_waiting (good : (pressureReading raw s).state = .good)
    (held : heldPressure (pressureReading raw s) = some p) (waiting : s.draw.state = .waiting)
    (need : s.draw.need = true) (free : (formCauses s).any = false) (within : p ≤ s.setup.reliefCeiling)
    (unrelieved : s.gas.state ≠ .relief)
    (goesOn : (s.gas.state = .topping ∧ p < s.gas.setpoint ∧
        (enabledMode s = some .carbonate ∨ enabledMode s = some .serve)) ∨ s.gas.state ≠ .topping) :
    ∃ e : State, e.draw = s.draw ∧ e.link = s.link ∧ e.view = s.view ∧ e.setup = s.setup ∧
      formCauses e = formCauses s ∧ presentUrgency e = presentUrgency (pressureSensed raw s) ∧
      (reacted raw coordinatorFirst s).draw = (coordinatorHandOver true e).draw ∧
      (reacted raw coordinatorFirst s).link = (coordinatorHandOver true e).link := by
  have was : s.sampling.transducer.state = .good := by
    by_contra sensor
    simp [formCauses_any_of_sensor sensor] at free
  have sensed : pressureSensed raw s = pressureTaken raw (ceilingTaken s) :=
    pressureSample_calm (s := ceilingTaken s) (fun h => by simpa [good] using (good.symm.trans h.1))
      (fun h => by simpa [was] using (was.symm.trans h.2))
  have calm (b : Bool) := evaluateGas_calm (x := regulated raw b s) (by rw [regulated_need, need])
    (fun topping => by
      obtain ⟨-, below, mode⟩ := goesOn.resolve_right (by simpa [regulated_frame] using topping)
      rcases mode with mode | mode <;>
        exact regulated_toppingStays good held within mode (by simpa [regulated_frame] using topping) (by simp) below)
    (by simpa [regulated_frame] using unrelieved) (regulated_unvented good held within (.inl unrelieved))
  have causes : formCauses (pressureSensed raw s) = formCauses s := by
    rw [sensed]
    exact formCauses_congr rfl (good.trans was.symm) rfl rfl rfl rfl rfl
  cases coordinatorFirst
  · obtain ⟨draw, link, sup⟩ := calm false
    have state : reacted raw false s = coordinatorHandOver true (evaluateGas (pressureSensed raw s)) := by
      simp [reacted, waiting]
    have before : regulated raw false s = pressureSensed raw s := rfl
    rw [before] at draw link sup
    refine ⟨evaluateGas (pressureSensed raw s), ?_, ?_, ?_, ?_, ?_, ?_, by rw [state], by rw [state]⟩
    · rw [draw, sensed]; rfl
    · rw [link, sensed]; rfl
    · simp [pressureSensed_frame]
    · simp [pressureSensed_frame]
    · rw [← causes]
      exact formCauses_congr (by simp) (by simp) (by simp) (by simp) (by simp) (by simp) (by simp)
    · exact presentUrgency_congr (by simp) (by simp) (by simp) (by simp) (by simp)
  · obtain ⟨draw, link, -⟩ := calm true
    have before : regulated raw true s = coordinatorHandOver true (pressureSensed raw s) := by
      simp [regulated, handedOver, waiting]
    have state : reacted raw true s = evaluateGas (regulated raw true s) := rfl
    refine ⟨pressureSensed raw s, ?_, ?_, ?_, ?_, causes, rfl, by rw [state, draw, before], by rw [state, link, before]⟩
    · rw [sensed]; rfl
    · rw [sensed]; rfl
    · simp [pressureSensed_frame]
    · simp [pressureSensed_frame]

end

end Sys2Proof.Machine
end

section
/-! ### What the event leaves, part by part -/

namespace Sys2Proof.Machine

theorem exec_event100ms_due {raw : Nat} {coordinatorFirst : Bool} {s : State} (up : s.held = false)
    (due : s.time.due100ms = true) :
    exec (.event100ms raw coordinatorFirst) s = .next (updateLeak (hundredMsEvent raw coordinatorFirst s)) := by
  rw [exec_event100ms, execEvent100ms, perform_running _ up, if_pos due]

/-- PRIORITY exactly in RUN, in SERVE, pouring or below the serve floor (R147). -/
theorem presentUrgency_priority {s : State} {p : Int} (held : heldPressure s.sampling.transducer = some p) :
    presentUrgency s = .priority ↔
      s.sup.station = .run ∧ handedMode s = some .serve ∧ (s.disp.state = .flowing ∨ p < s.setup.serveFloor) := by
  unfold presentUrgency
  rw [held]
  dsimp only
  split
  · next wanted => simpa [and_assoc] using wanted
  · next other => simpa [and_assoc] using other

theorem Raised.congr {a : Alarm} {s t u : State} (h : Raised a s t) (sup : u.sup = t.sup) (link : u.link = t.link) :
    Raised a s u := by
  unfold Raised Queued
  rw [sup, link]
  exact h

theorem Ended.congr {a : Alarm} {s t u : State} (h : Ended a s t) (sup : u.sup = t.sup) (link : u.link = t.link) :
    Ended a s u := by
  unfold Ended Queued
  rw [sup, link]
  exact h

/-! #### The VENT pin (R20, R130) -/

@[simp] theorem dropForcedInlet_vent (s : State) : (dropForcedInlet s).drivers.vent = s.drivers.vent := by
  unfold dropForcedInlet
  split <;> simp

/-- The regulator forces no output but drops a forced INLET (R22). -/
@[simp] theorem evaluateGas_vent (s : State) : (evaluateGas s).drivers.vent = s.drivers.vent := by
  unfold evaluateGas moveGas enterGas leaveGas
  (repeat' split) <;> simp

/-- RELIEF and SENSOR_VENT open VENT whatever drives it (R20). -/
theorem ventPin_of_safety {s : State} (up : s.held = false) (safety : s.gas.state = .relief ∨ s.gas.state = .sensorVent) :
    ventPin s = true := by
  rcases safety with state | state <;> simp [ventPin, safetyVent, up, state]

/-- In VENT_OPEN the pin is the driver's. -/
theorem ventPin_of_ventOpen {s : State} (up : s.held = false) (state : s.gas.state = .ventOpen) :
    ventPin s = s.drivers.vent.apply true := by
  simp [ventPin, safetyVent, up, state]

/-! #### The low-pressure test (R171) -/

@[simp] theorem lowPressureTest_pour (s : State) :
    (lowPressureTest s).disp.state = s.disp.state ∧ (lowPressureTest s).disp.portion = s.disp.portion := by
  unfold lowPressureTest
  (repeat' split) <;> simp

/-- In FLOWING the timer starts below serve floor less 100, where it does not run, and stops from there on (R171). -/
theorem lowPressureTest_flowing {s : State} {p : Int} (flowing : s.disp.state = .flowing)
    (held : heldPressure s.sampling.transducer = some p) :
    (lowPressureTest s).disp =
      { s.disp with lowTimer := if p < s.setup.serveFloor - 100 then some (s.disp.lowTimer.getD 300) else none } := by
  unfold lowPressureTest
  rw [flowing, held]
  dsimp only
  split <;> simp [ms]

/-! #### The whole event -/

section
variable (raw : Nat) (coordinatorFirst : Bool) (s : State)

/-- The part after the event and its leak check. -/
def eventDone : State := updateLeak (hundredMsEvent raw coordinatorFirst s)

@[simp] theorem pressureSample_portion : (pressureSample raw s).disp.portion = s.disp.portion := by
  unfold pressureSample
  dsimp only
  (repeat' split)
  · rw [endFlowing_disp]
    split <;> simp
  all_goals simp

/-- After coordinator and regulator only the low-pressure timer and the leak check may change. -/
theorem eventDone_parts :
    (eventDone raw coordinatorFirst s).draw = (reacted raw coordinatorFirst s).draw ∧
      (eventDone raw coordinatorFirst s).sup = (reacted raw coordinatorFirst s).sup ∧
      (eventDone raw coordinatorFirst s).link = (reacted raw coordinatorFirst s).link ∧
      (eventDone raw coordinatorFirst s).gas.state = (reacted raw coordinatorFirst s).gas.state ∧
      (eventDone raw coordinatorFirst s).gas.pulseTimer = (reacted raw coordinatorFirst s).gas.pulseTimer ∧
      (eventDone raw coordinatorFirst s).gas.openBucket = (reacted raw coordinatorFirst s).gas.openBucket ∧
      (eventDone raw coordinatorFirst s).disp = (lowPressureTest (reacted raw coordinatorFirst s)).disp := by
  simp [eventDone, hundredMsEvent_eq, updateLeak]

theorem eventDone_frame :
    (eventDone raw coordinatorFirst s).held = s.held ∧
      (eventDone raw coordinatorFirst s).sampling = { s.sampling with transducer := pressureReading raw s } ∧
      (eventDone raw coordinatorFirst s).drivers.vent = s.drivers.vent ∧
      (eventDone raw coordinatorFirst s).disp.portion = s.disp.portion ∧
      (eventDone raw coordinatorFirst s).time = { s.time with due100ms := false } := by
  have vent : (reacted raw coordinatorFirst s).drivers.vent = s.drivers.vent := by
    unfold reacted handedOver
    split <;> simp [pressureSensed_frame]
  have portion : (pressureSensed raw s).disp.portion = s.disp.portion := by simp [pressureSensed, ceilingTaken]
  simp [eventDone, hundredMsEvent_eq, reacted_frame, vent, portion]

end

section
variable {raw : Nat} {coordinatorFirst : Bool} {s : State}

theorem eventDone_ceiling : (eventDone raw coordinatorFirst s).gas.ceiling = s.setup.reliefCeiling := by
  rw [eventDone]
  simp

/-- RELIEF and SENSOR_VENT after the event open VENT (R20). -/
theorem eventDone_vented (up : s.held = false) (safety : (reacted raw coordinatorFirst s).gas.state = .relief ∨
    (reacted raw coordinatorFirst s).gas.state = .sensorVent) : ventPin (eventDone raw coordinatorFirst s) = true := by
  exact ventPin_of_safety (by simpa [eventDone_frame] using up) (by simpa [eventDone_parts] using safety)

theorem Raised.eventDone {a : Alarm} (h : Raised a s (reacted raw coordinatorFirst s)) :
    Raised a s (eventDone raw coordinatorFirst s) := by
  obtain ⟨-, sup, link, -⟩ := eventDone_parts raw coordinatorFirst s
  exact h.congr sup link

theorem Ended.eventDone {a : Alarm} (h : Ended a s (reacted raw coordinatorFirst s)) :
    Ended a s (eventDone raw coordinatorFirst s) := by
  obtain ⟨-, sup, link, -⟩ := eventDone_parts raw coordinatorFirst s
  exact h.congr sup link

/-- The urgency after the event (R147). -/
theorem eventDone_priority {p : Int} (held : heldPressure (pressureReading raw s) = some p) :
    (eventDone raw coordinatorFirst s).draw.urgency = .priority ↔
      s.sup.station = .run ∧ handedMode s = some .serve ∧
        ((eventDone raw coordinatorFirst s).disp.state = .flowing ∨ p < s.setup.serveFloor) := by
  have pour : (eventDone raw coordinatorFirst s).disp.state = (pressureSensed raw s).disp.state := by
    simp [eventDone_parts, reacted_frame]
  have urgency : (eventDone raw coordinatorFirst s).draw.urgency = presentUrgency (pressureSensed raw s) := by
    simp [eventDone_parts, reacted_urgency]
  rw [urgency, pour, presentUrgency_priority (p := p) (by simpa [pressureSensed_frame] using held)]
  simp [pressureSensed_frame, handedMode]

/-- In FLOWING a GOOD transducer's pressure is the low-pressure timer's alone (R171). -/
theorem eventDone_flowing {p : Int} (flowing : s.disp.state = .flowing) (good : (pressureReading raw s).state = .good)
    (held : heldPressure (pressureReading raw s) = some p) :
    (eventDone raw coordinatorFirst s).disp =
      { s.disp with lowTimer := if p < s.setup.serveFloor - 100 then some (s.disp.lowTimer.getD 300) else none } := by
  obtain ⟨-, sensed, -⟩ := pressureSample_of_good (s := ceilingTaken s) good
  have disp : (reacted raw coordinatorFirst s).disp = s.disp := by
    simpa [reacted_frame, pressureSensed, ceilingTaken] using sensed
  obtain ⟨-, -, -, -, -, -, tested⟩ := eventDone_parts raw coordinatorFirst s
  rw [tested, lowPressureTest_flowing (p := p) (by rw [disp, flowing]) (by simpa [reacted_frame] using held), disp]
  simp [reacted_frame]

/-- A coordinator in WAITING after its examination on the event (R148, R149). -/
theorem eventDone_waiting {p : Int} (good : (pressureReading raw s).state = .good)
    (held : heldPressure (pressureReading raw s) = some p) (waiting : s.draw.state = .waiting)
    (need : s.draw.need = true) (free : (formCauses s).any = false) (within : p ≤ s.setup.reliefCeiling)
    (unrelieved : s.gas.state ≠ .relief)
    (goesOn : (s.gas.state = .topping ∧ p < s.gas.setpoint ∧
        (enabledMode s = some .carbonate ∨ enabledMode s = some .serve)) ∨ s.gas.state ≠ .topping) :
    let t := eventDone raw coordinatorFirst s
    let s' := { s with draw := { s.draw with urgency := t.draw.urgency } }
    (mayClaim s' = false →
      t.draw = { s.draw with urgency := t.draw.urgency, limit := s.setup.drawLimit, causes := t.draw.causes }) ∧
    (mayClaim s' = true → s.link.silent = false → s.link.queue.length < 6 →
      t.draw.state = .claiming ∧ t.draw.claimUrgency = t.draw.urgency ∧ t.draw.limit = s.setup.drawLimit ∧
      ∃ q ∈ t.link.queue, q.frame = .draw .claim t.draw.urgency s.draw.supplyWeak ∧ q.liveClaim = true) := by
  obtain ⟨e, draw, link, view, setup, causes, urgency, drawDone, linkDone⟩ :=
    reacted_waiting (coordinatorFirst := coordinatorFirst) good held waiting need free within unrelieved goesOn
  obtain ⟨refused, granted⟩ := coordinatorHandOver_waiting (e := e) (by rw [draw, waiting]) (by rw [causes, free])
  obtain ⟨drawKept, -, linkKept, -⟩ := eventDone_parts raw coordinatorFirst s
  have formed : (eventDone raw coordinatorFirst s).draw.urgency = presentUrgency e := by
    rw [drawKept, reacted_urgency, urgency]
  have weak : e.draw.supplyWeak = s.draw.supplyWeak := by rw [draw]
  have permission : mayClaim (urgencyTaken e) =
      mayClaim { s with draw := { s.draw with urgency := (eventDone raw coordinatorFirst s).draw.urgency } } :=
    mayClaim_congr formed.symm weak view setup
  dsimp only
  rw [← permission]
  constructor
  · intro no
    have stays := refused no
    rw [formed, drawKept, drawDone, stays, draw, setup]
  · intro yes loud room
    have claims := granted yes (by rw [link, loud]) (by rwa [link])
    rw [formed, drawKept, linkKept, drawDone, linkDone, ← setup, ← draw]
    exact claims

end

end Sys2Proof.Machine

namespace Sys2Proof
open Sys2Proof.Machine

/-- Settles O26: the transducer is sampled, then coordinator and regulator react in either order, then the low-pressure
test; each clause is the lemma about the one that acts. -/
theorem hundredMsEvent : Obligations.HundredMsEvent := by
  intro raw coordinatorFirst s up due
  obtain ⟨draw, sup, -, state, timer, bucket, -⟩ := eventDone_parts raw coordinatorFirst s
  obtain ⟨held', sampling, vent, portion, time⟩ := eventDone_frame raw coordinatorFirst s
  obtain ⟨-, -, -, station, -⟩ := reacted_frame raw coordinatorFirst s
  refine ⟨eventDone raw coordinatorFirst s, exec_event100ms_due up due, sampling, eventDone_ceiling, ?_⟩
  rw [sampling]
  dsimp only
  rw [state, timer, bucket, draw, sup]
  refine ⟨fun sensor => ?_, fun p good held => ⟨fun above => ?_, fun relief above => ?_, fun relief below => ?_,
      fun mode outside within free => ?_⟩, fun p held => draw ▸ eventDone_priority held,
    fun m p good held within enabled => ⟨fun rest other => ⟨fun above => ?_, fun low below tops => ?_, fun low stays => ?_⟩,
      fun topping tops => ⟨fun below => ?_, fun band high low => ?_, fun below drawing free => ⟨fun full low => ?_,
        fun sound => ?_⟩⟩⟩,
    fun p flowing good held => eventDone_flowing flowing good held,
    fun p held good waiting need _ free within unrelieved goesOn =>
      draw ▸ eventDone_waiting good held waiting need free within unrelieved (goesOn.imp id And.left),
    fun before now => (pressureSensor_raised before now).eventDone,
    fun before now => (pressureSensor_ended before now).eventDone,
    fun before now => (overpressure_raised before now).eventDone,
    fun before now => (overpressure_ended before now).eventDone, ?_⟩
  · obtain ⟨vents, locked⟩ := reacted_of_sensor (coordinatorFirst := coordinatorFirst) sensor
    exact ⟨vents, eventDone_vented up (.inr vents), locked⟩
  · have entered := reacted_overCeiling (coordinatorFirst := coordinatorFirst) good held above
    exact ⟨entered, eventDone_vented up (.inl entered)⟩
  · have goesOn := reacted_reliefStays (coordinatorFirst := coordinatorFirst) good held relief above
    exact ⟨goesOn, eventDone_vented up (.inl goesOn)⟩
  · have left : (reacted raw coordinatorFirst s).gas.state ≠ .relief :=
      reacted_state ▸ (regulated_unvented good held (by omega) (.inr below)).1
    exact ⟨left, (overpressure_cleared relief left).1⟩
  · have opened := reacted_openKeg (coordinatorFirst := coordinatorFirst) good held mode outside within free
    exact ⟨opened, by rw [ventPin_of_ventOpen (held'.trans up) (state.trans opened), vent]⟩
  · have pulse := reacted_pulse (coordinatorFirst := coordinatorFirst) good held within enabled rest other above
    simp [pulse, Gas.moveTo, ms]
  · have topping := reacted_topping (coordinatorFirst := coordinatorFirst) good held within enabled rest other low below tops
    simp [topping, Gas.moveTo]
  · have stands := reacted_rest (coordinatorFirst := coordinatorFirst) good held within enabled rest other low stays
    simp [stands, rest]
  · have decided := regulated_toppingStays (coordinatorFirst := coordinatorFirst) good held within enabled topping tops below
    refine ⟨reacted_state.trans decided, ?_⟩
    rw [reacted_toppingStays good held within enabled topping tops below]
    exact regulated_need (coordinatorFirst := true)
  · exact reacted_toppingEnds good held within enabled topping band high low
  · obtain ⟨recover, timer, weak, active, raised⟩ := reacted_weak (coordinatorFirst := coordinatorFirst) good held within
      enabled topping tops below drawing (by rwa [reacted_causes] at free) full low
    exact ⟨recover, timer, weak, active, raised.eventDone⟩
  · have goesOn := reacted_sound (coordinatorFirst := coordinatorFirst) good held within enabled topping tops below drawing
      (by rwa [reacted_causes] at free) sound
    rw [goesOn]
    exact ⟨drawing, rfl, rfl, rfl⟩
  · simp [time, portion, station]
    simp [eventDone]

end Sys2Proof
end

section
/-! ## The banks, the current step, the setpoint accumulator and the integral (R69, R70, R73, R93, R99): O9 -/

namespace Sys2Proof.Machine

/-! ### Step records (R70, R71) -/

theorem clampNat_between {lo hi : Nat} (h : lo ≤ hi) (n : Nat) : lo ≤ clampNat lo hi n ∧ clampNat lo hi n ≤ hi := by
  unfold clampNat
  split
  · omega
  · split <;> omega

/-- The octet of an ACTIVITY_LOW's threshold bounds it (R201). -/
theorem rawStep_threshold {record : List Byte} {x : RawStep} (h : rawStep record = some x) : x.p8 ≤ 255 := by
  unfold rawStep at h
  split at h
  · next o8 _ _ _ =>
    cases h
    have := o8.isLt
    dsimp only
    omega
  · nomatch h

/-- A record that passes checks 3 to 7 of R71. -/
theorem RawStep.argument_record {x : RawStep} {r : StepRecord} {clamped : Bool} (h : x.argument = .record r clamped) :
    r = x.stored ∧ x.undefinedField = false ∧ (x.ending = 1 → x.mode = 1) := by
  unfold argument at h
  (repeat' split at h) <;> simp_all

theorem RawStep.endKind_activityLow {x : RawStep} {hours threshold : Nat} (h : x.endKind = .activityLow hours threshold) :
    x.ending = 1 ∧ hours = clampNat 1 8 x.p7 ∧ threshold = x.p8 := by
  unfold endKind at h
  (repeat' split at h) <;> simp_all

theorem RawStep.endKind_groupSync {x : RawStep} {group : Nat} (h : x.endKind = .groupSync group) :
    x.ending = 2 ∧ group = x.p7 := by
  unfold endKind at h
  (repeat' split at h) <;> simp_all

/-- A record that is stored is legal (R70, R71). -/
theorem RawStep.stored_legal {x : RawStep} (octet : x.p8 ≤ 255) (defined : x.undefinedField = false)
    (spund : x.ending = 1 → x.mode = 1) : x.stored.Legal := by
  simp only [undefinedField, Bool.or_eq_false_iff, decide_eq_false_iff_not, Bool.and_eq_false_iff] at defined
  obtain ⟨⟨⟨-, ending⟩, group⟩, sync⟩ := defined
  refine ⟨clamp_between (by decide) _, (clampNat_between (lo := 0) (by decide) _).2, clampNat_between (by decide) _,
    ?_, ?_, ?_, ?_, ?_⟩
  · intro rate ramp
    simp only [stored] at ramp
    split at ramp
    · nomatch ramp
    · cases ramp
      exact clampNat_between (by decide) _
  · intro v target
    simp only [stored, treatmentOf] at target
    split at target
    · nomatch target
    all_goals
      cases target
      exact clampNat_between (by decide) _
  · intro g out
    simp only [stored] at out
    split at out
    · nomatch out
    · cases out
      omega
  · intro n h low
    obtain ⟨one, rfl, rfl⟩ := endKind_activityLow low
    refine ⟨clampNat_between (by decide) _, octet, ?_⟩
    simp [stored, spund one, gasModeOf, treatmentOf, GasTreatment.mode]
  · intro g waits
    obtain ⟨two, rfl⟩ := endKind_groupSync waits
    simp only [two, not_true_eq_false, false_or] at group
    omega

/-! ### Banks and slots (R69, R73) -/

theorem SeqOk.bank {q : Sequencer} (ok : SeqOk q) (bank : Bank) : BankOk (q.bank bank) := by
  obtain ⟨bankA, bankB, -⟩ := ok
  cases bank
  exacts [bankA, bankB]

/-- A record in a slot is legal (R70). -/
theorem SeqOk.legal {q : Sequencer} (ok : SeqOk q) {bank : Bank} {i : Nat} {r : StepRecord}
    (slot : q.slot bank i = some r) : r.Legal := by
  obtain ⟨-, legal⟩ := ok.bank bank
  exact legal r (List.mem_of_getElem? (Option.join_eq_some_iff.1 slot))

theorem SeqOk.current_legal {q : Sequencer} (ok : SeqOk q) {r : StepRecord} (current : q.current = some r) :
    r.Legal := by
  unfold Sequencer.current at current
  split at current
  · nomatch current
  · exact ok.legal current

theorem BankOk.set {slots : List (Option StepRecord)} (ok : BankOk slots) (i : Nat) {r : Option StepRecord}
    (legal : ∀ x, r = some x → x.Legal) : BankOk (slots.set i r) := by
  obtain ⟨length, records⟩ := ok
  refine ⟨by simpa using length, fun x hx => ?_⟩
  rcases List.mem_or_eq_of_mem_set hx with old | new
  exacts [records x old, legal x new.symm]

/-- A WRITE_STEP leaves the active bank, and so the current step (R69). -/
theorem SeqOk.write {q : Sequencer} (ok : SeqOk q) (i : Nat) {r : Option StepRecord}
    (legal : ∀ x, r = some x → x.Legal) : SeqOk (q.write i r) := by
  obtain ⟨bankA, bankB, place⟩ := ok
  unfold Sequencer.write
  split
  · next active => exact ⟨bankA, bankB.set i legal, by simpa [Sequencer.slot, Sequencer.bank, active] using place⟩
  · next active => exact ⟨bankA.set i legal, bankB, by simpa [Sequencer.slot, Sequencer.bank, active] using place⟩

/-- Out of IDLE a phase and a record in the current slot are all that the banks ask for (R73). -/
theorem seqOk_of_busy {q : Sequencer} (banks : ∀ bank, BankOk (q.bank bank)) (busy : q.profile ≠ .idle)
    (phase : q.phase.isSome = true) (slot : (q.slot q.active q.index).isSome = true) : SeqOk q :=
  ⟨banks .a, banks .b, by rw [if_neg busy]; exact ⟨phase, slot⟩⟩

theorem SeqOk.busy {q : Sequencer} (ok : SeqOk q) (busy : q.profile ≠ .idle) :
    q.phase.isSome = true ∧ (q.slot q.active q.index).isSome = true := by
  obtain ⟨-, -, place⟩ := ok
  rwa [if_neg busy] at place

theorem Sequencer.busy_of_current {q : Sequencer} {r : StepRecord} (current : q.current = some r) :
    q.profile ≠ .idle := by
  intro idle
  simp [Sequencer.current, idle] at current

/-- The step goes on in another phase, or with another count (R75, R76). -/
theorem SeqOk.set_phase {q : Sequencer} (ok : SeqOk q) (busy : q.profile ≠ .idle) (p : Phase) (n : Nat) :
    SeqOk { q with phase := some p, count := n } := by
  obtain ⟨-, slot⟩ := ok.busy busy
  exact seqOk_of_busy ok.bank busy rfl slot

/-- The profile state changes with its step kept (R83, R88, R89). -/
theorem SeqOk.set_profile {q : Sequencer} (ok : SeqOk q) (busy : q.profile ≠ .idle) {p : ProfileState}
    (still : p ≠ .idle) : SeqOk { q with profile := p } := by
  obtain ⟨phase, slot⟩ := ok.busy busy
  exact seqOk_of_busy ok.bank still phase slot

/-! ### The accumulators (R93, R95, R99) -/

/-- The ramp stays between the setpoint held and its target (R95). -/
theorem moveToward_between {a t inc lo hi : Int} (forward : 0 ≤ inc) (low : lo ≤ a) (high : a ≤ hi)
    (targetLow : lo ≤ t * 65536) (targetHigh : t * 65536 ≤ hi) :
    lo ≤ (moveToward a t inc).1 ∧ (moveToward a t inc).1 ≤ hi := by
  unfold moveToward
  dsimp only
  (repeat' split) <;> dsimp only <;> omega

theorem nextIntegral_between {side : ClampSide} {acc e ki : Int} (low : 0 ≤ acc) (high : acc ≤ 25600) :
    0 ≤ nextIntegral side acc e ki ∧ nextIntegral side acc e ki ≤ 25600 := by
  unfold nextIntegral
  split
  · exact ⟨low, high⟩
  · exact clamp_between (by decide) _

/-- A window's integral is the one held, or R99's next. -/
theorem formWindow_integral (s : State) :
    (formWindow s).temp.integral = s.temp.integral ∨
      ∃ e, (formWindow s).temp.integral = nextIntegral s.temp.clampSide s.temp.integral e s.setup.ki := by
  unfold formWindow
  split
  · exact .inl (by simp)
  · exact .inr ⟨_, by simp; rfl⟩

/-- A step starts in some phase (R76). -/
theorem stepPlaced_phase (index : Nat) (r : StepRecord) (s : State) :
    (stepPlaced index r s).seq.phase.isSome = true := by
  unfold stepPlaced enterSoaking
  dsimp only
  (repeat' split) <;> rfl

/-- A step's start leaves the setpoint that is held, or takes the step's target (R94). -/
theorem stepPlaced_temp (index : Nat) (r : StepRecord) (s : State) :
    (stepPlaced index r s).temp = s.temp ∨
      (stepPlaced index r s).temp = { s.temp with accumulator := r.target * 65536 } := by
  unfold stepPlaced
  dsimp only
  generalize placed : s.mapSeq _ = x
  have held : x.temp = s.temp := placed ▸ rfl
  split
  exacts [.inl held, .inr (by simp [held])]

/-! ### The shared operations, in the order of their definitions -/

/-- The banks are legal, a profile out of IDLE has its current step, and the accumulators lie in their ranges (R69, R70,
R73, R93, R99). -/
def Profiled (s : State) : Prop := SeqOk s.seq ∧ TempOk s.temp

section
variable {s : State} (inv : Profiled s)
include inv

/-- The invariant hangs on the sequencer and the two accumulators alone. -/
theorem Profiled.stands {t : State} (same : t.seq = s.seq ∧ t.temp.accumulator = s.temp.accumulator ∧
    t.temp.integral = s.temp.integral) : Profiled t := by
  obtain ⟨seq, accumulator, integral⟩ := same
  unfold Profiled TempOk
  rw [seq, accumulator, integral]
  exact inv

/-- A row that acts only on its occasion keeps the invariant where its action there does. -/
theorem Profiled.ite {t : State} {p : Prop} [Decidable p] (acts : p → Profiled t) : Profiled (if p then t else s) := by
  split
  · next occasion => exact acts occasion
  · exact inv

theorem Profiled.mapSeq {f : Sequencer → Sequencer} (keeps : SeqOk (f s.seq)) : Profiled (s.mapSeq f) :=
  ⟨keeps, inv.2⟩

theorem Profiled.formWindow : Profiled (formWindow s) := by
  obtain ⟨ok, ⟨accumulator, low, high⟩⟩ := inv
  refine ⟨by simpa using ok, by simpa using accumulator, ?_⟩
  rcases formWindow_integral s with same | ⟨e, next⟩
  · rw [same]
    exact ⟨low, high⟩
  · rw [next]
    exact nextIntegral_between low high

theorem Profiled.rampMove : Profiled (rampMove s).1 := by
  unfold Machine.rampMove
  split
  · next rate target _ _ _ _ _ current =>
    split
    · obtain ⟨ok, ⟨⟨low, high⟩, integral⟩⟩ := inv
      obtain ⟨⟨targetLow, targetHigh⟩, -⟩ := ok.current_legal current
      have moved := moveToward_between (inc := rampIncrement rate) (Int.natCast_nonneg _) low high
        (t := target) (by dsimp only at targetLow; omega) (by dsimp only at targetHigh; omega)
      exact ⟨ok, moved, integral⟩
    · exact inv
  · exact inv

omit inv in
/-- A step's start brings the sequencer to its slot, in some phase, with the setpoint held or the step's target (R76,
R77, R94). -/
theorem beginStep_profiled (m : Option GasMode) {i : Nat} {r : StepRecord} {s : State}
    (banks : ∀ bank, BankOk (s.seq.bank bank)) (busy : s.seq.profile ≠ .idle)
    (slot : s.seq.slot s.seq.active i = some r) (legal : r.Legal) (temp : TempOk s.temp) : Profiled (beginStep m i r s) := by
  obtain ⟨placed, heated⟩ := beginStep_placed m i r s
  obtain ⟨p, seq⟩ := stepPlaced_seq i r s
  have phase := stepPlaced_phase i r s
  unfold Profiled
  rw [placed, heated]
  constructor
  · rw [seq] at phase ⊢
    exact seqOk_of_busy banks busy phase (by simpa [Sequencer.slot, Sequencer.bank] using congrArg Option.isSome slot)
  · obtain ⟨accumulator, integral⟩ := temp
    obtain ⟨⟨low, high⟩, -⟩ := legal
    rcases stepPlaced_temp i r s with same | taken
    · rw [same]
      exact ⟨accumulator, integral⟩
    · rw [taken]
      exact ⟨⟨by dsimp only; omega, by dsimp only; omega⟩, integral⟩

theorem Profiled.takeSwitch (n : Nat) : Profiled (takeSwitch n s) := by
  obtain ⟨ok, temp⟩ := inv
  unfold Machine.takeSwitch
  dsimp only
  split
  · exact ⟨ok, temp⟩
  · next r slot =>
    refine beginStep_profiled _ ok.bank ?_ slot (ok.legal slot) temp
    simp only [State.mapSeq_seq, afterSwitch_eq]
    split <;> simp

theorem Profiled.changeProfile (busy : s.seq.profile ≠ .idle) {p : ProfileState} (still : p ≠ .idle) :
    Profiled (changeProfile p s) :=
  (inv.mapSeq (f := fun q => { q with profile := p }) (inv.1.set_profile busy still)).stands (by simp [Machine.changeProfile])

theorem Profiled.endStep (busy : s.seq.profile ≠ .idle) : Profiled (endStep s) := by
  unfold Machine.endStep
  split
  · exact inv.takeSwitch _
  · split
    · next r next =>
      obtain ⟨ok, temp⟩ := inv
      unfold nextSlot at next
      split at next
      · exact beginStep_profiled _ ok.bank busy next (ok.legal next) temp
      · nomatch next
    · exact inv.changeProfile busy (by decide)

omit inv in
theorem Profiled.chain (n : Nat) {s : State} (inv : Profiled s) : Profiled (chain n s) := by
  induction n generalizing s with
  | zero => exact inv
  | succ n ih =>
    exact inv.ite fun met => ih (inv.endStep (by simp [profile_of_waitingEndMet met]))

theorem Profiled.endStepChain (busy : s.seq.profile ≠ .idle) : Profiled (endStepChain s) := (inv.endStep busy).chain _

theorem Profiled.takeSwitchChain (n : Nat) : Profiled (takeSwitchChain n s) := (inv.takeSwitch n).chain _

theorem Profiled.elapseDuration : Profiled (elapseDuration s) := by
  refine inv.ite fun up => Profiled.chain _ (inv.mapSeq ?_)
  obtain ⟨r, current, -⟩ := (durationUp_eq_true s).1 up
  exact inv.1.set_phase (Sequencer.busy_of_current current) _ _

theorem Profiled.targetReached : Profiled (targetReached s) := by
  unfold Machine.targetReached
  split
  · next r current => exact Profiled.chain _ (inv.mapSeq (inv.1.set_phase (Sequencer.busy_of_current current) _ _))
  · exact inv

theorem Profiled.countMinute : Profiled (countMinute s) := by
  refine inv.ite fun counts => inv.mapSeq ?_
  obtain ⟨bankA, bankB, place⟩ := inv.1
  exact ⟨bankA, bankB, place⟩

theorem Profiled.groupSyncAccepted (g : Nat) : Profiled (groupSyncAccepted g s) := by
  have ends : s.seq.profile = .running ∧ s.seq.phase = some .waiting ∧
      (s.seq.current.map (·.endKind)) = some (.groupSync g) → Profiled (Machine.endStepChain s) :=
    fun ⟨running, _⟩ => inv.endStepChain (by simp [running])
  have synced : Profiled (groupSyncAtSequencer g s) := by
    unfold groupSyncAtSequencer
    split
    · split
      exacts [inv.takeSwitchChain _, inv.ite ends]
    · exact inv.ite ends
  exact synced.stands (by simp [Machine.groupSyncAccepted])

end

/-! ### The events, and the commands' replies -/

section
variable {s : State} (inv : Profiled s)
include inv

theorem Profiled.sequencerMinute (b : Bool) : Profiled (sequencerMinute b s) := by
  unfold Machine.sequencerMinute
  split
  exacts [inv.targetReached, inv.countMinute]

theorem Profiled.oneMinuteEvent (b : Bool) : Profiled (oneMinuteEvent b s) := by
  have counted (x : State) (inv : Profiled x) : Profiled (countIdle x) := inv.stands (by simp)
  have computed (x : State) (inv : Profiled x) : Profiled (computeSetpoint x) := inv.stands (by simp)
  have begun : Profiled (s.mapTime fun t => { t with due1min := false, uptime := nextUptime t.uptime }) :=
    inv.stands (by simp)
  unfold Machine.oneMinuteEvent
  dsimp only
  split
  · exact counted _ (computed _ (begun.rampMove.sequencerMinute _).elapseDuration).formWindow
  · exact counted _ ((computed _ begun.rampMove).formWindow.sequencerMinute _)

theorem Profiled.oneHourEvent : Profiled (oneHourEvent s) := by
  have completed : Profiled (completeBucket (leakHour (s.mapTime fun t => { t with due1h := false }))) :=
    inv.stands (by simp)
  unfold Machine.oneHourEvent
  dsimp only
  split
  exacts [completed, completed.chain _]

/-- A pending switch has no part in the invariant (R80). -/
theorem Profiled.setPending (p : Option PendingSwitch) : Profiled (setPending p s) := by
  obtain ⟨bankA, bankB, place⟩ := inv.1
  exact inv.mapSeq ⟨bankA, bankB, place⟩

theorem Profiled.recordSwitch (source start group : Nat) : Profiled (recordSwitch source start group s) := by
  unfold Machine.recordSwitch
  (repeat' split)
  exacts [inv.takeSwitchChain _, inv.setPending _, inv.setPending _]

/-- A record that passes R71's checks is legal, and stored outside the active bank (R69, R71). -/
theorem Profiled.writeStepReply (args : List Byte) : Profiled (writeStepReply args s).state := by
  unfold Machine.writeStepReply
  split
  · exact inv
  split
  · exact inv
  split
  · exact inv
  split
  · exact inv.mapSeq (inv.1.write _ nofun)
  · next r clamped checked =>
    obtain ⟨x, raw, passes⟩ := Option.map_eq_some_iff.1 checked
    obtain ⟨rfl, defined, spund⟩ := RawStep.argument_record passes
    refine inv.mapSeq (inv.1.write _ ?_)
    rintro _ ⟨⟩
    exact RawStep.stored_legal (rawStep_threshold raw) defined spund
  · exact inv
  · exact inv

theorem Profiled.stopProfile : Profiled (stopProfile s) := by
  refine Profiled.ite ?_ fun _ => inv.setPending none
  have stopped : Profiled (s.mapSeq fun q =>
      { q with profile := .idle, index := 0, phase := none, count := 0, pendingSwitch := none }) :=
    inv.mapSeq ⟨inv.1.bank .a, inv.1.bank .b, rfl, rfl⟩
  exact stopped.stands (by simp)

omit inv in
theorem tempOk_default : TempOk {} := by simp [TempOk]

/-- Every command keeps the invariant. -/
theorem Profiled.reply (n : CommandName) (args : List Byte) : Profiled (n.reply args s).state := by
  cases n <;> dsimp only [CommandName.reply]
  case writeStep => exact inv.writeStepReply args
  case restart =>
    obtain ⟨-, -, -, -, temp, -, seq, -⟩ := restartStation_resets s
    rw [answer, Profiled, seq, temp]
    exact ⟨⟨inv.1.bank .a, inv.1.bank .b, rfl, rfl⟩, tempOk_default⟩
  case stopProfile => exact inv.stopProfile
  case advance =>
    unfold advanceReply
    split
    · next busy => exact inv.endStepChain (by rcases busy with p | p <;> simp [p])
    · exact inv
  case pauseProfile =>
    unfold pauseReply
    split
    · next running => exact inv.changeProfile (by simp [running]) (by decide)
    · exact inv
  case resumeProfile =>
    unfold resumeReply
    split
    · next paused => exact (inv.changeProfile (by simp [paused]) (by decide)).chain _
    · exact inv
  case switchBank =>
    unfold switchBankReply
    (repeat' split)
    exacts [inv, inv.setPending _, inv, inv, inv.recordSwitch _ _ _, inv.recordSwitch _ _ _, inv]
  case clearSupply => exact inv.stands (by simp [answer])
  all_goals exact inv.stands (by simp)

theorem Profiled.claimSent : Profiled (claimSent s) := inv.stands (by simp)

theorem Profiled.acceptFrame {h : Header} {act : State → State} (acts : ∀ x, Profiled x → Profiled (act x)) :
    Profiled (acceptFrame h act s) :=
  acceptFrame_keeps (fun _ _ inv => inv.stands (by simp)) (fun _ inv => inv.stands (by simp))
    (fun _ _ _ inv => acts _ inv) inv

theorem Profiled.commandFrame (n : CommandName) (h : Header) (tag : Byte) (args : List Byte) :
    Profiled (commandFrame n h tag args (n.reply args) s) :=
  commandFrame_keeps (fun _ _ inv => inv.stands (by simp)) (fun _ inv => inv.stands (by simp))
    (fun _ inv => inv.stands (by simp)) (fun _ _ inv => inv.stands (by simp)) (fun _ inv => inv.reply n args) inv

/-- The own GROUP_SYNC sent reaches the own sequencer (R41). -/
theorem Profiled.completeSend (a : Attempt) (q : QFrame) (rest : List QFrame) : Profiled (completeSend a q rest s) := by
  have ended : Profiled (endAlarm .linkFault (s.mapLink fun l =>
      { l with queue := rest, attempt := none, bus := .busy, dropCount := 0,
               txDropped := l.txDropped && !(a.carriesTxDropped && !a.droppedSince) })) := inv.stands (by simp)
  have reported := ended.ite (p := q.liveClaim = true) fun _ => ended.claimSent
  unfold Machine.completeSend reportSend
  dsimp only
  split
  · exact reported.ite fun _ => reported.groupSyncAccepted _
  all_goals exact reported

end

/-! ### Every command -/

theorem profiled_default : SeqOk {} ∧ TempOk {} := ⟨⟨bankOk_empty, bankOk_empty, rfl, rfl⟩, tempOk_default⟩

theorem profiled_powerOn (p : Straps) (s : State) : Profiled (powerOn p s) := by
  rw [powerOn_eq]
  exact profiled_default

/-- Every command keeps the invariant. -/
theorem profiled_exec {c : Instr} {s t : State} (next : exec c s = .next t) (inv : Profiled s) : Profiled t := by
  have leak (x : State) (inv : Profiled x) : Profiled (updateLeak x) := inv.stands (by simp)
  have command {n : CommandName} {h : Header} {tag : Byte} {args : List Byte}
      (next : exec (n.row h tag args) s = .next t) : Profiled t :=
    perform_keeps ((exec_row n h tag args s).symm.trans next) leak (fun _ inv => inv.commandFrame n h tag args) inv
  cases c <;> have run := next <;> dsimp only [exec] at run
  case powerOn p =>
    cases run
    exact profiled_powerOn p s
  case rstnHeldLow =>
    cases run
    exact profiled_default
  case setupItem => exact command (n := .setupItem) next
  case start => exact command (n := .start) next
  case restart => exact command (n := .restart) next
  case forceOutput => exact command (n := .forceOutput) next
  case writeStep => exact command (n := .writeStep) next
  case readStep => exact command (n := .readStep) next
  case switchBank => exact command (n := .switchBank) next
  case advance => exact command (n := .advance) next
  case pauseProfile => exact command (n := .pauseProfile) next
  case resumeProfile => exact command (n := .resumeProfile) next
  case stopProfile => exact command (n := .stopProfile) next
  case clearSupply => exact command (n := .clearSupply) next
  case setLevel => exact command (n := .setLevel) next
  case armPortion => exact command (n := .armPortion) next
  case readPour => exact command (n := .readPour) next
  case dropPours => exact command (n := .dropPours) next
  case readView => exact command (n := .readView) next
  case quiet => exact command (n := .quiet) next
  case wake => exact command (n := .wake) next
  case clearAlarms => exact command (n := .clearAlarms) next
  case leaveSafe => exact command (n := .leaveSafe) next
  all_goals refine perform_keeps run leak (fun _ inv => ?_) inv
  case event10ms => exact Profiled.ite (inv.stands (by simp)) fun _ => inv
  case event1min first _ => exact inv.ite fun _ => inv.oneMinuteEvent first
  case event1h => exact inv.ite fun _ => inv.oneHourEvent
  case durationElapsed => exact inv.elapseDuration
  case receiveGroupSync =>
    refine inv.acceptFrame fun x inv => ?_
    (repeat' split)
    exacts [inv.groupSyncAccepted _, inv]
  case receiveBayState | receiveDraw | receiveCoolCap | receivePour | unknownCommand =>
    refine inv.acceptFrame fun x inv => inv.stands ?_
    (repeat' split) <;> simp [queueResult, refuse]
  case auxLineChange line _ => cases line <;> exact inv.ite fun _ => inv.stands (by simp)
  case heaterOnTimeEnd => exact inv.ite fun _ => inv.stands (by simp)
  case event100ms | event1s | handlePress | handleRelease | extStopActive | extStopInactive | glycolOpenTimeEnd
      | reportTimer | idleTimerExpiry | pulseTimerEnd | settleEnd | settleWindowEnd | keepTimerPeriod | backoffEnd
      | recoverEnd | stallTimerStart | stallTimerEnd | lowPressureTimerEnd | tailTimerEnd | portionExpiry | busIdle
      | txAttemptStart | firstStartBit =>
    exact inv.ite fun _ => inv.stands (by simp)
  case flowPulse | frameDiscarded | peerPartExpiry => exact inv.stands (by simp)
  case arbitrationLost | bitError =>
    split
    exacts [inv, inv.ite fun _ => inv.stands (by simp)]
  case frameSent =>
    split
    exacts [inv.completeSend _ _ _, inv]

/-- Settles O9: the command taken keeps the invariant, in which the commands that wait have no part. -/
theorem profileAndSetpointKept : Obligations.ProfileAndSetpointKept := by
  intro s t next inv
  unfold step at next
  split at next
  · cases next
    exact inv
  · exact profiled_exec next inv

end Sys2Proof.Machine
end

section
/-! ## Step records on the bus, WRITE_STEP, SWITCH_BANK, READ_STEP and READ_POUR (R71, R72, R80, R178, R202): O54, O55 -/

namespace Sys2Proof.Machine

/-! ### Words (R196) -/

@[simp] theorem byte_toNat (n : Nat) : (byte n).toNat = n % 256 := BitVec.toNat_ofNat n 8

theorem word16_be16 {n : Nat} (word : n < 65536) : word16 (byte (n / 256)) (byte n) = n := by
  rw [word16, byte_toNat, byte_toNat]
  omega

/-- A signed value written in two octets and read again (R196). -/
theorem signed16_be16 {x : Int} (low : -32768 ≤ x) (high : x < 32768) :
    signed16 (byte (twos 16 x / 256)) (byte (twos 16 x)) = x := by
  have bits : (byte (twos 16 x / 256) ++ byte (twos 16 x)).toNat = twos 16 x := by
    rw [BitVec.toNat_append, ← Nat.shiftLeft_add_eq_or_of_lt (byte (twos 16 x)).isLt, Nat.shiftLeft_eq, byte_toNat,
      byte_toNat, twos]
    omega
  rw [signed16, BitVec.toInt_eq_toNat_cond, bits, twos]
  split <;> omega

/-! ### The octets of a step record (R201) -/

/-- The 12 octets of a record's fields (R201). -/
def RawStep.octets (x : RawStep) : List Byte :=
  [byte (x.kind * 64 + x.ending * 8 + x.mode * 2)] ++ be16 (twos 16 x.target) ++ be16 x.rate ++ be16 x.duration ++
    [byte x.p7, byte x.p8] ++ be16 x.carbonation ++ [byte (x.weight * 32 + x.sync)]

/-- Every field has room in its place (R201). -/
structure RawStep.Fits (x : RawStep) : Prop where
  kind : x.kind < 4
  ending : x.ending < 8
  mode : x.mode < 4
  target : -32768 ≤ x.target ∧ x.target < 32768
  rate : x.rate < 65536
  duration : x.duration < 65536
  p7 : x.p7 < 256
  p8 : x.p8 < 256
  carbonation : x.carbonation < 65536
  weight : x.weight < 8
  sync : x.sync < 8

theorem rawStep_octets {x : RawStep} (fits : x.Fits) : rawStep x.octets = some x := by
  obtain ⟨kind, ending, mode, ⟨low, high⟩, rate, duration, p7, p8, carbonation, weight, sync⟩ := fits
  have parts : rawStep x.octets = some
      { kind := bitsOf (byte (x.kind * 64 + x.ending * 8 + x.mode * 2)) 7 6,
        ending := bitsOf (byte (x.kind * 64 + x.ending * 8 + x.mode * 2)) 5 3,
        mode := bitsOf (byte (x.kind * 64 + x.ending * 8 + x.mode * 2)) 2 1,
        target := signed16 (byte (twos 16 x.target / 256)) (byte (twos 16 x.target)),
        rate := word16 (byte (x.rate / 256)) (byte x.rate),
        duration := word16 (byte (x.duration / 256)) (byte x.duration),
        p7 := (byte x.p7).toNat, p8 := (byte x.p8).toNat,
        carbonation := word16 (byte (x.carbonation / 256)) (byte x.carbonation),
        weight := bitsOf (byte (x.weight * 32 + x.sync)) 7 5, sync := bitsOf (byte (x.weight * 32 + x.sync)) 2 0 } := rfl
  rw [parts, signed16_be16 low high, word16_be16 rate, word16_be16 duration, word16_be16 carbonation]
  obtain ⟨k, e, m, t, rt, d, a, b, c, w, y⟩ := x
  simp only [bitsOf, byte_toNat, Option.some.injEq, RawStep.mk.injEq, true_and] at *
  omega

/-- The fields of a record as its octets hold them, absent ones 0 (R201). -/
def StepRecord.raw (r : StepRecord) : RawStep where
  kind := match r.kind with
    | .soak => 1
    | .ramp _ => 2
  ending := match r.endKind with
    | .time => 0
    | .activityLow _ _ => 1
    | .groupSync _ => 2
    | .panel => 3
    | .stay => 4
  mode := r.gas.mode.code
  target := r.target
  rate := match r.kind with
    | .soak => 0
    | .ramp x => x
  duration := r.duration
  p7 := match r.endKind with
    | .activityLow n _ => n
    | .groupSync g => g
    | .time | .panel | .stay => 0
  p8 := match r.endKind with
    | .activityLow _ h => h
    | .time | .groupSync _ | .panel | .stay => 0
  carbonation := r.gas.target.getD 0
  weight := r.weight
  sync := r.syncOut.getD 0

theorem stepOctets_some (r : StepRecord) : stepOctets (some r) = r.raw.octets := by
  obtain ⟨kind, target, duration, ending, gas, weight, sync⟩ := r
  cases kind <;> cases ending <;> rfl

theorem clampNat_of_between {lo hi n : Nat} (low : lo ≤ n) (high : n ≤ hi) : clampNat lo hi n = n := by
  unfold clampNat
  rw [if_neg (by omega), if_neg (by omega)]

theorem clampNat_eq_max_min {lo hi : Nat} (h : lo ≤ hi) (n : Nat) : clampNat lo hi n = max lo (min hi n) := by
  unfold clampNat
  split
  · omega
  · split <;> omega

section
variable {r : StepRecord} (legal : r.Legal)
include legal

theorem StepRecord.Legal.raw_fits : r.raw.Fits := by
  obtain ⟨target, duration, weight, rate, volumes, sync, low, group⟩ := legal
  have carbonation : r.gas.target.getD 0 ≤ 400 := by
    cases h : r.gas.target with
    | none => simp
    | some v => exact (volumes v h).2
  have syncOut : r.syncOut.getD 0 ≤ 4 := by
    cases h : r.syncOut with
    | none => simp
    | some g => exact (sync g h).2
  have mode : r.gas.mode.code < 4 := by cases r.gas <;> simp [GasTreatment.mode, GasMode.code]
  have ramp : r.raw.rate ≤ 1024 := by
    cases h : r.kind with
    | soak => simp [StepRecord.raw, h]
    | ramp x => simpa [StepRecord.raw, h] using (rate x h).2
  have ending : r.raw.ending ≤ 4 ∧ r.raw.p7 ≤ 8 ∧ r.raw.p8 ≤ 255 := by
    cases h : r.endKind with
    | activityLow n t =>
      obtain ⟨⟨-, hours⟩, threshold, -⟩ := low n t h
      simp [StepRecord.raw, h, hours, threshold]
    | groupSync g =>
      obtain ⟨-, four⟩ := group g h
      simp only [StepRecord.raw, h]
      omega
    | time | panel | stay => simp [StepRecord.raw, h]
  have kind : r.raw.kind < 4 := by cases h : r.kind <;> simp [StepRecord.raw, h]
  exact ⟨kind, by omega, mode, by simp only [StepRecord.raw]; omega, by omega, by simp only [StepRecord.raw]; omega,
    by omega, by omega, by simp only [StepRecord.raw]; omega, by simp only [StepRecord.raw]; omega,
    by simp only [StepRecord.raw]; omega⟩

theorem StepRecord.Legal.raw_undefinedField : r.raw.undefinedField = false := by
  obtain ⟨-, -, -, -, -, sync, -, group⟩ := legal
  have kind : r.raw.kind ≠ 3 := by cases h : r.kind <;> simp [StepRecord.raw, h]
  have syncOut : r.raw.sync < 5 := by
    cases h : r.syncOut with
    | none => simp [StepRecord.raw, h]
    | some g =>
      have := (sync g h).2
      simp only [StepRecord.raw, h, Option.getD_some]
      omega
  have ending : r.raw.ending < 5 ∧ (r.raw.ending = 2 → 1 ≤ r.raw.p7 ∧ r.raw.p7 ≤ 4) := by
    cases h : r.endKind with
    | groupSync g => simpa [StepRecord.raw, h] using group g h
    | time | activityLow | panel | stay => simp [StepRecord.raw, h]
  simp only [RawStep.undefinedField, Bool.or_eq_false_iff, Bool.and_eq_false_iff, decide_eq_false_iff_not]
  omega

/-- The fields of a legal record lie in their ranges, where its kind, end or gas mode carries them (R70). -/
theorem StepRecord.Legal.raw_within :
    clamp (-64) 512 r.raw.target = r.raw.target ∧ clampNat 0 999 r.raw.duration = r.raw.duration ∧
      clampNat 1 4 r.raw.weight = r.raw.weight ∧ (r.raw.kind = 2 → clampNat 1 1024 r.raw.rate = r.raw.rate) ∧
      (r.raw.ending = 1 → clampNat 1 8 r.raw.p7 = r.raw.p7) ∧
      (r.raw.mode ≠ 0 → clampNat 100 400 r.raw.carbonation = r.raw.carbonation) := by
  obtain ⟨⟨tLow, tHigh⟩, duration, ⟨wLow, wHigh⟩, rate, volumes, -, low, -⟩ := legal
  refine ⟨clamp_of_between tLow tHigh, clampNat_of_between (Nat.zero_le _) duration, clampNat_of_between wLow wHigh,
    fun two => ?_, fun one => ?_, fun mode => ?_⟩
  · cases h : r.kind with
    | soak => simp [StepRecord.raw, h] at two
    | ramp x =>
      obtain ⟨one, high⟩ := rate x h
      simpa [StepRecord.raw, h] using clampNat_of_between one high
  · cases h : r.endKind with
    | activityLow n t =>
      obtain ⟨⟨one, eight⟩, -⟩ := low n t h
      simpa [StepRecord.raw, h] using clampNat_of_between one eight
    | time | groupSync | panel | stay => simp [StepRecord.raw, h] at one
  · cases h : r.gas.target with
    | none => cases gas : r.gas <;> simp_all [StepRecord.raw, GasTreatment.target, GasTreatment.mode, GasMode.code]
    | some v =>
      obtain ⟨hundred, high⟩ := volumes v h
      simpa [StepRecord.raw, h] using clampNat_of_between hundred high

/-- Every field of a legal record is stored as it is (R71). -/
theorem StepRecord.Legal.raw_stored : r.raw.stored = r := by
  obtain ⟨target, duration, weight, rate, hours, volumes⟩ := legal.raw_within
  obtain ⟨-, -, -, -, -, sync, -⟩ := legal
  have kind : r.raw.stored.kind = r.kind := by
    cases h : r.kind with
    | soak => simp [RawStep.stored, StepRecord.raw, h]
    | ramp x => simpa [RawStep.stored, StepRecord.raw, h] using rate
  have ending : r.raw.endKind = r.endKind := by
    cases h : r.endKind with
    | activityLow n t => simpa [RawStep.endKind, StepRecord.raw, h] using hours
    | time | groupSync | panel | stay => simp [RawStep.endKind, StepRecord.raw, h]
  have gas : r.raw.stored.gas = r.gas := by
    cases h : r.gas with
    | openKeg => simp [RawStep.stored, StepRecord.raw, h, GasTreatment.mode, GasMode.code, gasModeOf, treatmentOf]
    | spund v | carbonate v | serve v =>
      simpa [RawStep.stored, StepRecord.raw, h, GasTreatment.mode, GasTreatment.target, GasMode.code, gasModeOf,
        treatmentOf] using volumes
  have syncOut : r.raw.stored.syncOut = r.syncOut := by
    cases h : r.syncOut with
    | none => simp [RawStep.stored, StepRecord.raw, h]
    | some g =>
      have := (sync g h).1
      simp only [RawStep.stored, StepRecord.raw, h, Option.getD_some]
      rw [if_neg (by omega)]
  calc r.raw.stored
      = { kind := r.raw.stored.kind, target := clamp (-64) 512 r.raw.target, duration := clampNat 0 999 r.raw.duration,
          endKind := r.raw.endKind, gas := r.raw.stored.gas, weight := clampNat 1 4 r.raw.weight,
          syncOut := r.raw.stored.syncOut } := rfl
    _ = r := by rw [kind, target, duration, ending, gas, weight, syncOut]; rfl

/-- A legal record's fields pass the checks as they are (R71). -/
theorem StepRecord.Legal.raw_argument : r.raw.argument = .record r false := by
  have clamped : r.raw.clamped = false := by
    obtain ⟨target, duration, weight, rate, hours, volumes⟩ := legal.raw_within
    simp only [RawStep.clamped, target, duration, weight]
    simp only [ne_eq, not_true_eq_false, decide_false, Bool.false_or, Bool.or_false, Bool.or_eq_false_iff,
      Bool.and_eq_false_iff, decide_eq_false_iff_not, not_not]
    tauto
  have defined := legal.raw_undefinedField
  have stored := legal.raw_stored
  obtain ⟨-, -, -, rates, -, -, low, -⟩ := legal
  have kind : r.raw.kind ≠ 0 := by cases h : r.kind <;> simp [StepRecord.raw, h]
  have rate : ¬(r.raw.kind = 2 ∧ r.raw.rate = 0) := by
    cases h : r.kind with
    | soak => simp [StepRecord.raw, h]
    | ramp x => simpa [StepRecord.raw, h] using Nat.one_le_iff_ne_zero.1 (rates x h).1
  have spund : ¬(r.raw.ending = 1 ∧ r.raw.mode ≠ 1) := by
    cases h : r.endKind with
    | activityLow n t =>
      obtain ⟨-, -, mode⟩ := low n t h
      simp [StepRecord.raw, h, mode, GasMode.code]
    | time | groupSync | panel | stay => simp [StepRecord.raw, h]
  rw [RawStep.argument, if_neg kind, if_neg (by simp [defined]), if_neg rate, if_neg spund, stored, clamped]

end

/-- The octets of a slot read as what it holds (R71, R201). -/
theorem argument_stepOctets {r : Option StepRecord} (legal : ∀ x, r = some x → x.Legal) :
    (rawStep (stepOctets r)).map RawStep.argument = some (r.elim .empty fun x => .record x false) := by
  cases r with
  | none => decide
  | some x =>
    have legal := legal x rfl
    rw [stepOctets_some, rawStep_octets legal.raw_fits, Option.map_some, legal.raw_argument]
    rfl

/-! ### A command's reply to the own station (R35) -/

/-- A command of the right length to the own station is answered by its block's reply (R35). -/
theorem exec_row_addressed {n : CommandName} {h : Header} {tag : Byte} {args : List Byte} {s : State}
    (addressed : Addressed h s) (length : args.length = n.argLength)
    (silent : ∀ x, (n.reply args x).state.link.silent = x.link.silent) :
    exec (n.row h tag args) s =
      .next (withResult h n.code tag (n.reply args (atDispatch s)).code (n.reply args (atDispatch s)).data
        (n.reply args (atDispatch s)).state) :=
  (exec_row n h tag args s).trans (commandFrame_addressed addressed length silent)

/-! ### WRITE_STEP (R71) -/

theorem exec_writeStep_addressed {h : Header} {tag index : Byte} {record : List Byte} {s : State}
    (addressed : Addressed h s) (length : record.length = 12) :
    exec (.writeStep h tag (index :: record)) s =
      .next (withResult h 0x10#8 tag (writeStepReply (index :: record) (atDispatch s)).code
        (writeStepReply (index :: record) (atDispatch s)).data
        (writeStepReply (index :: record) (atDispatch s)).state) :=
  exec_row_addressed (n := .writeStep) addressed (by simp [length, CommandName.argLength]) fun x => by
    simp [CommandName.reply]

theorem writeStepReply_large {index : Byte} {record : List Byte} {s : State} (large : 11 < index.toNat) :
    writeStepReply (index :: record) s = refuse .badArgument s := by
  rw [writeStepReply, if_pos large]

theorem writeStepReply_busy {index : Byte} {record : List Byte} {s : State} (small : index.toNat ≤ 11)
    (pending : s.seq.pendingSwitch.isSome = true) : writeStepReply (index :: record) s = refuse .busy s := by
  rw [writeStepReply, if_neg (by omega), if_pos pending]

/-- What a record comes to decides what WRITE_STEP answers (R71). -/
def StepArgument.reply (index : Nat) (s : State) : StepArgument → Reply
  | .undefined => refuse .badArgument s
  | .empty => answer .done (s.mapSeq (·.write index none))
  | .record r clamped => answer (if clamped then .doneClamped else .done) (s.mapSeq (·.write index (some r)))

/-- With a slot's index and no switch pending the record decides (R71). -/
theorem writeStepReply_checked {index : Byte} {record : List Byte} {s : State} {a : StepArgument}
    (small : index.toNat ≤ 11) (unswitched : s.seq.pendingSwitch = none)
    (checked : (rawStep record).map RawStep.argument = some a) :
    writeStepReply (index :: record) s = a.reply index.toNat s := by
  rw [writeStepReply, if_neg (by omega), if_neg (by simp [unswitched])]
  rw [checked]
  cases a <;> rfl

theorem exec_writeStep_checked {h : Header} {tag index : Byte} {record : List Byte} {s : State} {a : StepArgument}
    (addressed : Addressed h s) (small : index.toNat ≤ 11) (unswitched : s.seq.pendingSwitch = none)
    (length : record.length = 12) (checked : (rawStep record).map RawStep.argument = some a) :
    exec (.writeStep h tag (index :: record)) s =
      .next (withResult h 0x10#8 tag (a.reply index.toNat (atDispatch s)).code (a.reply index.toNat (atDispatch s)).data
        (a.reply index.toNat (atDispatch s)).state) := by
  rw [exec_writeStep_addressed addressed length, writeStepReply_checked small (by simpa using unswitched) checked]

/-- What WRITE_STEP stores, it stores in the bank that is not active (R69). -/
theorem mapSeq_write (index : Nat) (r : Option StepRecord) (s : State) :
    (atDispatch s).mapSeq (·.write index r) =
      { atDispatch s with seq :=
          if s.seq.active = .a then { s.seq with bankB := s.seq.bankB.set index r }
          else { s.seq with bankA := s.seq.bankA.set index r } } := by
  have seq : (atDispatch s).seq = s.seq := by simp
  rw [State.mapSeq, seq, Sequencer.write]
  split
  · next active => rw [if_pos active]
  · next active => rw [if_neg (by simp [active])]

theorem RawStep.argument_empty {x : RawStep} (h : x.kind = 0) : x.argument = .empty := if_pos h

/-- A field without a meaning, a RAMP of rate 0, an ACTIVITY_LOW outside SPUND (R71). -/
theorem RawStep.argument_undefined {x : RawStep} (kind : x.kind ≠ 0)
    (h : x.undefinedField = true ∨ (x.kind = 2 ∧ x.rate = 0) ∨ (x.ending = 1 ∧ x.mode ≠ 1)) :
    x.argument = .undefined := by
  rw [argument, if_neg kind]
  rcases h with h | h | h
  · rw [if_pos h]
  · rw [if_pos h, ite_self]
  · rw [if_pos h, ite_self, ite_self]

theorem RawStep.argument_stored {x : RawStep} (kind : x.kind ≠ 0) (defined : x.undefinedField = false)
    (rate : x.kind = 2 → x.rate ≠ 0) (spund : x.ending = 1 → x.mode = 1) :
    x.argument = .record x.stored x.clamped := by
  rw [argument, if_neg kind, if_neg (by simp [defined]), if_neg (by tauto), if_neg (by tauto)]

/-- What is stored, each field brought into its range (R71). -/
theorem RawStep.stored_eq {x : RawStep} :
    x.stored =
      { kind := if x.kind = 1 then .soak else .ramp (max 1 (min 1024 x.rate)), target := max (-64) (min 512 x.target),
        duration := min 999 x.duration,
        endKind := if x.ending = 0 then .time else if x.ending = 1 then .activityLow (max 1 (min 8 x.p7)) x.p8
          else if x.ending = 2 then .groupSync x.p7 else if x.ending = 3 then .panel else .stay,
        gas := if x.mode = 0 then .openKeg else if x.mode = 1 then .spund (max 100 (min 400 x.carbonation))
          else if x.mode = 2 then .carbonate (max 100 (min 400 x.carbonation))
          else .serve (max 100 (min 400 x.carbonation)),
        weight := max 1 (min 4 x.weight), syncOut := if x.sync = 0 then none else some x.sync } := by
  have gas : treatmentOf (gasModeOf x.mode) (max 100 (min 400 x.carbonation)) =
      if x.mode = 0 then .openKeg else if x.mode = 1 then .spund (max 100 (min 400 x.carbonation))
          else if x.mode = 2 then .carbonate (max 100 (min 400 x.carbonation))
          else .serve (max 100 (min 400 x.carbonation)) := by
    unfold gasModeOf
    (repeat' split) <;> rfl
  rw [stored, endKind, clampNat_eq_max_min (by decide), clampNat_eq_max_min (by decide), clampNat_eq_max_min (by decide),
    clampNat_eq_max_min (by decide), clampNat_eq_max_min (by decide), clamp_eq_max_min (by decide), gas, Nat.zero_max]

/-- A field that is stored was clamped where one was outside its range (R71). -/
theorem RawStep.clamped_eq_false {x : RawStep} :
    x.clamped = false ↔
      max (-64) (min 512 x.target) = x.target ∧ min 999 x.duration = x.duration ∧ max 1 (min 4 x.weight) = x.weight ∧
        (x.kind = 2 → max 1 (min 1024 x.rate) = x.rate) ∧ (x.ending = 1 → max 1 (min 8 x.p7) = x.p7) ∧
        (x.mode ≠ 0 → max 100 (min 400 x.carbonation) = x.carbonation) := by
  rw [clamped, clampNat_eq_max_min (by decide), clampNat_eq_max_min (by decide), clampNat_eq_max_min (by decide),
    clampNat_eq_max_min (by decide), clampNat_eq_max_min (by decide), clamp_eq_max_min (by decide), Nat.zero_max]
  simp only [Bool.or_eq_false_iff, Bool.and_eq_false_iff, decide_eq_false_iff_not, not_not, ne_eq]
  tauto

/-- Twelve octets hold a record's fields, the kind in the top bits of the first (R201). -/
theorem rawStep_some {record : List Byte} (length : record.length = 12) :
    ∃ x, rawStep record = some x ∧ record.head?.map (fun o => o.toNat / 64) = some x.kind := by
  match record, length with
  | [o0, o1, o2, o3, o4, o5, o6, o7, o8, o9, o10, o11], _ =>
    exact ⟨_, rfl, congrArg some (bitsOf_seven_six o0).symm⟩

/-! ### SWITCH_BANK (R80, R82) -/

theorem exec_switchBank_addressed {h : Header} {s : State} (tag source start group : Byte) (addressed : Addressed h s) :
    exec (.switchBank h tag [source, start, group]) s =
      .next (withResult h 0x12#8 tag (switchBankReply [source, start, group] (atDispatch s)).code
        (switchBankReply [source, start, group] (atDispatch s)).data
        (switchBankReply [source, start, group] (atDispatch s)).state) :=
  exec_row_addressed (n := .switchBank) addressed rfl fun x => by simp [CommandName.reply]

section
variable {source start group : Byte} {s : State}

/-- A source of no name, a start step that cannot start, a group of no name (R80). -/
theorem switchBankReply_refused
    (h : 3 < source.toNat ∨ (source ≠ 0#8 ∧ (11 < start.toNat ∨ s.seq.slot s.seq.staged start.toNat = none ∨
      (source = 3#8 ∧ (group.toNat < 1 ∨ 4 < group.toNat))))) :
    switchBankReply [source, start, group] s = refuse .badArgument s := by
  rw [switchBankReply]
  split
  · rfl
  next small =>
  obtain ⟨named, places⟩ := h.resolve_left small
  rw [if_neg named]
  split
  · rfl
  next startable =>
  rw [if_pos]
  tauto

/-- A switch that passes R80's checks is recorded. -/
theorem switchBankReply_recorded (named : source.toNat ≤ 3) (taken : source ≠ 0#8) (small : start.toNat ≤ 11)
    (full : s.seq.slot s.seq.staged start.toNat ≠ none)
    (groups : source = 3#8 → 1 ≤ group.toNat ∧ group.toNat ≤ 4) :
    switchBankReply [source, start, group] s =
      answer (if s.seq.pendingSwitch.isSome then .doneReplaced else .done)
        (recordSwitch source.toNat start.toNat group.toNat s) := by
  rw [switchBankReply, if_neg (by omega), if_neg taken, if_neg (by simp [full]; omega), if_neg]
  rintro ⟨sync, unnamed⟩
  obtain ⟨one, four⟩ := groups sync
  omega

end

theorem recordSwitch_now {source : Nat} (start group : Nat) {s : State}
    (now : source = 1 ∨ (source = 2 ∧ (s.seq.profile = .idle ∨ s.seq.profile = .ended))) :
    recordSwitch source start group s = takeSwitchChain start s := if_pos now

/-- STEP_END waits while a step is under way (R82). -/
theorem recordSwitch_stepEnd (start group : Nat) {s : State} (busy : s.seq.profile = .running ∨ s.seq.profile = .paused) :
    recordSwitch 2 start group s = setPending (some ⟨.stepEnd, start⟩) s := by
  rw [recordSwitch, if_neg (by rcases busy with p | p <;> simp [p]), if_pos rfl]

/-- The switch that is held pending (R80, R82). -/
theorem setPending_atDispatch (p : Option PendingSwitch) (s : State) :
    setPending p (atDispatch s) = { atDispatch s with seq := { s.seq with pendingSwitch := p } } := by
  have seq : (atDispatch s).seq = s.seq := by simp
  rw [setPending, State.mapSeq, seq]

/-- The outcome of a switch recorded over another (R82). -/
theorem switchOutcome_eq (s : State) :
    (if (atDispatch s).seq.pendingSwitch.isSome then ResultCode.doneReplaced else .done) =
      if s.seq.pendingSwitch = none then .done else .doneReplaced := by
  have seq : (atDispatch s).seq = s.seq := by simp
  rw [seq]
  cases s.seq.pendingSwitch <;> rfl

/-! ### O54 -/

/-- Settles O54: WRITE_STEP by the checks of its record, SWITCH_BANK by its source and the profile state. -/
theorem bankCommands : Obligations.BankCommands := by
  refine ⟨fun h tag index record s addressed length => ⟨fun large => ?_, fun small pending => ?_,
      fun small unswitched => ?_⟩, fun h tag source start group s addressed => ⟨fun refused => ?_, ?_,
      fun small full => ⟨fun busy => ?_, fun one four => ?_⟩⟩⟩
  · rw [exec_writeStep_addressed addressed length, writeStepReply_large large]
    rfl
  · rw [exec_writeStep_addressed addressed length, writeStepReply_busy small (by simpa using pending)]
    rfl
  · have reply {a : StepArgument} {octets : List Byte} (twelve : octets.length = 12)
        (checked : (rawStep octets).map RawStep.argument = some a) :=
      exec_writeStep_checked (tag := tag) addressed small unswitched twelve checked
    refine ⟨fun r legal => ?_, fun kind => ?_, fun x raw undefined kind => ?_, fun x raw defined kind rate spund => ?_⟩
    · have twelve : (stepOctets r).length = 12 := by
        cases r with
        | none => rfl
        | some r => rw [stepOctets_some]; rfl
      rw [reply twelve (argument_stepOctets legal), ← mapSeq_write]
      cases r <;> rfl
    · obtain ⟨x, raw, top⟩ := rawStep_some length
      rw [reply length (a := .empty), ← mapSeq_write]
      · rfl
      · rw [raw, Option.map_some, RawStep.argument_empty]
        rw [kind] at top
        exact (Option.some.inj top).symm
    · rw [reply length (a := .undefined)]
      · rfl
      · rw [raw, Option.map_some, RawStep.argument_undefined kind undefined]
    · have stored := reply length (a := .record x.stored x.clamped)
        (by rw [raw, Option.map_some, RawStep.argument_stored kind defined rate spund])
      intro target rate' duration hours volumes weight r kept put
      have record : x.stored = r := RawStep.stored_eq
      have whole : x.clamped = false ↔ kept := RawStep.clamped_eq_false
      rw [stored, record, StepArgument.reply]
      refine ⟨fun inside => ?_, fun outside => ?_⟩
      · rw [whole.2 inside, answer, mapSeq_write]
        rfl
      · rw [Bool.eq_true_of_not_eq_false (outside ∘ whole.1), answer, mapSeq_write]
        rfl
  · rw [exec_switchBank_addressed tag source start group addressed, switchBankReply_refused (by simpa using refused)]
    rfl
  · rw [exec_switchBank_addressed tag 0#8 start group addressed, ← setPending_atDispatch]
    rfl
  · rw [exec_switchBank_addressed tag 2#8 start group addressed,
      switchBankReply_recorded (by decide) (by decide) small (by simpa using full) (by simp), ← setPending_atDispatch,
      ← switchOutcome_eq, ← recordSwitch_stepEnd _ group.toNat (by simpa using busy)]
    rfl
  · rw [exec_switchBank_addressed tag 3#8 start group addressed,
      switchBankReply_recorded (by decide) (by decide) small (by simpa using full) (fun _ => ⟨one, four⟩),
      ← setPending_atDispatch, ← switchOutcome_eq]
    rfl

/-! ### O55 -/

theorem exec_readStep_addressed {h : Header} {s : State} (tag bank index : Byte) (addressed : Addressed h s) :
    exec (.readStep h tag [bank, index]) s =
      .next (withResult h 0x11#8 tag (readStepReply [bank, index] (atDispatch s)).code
        (readStepReply [bank, index] (atDispatch s)).data (readStepReply [bank, index] (atDispatch s)).state) :=
  exec_row_addressed (n := .readStep) addressed rfl fun x => by simp [CommandName.reply]

theorem exec_readPour_addressed {h : Header} {s : State} (tag offset : Byte) (addressed : Addressed h s) :
    exec (.readPour h tag [offset]) s =
      .next (withResult h 0x32#8 tag (readPourReply [offset] (atDispatch s)).code
        (readPourReply [offset] (atDispatch s)).data (readPourReply [offset] (atDispatch s)).state) :=
  exec_row_addressed (n := .readPour) addressed rfl fun x => by simp [CommandName.reply]

/-- A bank's code below 2 names a bank (R201). -/
theorem bankOf_small {x : Byte} (small : x.toNat < 2) :
    ∃ bank, bankOf x.toNat = some bank ∧ (if x = 0#8 then Bank.a else .b) = bank ∧ bank.code = x.toNat := by
  obtain zero | one : x.toNat = 0 ∨ x.toNat = 1 := by omega
  · obtain rfl : x = 0#8 := BitVec.eq_of_toNat_eq zero
    exact ⟨.a, rfl, rfl, rfl⟩
  · obtain rfl : x = 1#8 := BitVec.eq_of_toNat_eq one
    exact ⟨.b, rfl, rfl, rfl⟩

theorem bankOf_large {n : Nat} (large : 2 ≤ n) : bankOf n = none := by
  obtain ⟨k, rfl⟩ := Nat.exists_eq_add_of_le' large
  rfl

/-- READ_STEP shows the slot of the bank that is named (R72). -/
theorem readStepReply_shown {x y : Byte} {bank : Bank} {s : State} (named : bankOf x.toNat = some bank)
    (small : y.toNat ≤ 11) :
    readStepReply [x, y] s =
      { state := s, code := .done,
        data := byte (bank.code * 128 + Machine.bit (bank = s.seq.active) * 64 + y.toNat) ::
          stepOctets (s.seq.slot bank y.toNat) } := by
  rw [readStepReply, named]
  exact if_neg (by omega)

theorem readStepReply_refused {x y : Byte} {s : State} (outside : 2 ≤ x.toNat ∨ 11 < y.toNat) :
    readStepReply [x, y] s = refuse .badArgument s := by
  rw [readStepReply]
  split
  · rfl
  · next named =>
    refine if_pos (outside.resolve_left fun large => ?_)
    rw [bankOf_large large] at named
    nomatch named

/-- The part's bit of READ_POUR's offset octet (R203). -/
theorem getLsbD_seven (x : Byte) : x.getLsbD 7 = decide (128 ≤ x.toNat) := by
  have octet := x.isLt
  rw [BitVec.getLsbD, Nat.testBit_eq_decide_div_mod_eq]
  exact decide_eq_decide.2 (by omega)

theorem bitsOf_six_zero (x : Byte) : bitsOf x 6 0 = x.toNat % 128 := by simp [bitsOf]

/-- Settles O55: each by its reply, which has the state it was given. -/
theorem readingsChangeNothing : Obligations.ReadingsChangeNothing := by
  intro h tag x y s addressed
  have seq : (atDispatch s).seq = s.seq := by simp
  have disp : (atDispatch s).disp = s.disp := by simp
  refine ⟨fun small slot => ?_, fun outside => ?_, fun r held => ?_, fun past => ?_⟩
  · obtain ⟨bank, named, same, code⟩ := bankOf_small small
    rw [exec_readStep_addressed tag x y addressed, readStepReply_shown named slot, seq, same, ← code]
    by_cases active : bank = s.seq.active <;> simp [Machine.bit, active]
  · rw [exec_readStep_addressed tag x y addressed, readStepReply_refused outside]
    rfl
  · rw [exec_readPour_addressed tag x addressed, readPourReply, bitsOf_six_zero, disp, held]
    simp only [getLsbD_seven, decide_eq_true_eq]
  · rw [exec_readPour_addressed tag x addressed, readPourReply, bitsOf_six_zero, disp, List.getElem?_eq_none past]
    rfl

end Sys2Proof.Machine
end

section
/-! ## Steps that start and end (R75 to R89): O38, O56, O57

A step's start and end are proved of the state that the sequencer finds. A command finds it after the reception and the
activity event COMMAND, and RESUME_PROFILE after the gas regulator's evaluation; and the RESULT and the leak check follow.
What comes before and after is said here once. -/

namespace Sys2Proof.Machine

/-! ### What comes before a step's start in the same command -/

theorem FewQueued.trans {l m k : Link} {i j : Nat} (h : FewQueued l i m) (g : FewQueued m j k) :
    FewQueued l (i + j) k where
  load := by
    have first := h.load
    have second := g.load
    omega
  syncs q hq sync := by
    obtain ⟨x, hx, frame⟩ := List.mem_map.1 (g.syncs q hq sync)
    rw [← frame] at sync ⊢
    exact h.syncs x hx sync

/-- From `s` to `a` no block has moved what a step's start reads, and the queue has gained the frame of one alarm at
most. -/
structure Prelude (s a : State) : Prop where
  seq : a.seq = s.seq
  temp : a.temp = s.temp
  blocks : a.cool = s.cool ∧ a.view = s.view ∧ a.setup = s.setup ∧ a.sampling = s.sampling ∧ a.disp = s.disp
  station : a.sup.station = s.sup.station
  gas : SetpointStands s a
  silent : a.link.silent = s.link.silent
  few : QueuesFew s.link 1 a

theorem Prelude.refl (s : State) : Prelude s s :=
  ⟨rfl, rfl, ⟨rfl, rfl, rfl, rfl, rfl⟩, rfl, .refl s, rfl, (QueuesFew.refl s).more⟩

theorem queuesFew_atDispatch (s : State) : QueuesFew s.link 0 (atDispatch s) := by
  have ended : QueuesFew s.link 0 (endReception s) :=
    ⟨Nat.le_refl _, fun _ hq _ => List.mem_map_of_mem hq⟩
  exact ended.activityEvent .command

theorem atDispatch_silent (s : State) : (atDispatch s).link.silent = s.link.silent := by simp [atDispatch]

theorem prelude_atDispatch (s : State) : Prelude s (atDispatch s) where
  seq := by simp
  temp := by simp [atDispatch]
  blocks := by simp [atDispatch]
  station := by simp
  gas := .of_gas (by simp)
  silent := atDispatch_silent s
  few := (queuesFew_atDispatch s).more

/-- A RESUME_PROFILE's change of profile state, with the regulator's evaluation (R89, R130). -/
theorem prelude_changeProfile (p : ProfileState) (s : State) :
    Prelude { s with seq := { s.seq with profile := p } } (changeProfile p (atDispatch s)) where
  seq := by simp [changeProfile]
  temp := by simp [changeProfile, atDispatch]
  blocks := by simp [changeProfile, atDispatch]
  station := by simp
  gas := by
    have evaluated := evaluateGas_setpointStands ((atDispatch s).mapSeq fun q => { q with profile := p })
    have before : SetpointStands { s with seq := { s.seq with profile := p } }
        ((atDispatch s).mapSeq fun q => { q with profile := p }) := .of_gas (by simp)
    exact (before.trans evaluated).trans (.of_gas (by simp [changeProfile]))
  silent := by simp [atDispatch_silent]
  few := by
    have changed : QueuesFew s.link 0 ((atDispatch s).mapSeq fun q => { q with profile := p }) := queuesFew_atDispatch s
    exact changed.evaluateGas.queueBayState

/-- The sync-out GROUP_SYNC finds room (R79). -/
theorem beginStep_sync_of_few (m : Option GasMode) (index : Nat) {r : StepRecord} {g : Nat} (sync : r.syncOut = some g)
    {s a : State} (few : QueuesFew s.link 1 a) (silent : a.link.silent = s.link.silent) :
    Queued (.groupSync g) s (beginStep m index r a) := by
  have load := (FewQueued.trans few (queuesFew_takenUp m index r a).queueBayState).load
  have still := takenUp_silent m index r a
  rw [beginStep_eq]
  simp only [stepTold, sync]
  generalize queueBayState (takeUpMode m (stepSet m index r a)) = x at load still ⊢
  intro loud short
  have room := x.link.firmCount_le_load
  have before := s.link.load_le_length
  rw [updateLeak_link]
  exact enqueue_takes (f := { frame := .groupSync g }) (still.trans (silent.trans loud)) (by omega)

section
variable {s a : State} (prelude : Prelude s a)
include prelude

/-- A step that has started from `a` has started from `s`, with its sync out queued. -/
theorem StepStarted.rebase {r : StepRecord} {t : State} (started : StepStarted r a t)
    (sync : ∀ g, r.syncOut = some g → Queued (.groupSync g) s t) : StepStarted r s t := by
  obtain ⟨ramps, soaks, count, few, quiet, ring, target, computed, stands, -, noSync, rest⟩ := started
  obtain ⟨seq, temp, ⟨cool, view, setup, sampling, disp⟩, station, gas, -, queue⟩ := prelude
  rw [temp] at ramps soaks
  rw [sampling] at stands
  refine ⟨ramps, soaks, count, few, quiet, ring, target, computed, fun unheated => gas.trans (stands unheated), sync,
    fun none q hq out => ?_, ?_⟩
  · obtain ⟨x, hx, frame⟩ := List.mem_map.1 (noSync none q hq out)
    rw [← frame] at out ⊢
    exact queue.syncs x hx out
  · simpa only [handedMode, seq, temp, cool, view, setup, sampling, disp, station] using rest

/-- A switch taken starts its step from `s` (R81). -/
theorem Prelude.takeSwitch_started {start : Nat} {r : StepRecord} (slot : s.seq.slot s.seq.staged start = some r)
    (long : 0 < r.duration) :
    StepStarted r s (takeSwitch start a) ∧ ∃ p, (takeSwitch start a).seq = s.seq.switched start p := by
  have slot' : a.seq.slot a.seq.staged start = some r := by rwa [prelude.seq]
  obtain ⟨started, p, seq⟩ := Machine.takeSwitch_started slot' long
  refine ⟨started.rebase prelude fun g sync => ?_, p, by rw [seq, prelude.seq]⟩
  have queued := beginStep_sync_of_few (handedMode a) start sync
    (a := a.mapSeq fun q => { q with active := q.staged, pendingSwitch := none, profile := afterSwitch q.profile })
    prelude.few prelude.silent
  simpa only [takeSwitch, slot'] using queued

/-- The next slot's step starts from `s` (R83). -/
theorem Prelude.endStep_next {r : StepRecord} (unswitched : ∀ start, s.seq.pendingSwitch ≠ some ⟨.stepEnd, start⟩)
    (busy : s.seq.profile ≠ .idle) (next : nextSlot s.seq = some r) (long : 0 < r.duration) :
    StepStarted r s (endStep a) ∧
      ∃ p, (endStep a).seq = { s.seq with index := s.seq.index + 1, count := 0, phase := p } := by
  have unswitched' : ∀ start, a.seq.pendingSwitch ≠ some ⟨.stepEnd, start⟩ := by rwa [prelude.seq]
  have next' : nextSlot a.seq = some r := by rwa [prelude.seq]
  obtain ⟨started, p, seq⟩ := Machine.endStep_next unswitched' (by rwa [prelude.seq]) next' long
  refine ⟨started.rebase prelude fun g sync => ?_, p, by rw [seq, prelude.seq]⟩
  rw [endStep_unswitched unswitched', next']
  exact beginStep_sync_of_few _ _ sync prelude.few prelude.silent

end

/-! ### What comes after it -/

/-- From `t` to `u` the leak check and the queue alone have moved, and the queue has lost no frame that stands for itself
and gained no GROUP_SYNC. -/
structure Postlude (t u : State) : Prop where
  seq : u.seq = t.seq
  temp : u.temp = t.temp
  blocks : u.cool = t.cool ∧ u.view = t.view ∧ u.setup = t.setup ∧ u.sampling = t.sampling ∧ u.disp = t.disp
  station : u.sup.station = t.sup.station
  gas : SetpointStands t u
  ring : u.gas.openBucket = t.gas.openBucket ∧ u.gas.buckets = t.gas.buckets ∧ u.gas.state = t.gas.state
  kept : FramesKept t u
  syncs : ∀ q ∈ u.link.queue, (∃ g, q.frame = .groupSync g) → q.frame ∈ t.link.queue.map (·.frame)
  report : u.link.reportCount = t.link.reportCount

theorem postlude_updateLeak (t : State) : Postlude t (updateLeak t) where
  seq := rfl
  temp := rfl
  blocks := ⟨rfl, rfl, rfl, rfl, rfl⟩
  station := rfl
  gas := updateLeak_setpointStands t
  ring := ⟨rfl, rfl, rfl⟩
  kept := .refl t
  syncs _ hq _ := List.mem_map_of_mem hq
  report := rfl

/-- The RESULT joins the queue behind what the command has queued (R35). -/
theorem postlude_withResult (h : Header) (code tag : Byte) (outcome : ResultCode) (data : List Byte) (t : State) :
    Postlude t (withResult h code tag outcome data t) where
  seq := by simp [withResult]
  temp := by simp [withResult]
  blocks := by simp [withResult]
  station := by simp [withResult]
  gas := .trans (.of_gas (by simp)) (updateLeak_setpointStands _)
  ring := by simp [withResult, updateLeak]
  kept := (FramesKept.refl t).queueFrame (.result h.src code tag outcome data)
  syncs := ((QueuesFew.refl t).enqueue { frame := .result h.src code tag outcome data } nofun).syncs
  report := by simp [withResult, queueFrame]

theorem StepStarted.after {r : StepRecord} {s t u : State} (started : StepStarted r s t) (postlude : Postlude t u) :
    StepStarted r s u := by
  obtain ⟨ramps, soaks, count, few, quiet, ring, target, computed, stands, sync, noSync, rest⟩ := started
  obtain ⟨seq, temp, ⟨cool, view, setup, sampling, disp⟩, station, gas, ⟨bucket, buckets, state⟩, kept, syncs, -⟩ :=
    postlude
  refine ⟨by rwa [seq, temp], by rwa [seq, temp], by rwa [seq], by rwa [bucket], by rwa [state, bucket], by rwa [buckets],
    ?_, computed.of_stands ?_ sampling setup gas, fun unheated => (stands unheated).trans gas,
    fun g out loud short => kept _ rfl rfl (sync g out loud short), fun none q hq out => ?_, ?_⟩
  · rwa [handedTarget, seq]
  · rw [handedTarget, seq, handedTarget]
  · obtain ⟨x, hx, frame⟩ := List.mem_map.1 (syncs q hq out)
    rw [← frame] at out ⊢
    exact noSync none x hx out
  · simpa only [seq, temp, cool, view, setup, sampling, disp, station] using rest

/-! ### The end of a step (R83) -/

/-- A step's end, and what follows it in the same command, is one as the statements say it (R83). -/
theorem stepEnded_chain {s a u : State} (n : Nat) (prelude : Prelude s a) (busy : s.seq.profile ≠ .idle)
    (postlude : Postlude (chain n (endStep a)) u) : StepEnded s u := by
  refine ⟨fun start pending r slot long => ?_, fun unswitched => ⟨fun r next long => ?_, fun last => ?_⟩⟩
  · obtain ⟨started, p, seq⟩ := prelude.takeSwitch_started slot long
    have switch : endStep a = takeSwitch start a := by simp [endStep, prelude.seq, pending]
    rw [switch, chain_of_not_waiting _ started.not_waiting] at postlude
    rw [postlude.seq, seq]
    exact ⟨started.after postlude, rfl, rfl, rfl, rfl⟩
  · obtain ⟨started, p, seq⟩ := prelude.endStep_next unswitched busy next long
    rw [chain_of_not_waiting _ started.not_waiting] at postlude
    rw [postlude.seq, seq]
    exact ⟨started.after postlude, rfl, rfl, rfl, rfl⟩
  · have ended : endStep a = changeProfile .ended a :=
      endStep_last (by rwa [prelude.seq]) (by rwa [prelude.seq])
    have stops : chain n (changeProfile .ended a) = changeProfile .ended a :=
      chain_of_not_running n (by simp [changeProfile])
    rw [ended, stops] at postlude
    obtain ⟨seq, temp, ⟨cool, -, -, -, disp⟩, -, ⟨setpoint, -⟩, silent, -⟩ := prelude
    obtain ⟨seq', temp', ⟨cool', -, -, -, disp'⟩, -, ⟨setpoint', -⟩, -, -, -, report⟩ := postlude
    refine ⟨by simp [seq', changeProfile, seq], by simp [temp', temp], by simp [cool', cool],
      by simp [disp', disp], by simp [setpoint', setpoint], fun loud => ?_⟩
    rw [report]
    exact changeProfile_reportCount .ended (silent.trans loud)

/-! ### The end's test (R84, R85) -/

theorem activityLow_eq_true (g : Gas) (hours threshold : Nat) :
    activityLow g hours threshold = true ↔
      hours ≤ g.buckets.length ∧ ∀ n ∈ g.buckets.take hours, n < threshold := by
  simp [activityLow]

/-- The test is met exactly by a RUNNING step in WAITING whose end is met (R84, R85). -/
theorem waitingEndMet_iff {s : State} {r : StepRecord} (current : s.seq.current = some r) :
    waitingEndMet s = true ↔ s.seq.profile = .running ∧ s.seq.phase = some .waiting ∧ EndMet r s := by
  unfold waitingEndMet EndMet
  rw [current]
  cases h : r.endKind with
  | activityLow hours threshold => simp [activityLow_eq_true, h, and_assoc]
  | time | groupSync | panel | stay => simp [h]

theorem chain_of_met (n : Nat) {s : State} (met : waitingEndMet s = true) : chain (n + 1) s = chain n (endStep s) :=
  if_pos met

theorem chain_of_unmet (n : Nat) {s : State} (unmet : waitingEndMet s = false) : chain n s = s := by
  cases n with
  | zero => rfl
  | succ n => simp [chain, unmet]

/-! ### O38 -/

theorem exec_durationElapsed {s : State} (up : s.held = false) :
    exec .durationElapsed s = .next (updateLeak (elapseDuration s)) := perform_running _ up

/-- Settles O38: in PAUSED the end waits; else the step enters WAITING, and the chain of ends begins there. -/
theorem durationElapses : Obligations.DurationElapses := by
  intro r s up current soaking elapsed
  rw [exec_durationElapsed up]
  have waits (going : s.seq.profile ≠ .paused) :
      elapseDuration s = chain chainLimit { s with seq := { s.seq with phase := some .waiting } } :=
    if_pos ((durationUp_eq_true s).2 ⟨r, current, going, soaking, elapsed⟩)
  have test := waitingEndMet_iff (s := { s with seq := { s.seq with phase := some .waiting } }) current
  refine ⟨fun paused => ?_, fun stays => ?_, fun running met => ?_⟩
  · rw [elapseDuration, if_neg (by simp [durationUp, paused])]
  · have going : s.seq.profile ≠ .paused := by rcases stays with ended | ⟨running, -⟩ <;> simp [*]
    rw [waits going, chain_of_unmet]
    refine Bool.eq_false_iff.2 fun met => ?_
    obtain ⟨running, -, ends⟩ := test.1 met
    rcases stays with ended | ⟨-, unmet⟩
    · exact nomatch ended.symm.trans running
    · exact unmet ends
  · have going : s.seq.profile ≠ .paused := by simp [running]
    have ends := chain_of_met 24 (test.2 ⟨running, rfl, met⟩)
    rw [waits going, chainLimit, ends]
    have busy : s.seq.profile ≠ .idle := by simp [running]
    exact ⟨_, rfl, stepEnded_chain 24 (.refl _) busy (postlude_updateLeak _), by simp, by simp, by simp, by simp, by simp⟩

/-! ### O56 -/

theorem exec_advance_addressed {h : Header} {s : State} (tag : Byte) (addressed : Addressed h s) :
    exec (.advance h tag []) s =
      .next (withResult h 0x13#8 tag (advanceReply (atDispatch s)).code (advanceReply (atDispatch s)).data
        (advanceReply (atDispatch s)).state) :=
  exec_row_addressed (n := .advance) addressed rfl fun x => by simp [CommandName.reply]

/-- An ADVANCE in RUNNING and PAUSED ends the step (R87). -/
theorem exec_advance_busy {h : Header} {s : State} (tag : Byte) (addressed : Addressed h s)
    (busy : s.seq.profile = .running ∨ s.seq.profile = .paused) :
    exec (.advance h tag []) s = .next (withResult h 0x13#8 tag .done [] (endStepChain (atDispatch s))) := by
  rw [exec_advance_addressed tag addressed, advanceReply, if_pos (by simpa using busy)]
  rfl

/-- A switch that R82 takes at once. -/
theorem exec_switchBank_now {h : Header} {s : State} (tag group : Byte) {source start : Byte} (addressed : Addressed h s)
    (now : source = 1#8 ∨ (source = 2#8 ∧ (s.seq.profile = .idle ∨ s.seq.profile = .ended)))
    (small : start.toNat ≤ 11) (full : s.seq.slot s.seq.staged start.toNat ≠ none) :
    ∃ code, exec (.switchBank h tag [source, start, group]) s =
      .next (withResult h 0x12#8 tag code [] (takeSwitchChain start.toNat (atDispatch s))) := by
  have now' : source.toNat = 1 ∨ (source.toNat = 2 ∧
      ((atDispatch s).seq.profile = .idle ∨ (atDispatch s).seq.profile = .ended)) := by
    rcases now with rfl | ⟨rfl, free⟩
    · exact .inl rfl
    · exact .inr ⟨rfl, by simpa using free⟩
  have named : source.toNat ≤ 3 ∧ source ≠ 0#8 ∧ source ≠ 3#8 := by
    rcases now with rfl | ⟨rfl, -⟩ <;> decide
  obtain ⟨three, taken, unsynced⟩ := named
  rw [exec_switchBank_addressed tag source start group addressed,
    switchBankReply_recorded three taken small (by simpa using full) (fun sync => absurd sync unsynced),
    recordSwitch_now _ _ now']
  exact ⟨_, rfl⟩

/-- Settles O56: a switch taken at once, and an ADVANCE, as the sequencer makes them of what the command finds. -/
theorem stepStarts : Obligations.StepStarts := by
  intro h tag start group r s addressed long
  refine ⟨fun source now small slot => ?_, fun busy => ?_⟩
  · obtain ⟨code, row⟩ := exec_switchBank_now tag group addressed now small (by simp [slot])
    obtain ⟨started, p, seq⟩ := (prelude_atDispatch s).takeSwitch_started slot long
    rw [takeSwitchChain_eq (by simpa using slot) long] at row
    have postlude := postlude_withResult h 0x12#8 tag code [] (takeSwitch start.toNat (atDispatch s))
    refine ⟨_, row, started.after postlude, ?_⟩
    rw [postlude.seq, seq]
    exact ⟨rfl, rfl, rfl, rfl⟩
  · have out : s.seq.profile ≠ .idle := by rcases busy with p | p <;> simp [p]
    exact ⟨_, exec_advance_busy tag addressed busy,
      stepEnded_chain chainLimit (prelude_atDispatch s) out (postlude_withResult h 0x13#8 tag .done [] _)⟩

/-! ### O57 -/

theorem evaluateGas_buckets (s : State) : (evaluateGas s).gas.buckets = s.gas.buckets := by
  rw [evaluateGas, moveGas_gas]
  split <;> rfl

/-- A change of profile state by a command leaves the step and what the blocks hold (R83, R88, R89). -/
theorem withResult_changeProfile (h : Header) (code tag : Byte) (p : ProfileState) (s : State) :
    let t := withResult h code tag .done [] (changeProfile p (atDispatch s))
    t.seq = { s.seq with profile := p } ∧ t.temp = s.temp ∧ t.cool = s.cool ∧ t.disp = s.disp ∧ t.view = s.view ∧
      t.setup = s.setup ∧ t.sampling = s.sampling ∧ t.gas.setpoint = s.gas.setpoint ∧ t.gas.buckets = s.gas.buckets ∧
      t.sup.station = s.sup.station := by
  intro t
  obtain ⟨seq, temp, ⟨cool, view, setup, sampling, disp⟩, station, ⟨setpoint, -⟩, -⟩ := prelude_changeProfile p s
  obtain ⟨seq', temp', ⟨cool', view', setup', sampling', disp'⟩, station', ⟨setpoint', -⟩, ⟨-, ring, -⟩, -⟩ :=
    postlude_withResult h code tag .done [] (changeProfile p (atDispatch s))
  have buckets : (changeProfile p (atDispatch s)).gas.buckets = s.gas.buckets := by
    simp [changeProfile, evaluateGas_buckets]
  exact ⟨seq'.trans seq, temp'.trans temp, cool'.trans cool, disp'.trans disp, view'.trans view, setup'.trans setup,
    sampling'.trans sampling, setpoint'.trans setpoint, ring.trans buckets, station'.trans station⟩

theorem exec_pauseProfile_addressed {h : Header} {s : State} (tag : Byte) (addressed : Addressed h s) :
    exec (.pauseProfile h tag []) s =
      .next (withResult h 0x14#8 tag (pauseReply (atDispatch s)).code (pauseReply (atDispatch s)).data
        (pauseReply (atDispatch s)).state) :=
  exec_row_addressed (n := .pauseProfile) addressed rfl fun x => by simp [CommandName.reply]

theorem exec_resumeProfile_addressed {h : Header} {s : State} (tag : Byte) (addressed : Addressed h s) :
    exec (.resumeProfile h tag []) s =
      .next (withResult h 0x15#8 tag (resumeReply (atDispatch s)).code (resumeReply (atDispatch s)).data
        (resumeReply (atDispatch s)).state) :=
  exec_row_addressed (n := .resumeProfile) addressed rfl fun x => by simp [CommandName.reply]

theorem exec_stopProfile_addressed {h : Header} {s : State} (tag : Byte) (addressed : Addressed h s) :
    exec (.stopProfile h tag []) s = .next (withResult h 0x16#8 tag .done [] (stopProfile (atDispatch s))) :=
  exec_row_addressed (n := .stopProfile) addressed rfl fun x => by simp [CommandName.reply, answer]

/-- A RESUME_PROFILE in PAUSED changes the profile state, and the end's test follows (R89). -/
theorem exec_resumeProfile_paused {h : Header} {s : State} (tag : Byte) (addressed : Addressed h s)
    (paused : s.seq.profile = .paused) :
    exec (.resumeProfile h tag []) s =
      .next (withResult h 0x15#8 tag .done [] (chain chainLimit (changeProfile .running (atDispatch s)))) := by
  rw [exec_resumeProfile_addressed tag addressed, resumeReply, if_pos (by simpa using paused)]
  rfl

/-- The end's test at a RESUME_PROFILE reads the phase, the ring and the station state that it found (R85, R89). -/
theorem resumed_met {s : State} {r : StepRecord} (paused : s.seq.profile = .paused) (current : s.seq.current = some r) :
    waitingEndMet (changeProfile .running (atDispatch s)) = true ↔ s.seq.phase = some .waiting ∧ EndMet r s := by
  have seq : (changeProfile .running (atDispatch s)).seq = { s.seq with profile := .running } := by simp [changeProfile]
  have buckets : (changeProfile .running (atDispatch s)).gas.buckets = s.gas.buckets := by
    simp [changeProfile, evaluateGas_buckets]
  have step : (changeProfile .running (atDispatch s)).seq.current = some r := by
    rw [seq, ← current]
    exact s.seq.current_of_profile (by simp [paused]) (by decide)
  rw [waitingEndMet_iff step, EndMet, EndMet, buckets, seq]
  simp

/-- In IDLE, with no mode handed, the regulator regulates nothing (R130, R132, R138). -/
theorem decideGas_in_idle {s : State} (idle : s.seq.profile = .idle) :
    decideGas s = .rest ∨ decideGas s = .relief ∨ decideGas s = .sensorVent := by
  have disabled : enabledMode s = none := by simp [enabledMode, idle]
  have unhanded : handedMode s = none := by simp [handedMode, Sequencer.current, idle]
  unfold decideGas
  rw [disabled, unhanded]
  (repeat' split) <;> simp_all

/-- STOP_PROFILE out of IDLE (R90, R106, R138). -/
theorem stopProfile_busy {s : State} (busy : s.seq.profile ≠ .idle) :
    (stopProfile s).seq =
        { s.seq with profile := .idle, index := 0, phase := none, count := 0, pendingSwitch := none } ∧
      (stopProfile s).temp = { s.temp with onTimer := none, lastDemand := 0, clampSide := .unclamped, heaterDuty := 0 } ∧
      (stopProfile s).cool = { s.cool with demandUnits := 0, openTimer := none } ∧
      (stopProfile s).disp.state ≠ .flowing ∧
      ((stopProfile s).gas.state = .rest ∨ (stopProfile s).gas.state = .relief ∨
        (stopProfile s).gas.state = .sensorVent) := by
  rw [stopProfile, if_neg busy]
  dsimp only
  generalize stopped : s.mapSeq _ = x
  have seq : x.seq =
      { s.seq with profile := .idle, index := 0, phase := none, count := 0, pendingSwitch := none } := stopped ▸ rfl
  have temp : x.temp = s.temp := stopped ▸ rfl
  have cool : x.cool = s.cool := stopped ▸ rfl
  refine ⟨by simp [seq], by simp [withdrawWindow, temp], by simp [withdrawWindow, cool], ?_, ?_⟩
  · have disp : (withdrawWindow (endFlowing .mode x)).disp = (endFlowing .mode x).disp := by simp
    simpa [disp] using endFlowing_not_flowing .mode x
  · have decided := decideGas_in_idle (s := withdrawWindow (endFlowing .mode x)) (by simp [seq])
    simpa [evaluateGas_state] using decided

theorem stopProfile_idle {s : State} (idle : s.seq.profile = .idle) : stopProfile s = setPending none s := if_pos idle

/-- After a STOP_PROFILE there is no step and no pending switch (R90). -/
theorem stopProfile_stopped (s : State) :
    (stopProfile s).seq.profile = .idle ∧ (stopProfile s).seq.pendingSwitch = none := by
  by_cases idle : s.seq.profile = .idle
  · rw [stopProfile_idle idle]
    exact ⟨idle, rfl⟩
  · obtain ⟨seq, -⟩ := stopProfile_busy idle
    rw [seq]
    exact ⟨rfl, rfl⟩

/-- STOP_PROFILE leaves the cooling share's last grant, the setpoint, and what the samples, the keg and the station
hold (R90). -/
theorem stopProfile_stands (s : State) :
    (stopProfile s).temp.accumulator = s.temp.accumulator ∧ (stopProfile s).temp.integral = s.temp.integral ∧
      (stopProfile s).gas.setpoint = s.gas.setpoint ∧ (stopProfile s).cool.lastGrant = s.cool.lastGrant ∧
      (stopProfile s).view = s.view ∧ (stopProfile s).setup = s.setup ∧ (stopProfile s).sampling = s.sampling ∧
      (stopProfile s).disp.level = s.disp.level ∧ (stopProfile s).disp.log = s.disp.log ∧
      (stopProfile s).sup.station = s.sup.station := by
  have grant : (stopProfile s).cool.lastGrant = s.cool.lastGrant := by
    by_cases idle : s.seq.profile = .idle
    · rw [stopProfile_idle idle]
      rfl
    · obtain ⟨-, -, cool, -⟩ := stopProfile_busy idle
      rw [cool]
  simp [grant]

/-- Settles O57: each command by its reply, RESUME_PROFILE by the end's test, STOP_PROFILE by the profile state. -/
theorem profileCommands : Obligations.ProfileCommands := by
  refine ⟨fun h tag s addressed => ?_, fun h tag s addressed => ?_⟩
  · intro becomes
    have changed (code : Byte) (p : ProfileState) := withResult_changeProfile h code tag p s
    have profile : (atDispatch s).seq.profile = s.seq.profile := by simp
    refine ⟨fun busy unswitched last => ?_, fun free => ?_, fun running => ?_, fun other => ?_,
      fun paused stays => ?_, fun r paused waiting current met => ?_, fun other => ?_⟩
    · refine ⟨_, exec_advance_busy tag addressed busy, ?_⟩
      rw [endStepChain_of_last (by simpa using unswitched) (by simpa using last)]
      exact changed 0x13#8 .ended
    · rw [exec_advance_addressed tag addressed, advanceReply, profile,
        if_neg (by rcases free with p | p <;> simp [p])]
      rfl
    · refine ⟨_, exec_pauseProfile_addressed tag addressed, ?_⟩
      rw [pauseReply, profile, if_pos running]
      exact changed 0x14#8 .paused
    · rw [exec_pauseProfile_addressed tag addressed, pauseReply, profile, if_neg other]
      rfl
    · refine ⟨_, exec_resumeProfile_paused tag addressed paused, ?_⟩
      rw [chain_of_unmet]
      · exact changed 0x15#8 .running
      · refine Bool.eq_false_iff.2 fun met => ?_
        rcases stays with moving | ⟨r, current, unmet⟩
        · simp [waitingEndMet, changeProfile, moving] at met
        · exact unmet ((resumed_met paused current).1 met).2
    · have ends := chain_of_met 24 ((resumed_met paused current).2 ⟨waiting, met⟩)
      have row := exec_resumeProfile_paused tag addressed paused
      rw [chainLimit, ends] at row
      have ended := stepEnded_chain 24 (prelude_changeProfile .running s) nofun
        (postlude_withResult h 0x15#8 tag .done [] _)
      exact ⟨_, row, ended, by simp [withResult, atDispatch], by simp [withResult, atDispatch], by simp [withResult],
        by simp [withResult]⟩
    · rw [exec_resumeProfile_addressed tag addressed, resumeReply, profile, if_neg other]
      rfl
  · refine ⟨_, exec_stopProfile_addressed tag addressed, ?_⟩
    obtain ⟨seq, temp, ⟨cool, view, setup, sampling, disp⟩, station, ⟨setpoint, -⟩, ⟨-, -, gas⟩, -⟩ :=
      postlude_withResult h 0x16#8 tag .done [] (stopProfile (atDispatch s))
    have draw (x : State) : (withResult h 0x16#8 tag .done [] x).draw = x.draw := by simp [withResult]
    obtain ⟨seq', temp', ⟨cool', view', setup', sampling', disp'⟩, station', ⟨setpoint', -⟩, -⟩ := prelude_atDispatch s
    have busy := stopProfile_busy (s := atDispatch s)
    have idle := stopProfile_idle (s := atDispatch s)
    have stands := stopProfile_stands (atDispatch s)
    rw [seq', temp', cool'] at busy
    rw [seq'] at idle
    rw [temp', cool', view', setup', sampling', disp', station', setpoint'] at stands
    rw [draw, seq, temp, cool, view, setup, sampling, disp, station, setpoint, gas]
    obtain ⟨profile, pending⟩ := stopProfile_stopped (atDispatch s)
    refine ⟨profile, pending, fun out => ?_, fun rest => ?_, stands⟩
    · obtain ⟨stopped, window, share, pour, regulation⟩ := busy out
      rw [stopped, window, share]
      exact ⟨rfl, rfl, rfl, rfl, rfl, rfl, pour, regulation⟩
    · rw [idle rest]
      simp [setPending, temp', cool']

end Sys2Proof.Machine
end

section
/-! ## The ramp on a 1 min event (R76, R95, R96): O31 -/

namespace Sys2Proof.Machine

/-! ### One movement (R95) -/

/-- A movement reaches a target no further away than the increment; else it goes one increment toward it (R95). -/
theorem moveToward_eq {inc : Int} (forward : 0 ≤ inc) (a target : Int) :
    moveToward a target inc =
      if (a - target * 65536).natAbs ≤ inc.natAbs then (target * 65536, true)
      else (if a < target * 65536 then a + inc else a - inc, false) := by
  rcases lt_trichotomy a (target * 65536) with below | reached | above
  · have near : target * 65536 ≤ a + inc ↔ (a - target * 65536).natAbs ≤ inc.natAbs := by omega
    simp [moveToward, below, near]
  · simp [moveToward, reached]
  · have near : a - inc ≤ target * 65536 ↔ (a - target * 65536).natAbs ≤ inc.natAbs := by omega
    simp [moveToward, above, above.not_gt, near]

theorem stepAdvancing_eq_true (s : State) :
    stepAdvancing s = true ↔
      (s.seq.profile = .running ∨ s.seq.profile = .ended) ∧ s.sup.station = .run ∧ s.seq.phase = some .ramping := by
  simp [stepAdvancing, and_assoc]

/-- Where the step is not advancing, nothing moves and no target is reached (R95). -/
theorem rampMove_still {s : State} (still : stepAdvancing s = false) : rampMove s = (s, false) := by
  unfold rampMove
  split
  · rw [if_neg (by simp [still])]
  · rfl

/-- An advancing ramp moves the accumulator once toward its target (R95). -/
theorem rampMove_advancing {r : StepRecord} {rate : Nat} {s : State} (advancing : stepAdvancing s = true)
    (current : s.seq.current = some r) (ramp : r.kind = .ramp rate) :
    rampMove s =
      (s.mapTemp fun t => { t with accumulator := (moveToward s.temp.accumulator r.target (rampIncrement rate)).1 },
        (moveToward s.temp.accumulator r.target (rampIncrement rate)).2) := by
  obtain ⟨kind, target, duration, endKind, gas, weight, syncOut⟩ := r
  subst ramp
  unfold rampMove
  rw [current]
  exact if_pos advancing

/-! ### What the sequencer does in the minute (R75, R76) -/

theorem durationCounts_eq_true (s : State) :
    durationCounts s = true ↔
      s.seq.phase = some .soaking ∧ (s.seq.profile = .running ∨ s.seq.profile = .ended) ∧ s.sup.station = .run := by
  simp [durationCounts, and_assoc]

theorem durationElapsed_iff {r : StepRecord} {s : State} (current : s.seq.current = some r) :
    durationElapsed s = true ↔ s.seq.phase = some .soaking ∧ s.seq.count = r.duration * 60 := by
  simp [durationElapsed, current]

/-- The step in SOAKING, none of its minutes counted (R76). -/
def Sequencer.soaking (q : Sequencer) : Sequencer := { q with phase := some .soaking, count := 0 }

@[simp] theorem Sequencer.soaking_current (q : Sequencer) : q.soaking.current = q.current := rfl

theorem enterSoaking_of_duration {r : StepRecord} (long : 0 < r.duration) : enterSoaking r = Sequencer.soaking := by
  funext q
  rw [enterSoaking, if_neg long.ne', Sequencer.soaking]

/-- A reached target of a step with a duration leads to SOAKING (R76). -/
theorem targetReached_soaks {r : StepRecord} {s : State} (current : s.seq.current = some r) (long : 0 < r.duration) :
    targetReached s = s.mapSeq Sequencer.soaking := by
  rw [targetReached, current]
  dsimp only
  rw [enterSoaking_of_duration long]
  exact chain_of_not_waiting _ (by simp [Sequencer.soaking])

theorem countMinute_rests {s : State} (rests : durationCounts s = false ∨ durationElapsed s = true) :
    countMinute s = s :=
  if_neg (by rcases rests with h | h <;> simp [h])

theorem elapseDuration_rests {s : State} (running : durationUp s = false) : elapseDuration s = s :=
  if_neg (by simp [running])

/-! ### The event's parts where the sequencer rests -/

/-- The 1 min event taken and the uptime counted, with nothing moved yet (R4). -/
def minuteBegun (s : State) : State :=
  s.mapTime fun t => { t with due1min := false, uptime := nextUptime t.uptime }

@[simp] theorem minuteBegun_frame (s : State) :
    (minuteBegun s).ident = s.ident ∧ (minuteBegun s).setup = s.setup ∧ (minuteBegun s).sup = s.sup ∧
      (minuteBegun s).sampling = s.sampling ∧ (minuteBegun s).link = s.link ∧ (minuteBegun s).seq = s.seq ∧
      (minuteBegun s).temp = s.temp ∧ (minuteBegun s).draw = s.draw ∧ (minuteBegun s).disp = s.disp := by
  simp [minuteBegun]

theorem minuteTaken_still {s : State} (still : stepAdvancing s = false) : minuteTaken s = (minuteBegun s, false) :=
  rampMove_still (s := minuteBegun s) still

theorem minuteTaken_advancing {r : StepRecord} {rate : Nat} {s : State} (advancing : stepAdvancing s = true)
    (current : s.seq.current = some r) (ramp : r.kind = .ramp rate) :
    minuteTaken s =
      ((minuteBegun s).mapTemp fun t =>
          { t with accumulator := (moveToward s.temp.accumulator r.target (rampIncrement rate)).1 },
        (moveToward s.temp.accumulator r.target (rampIncrement rate)).2) :=
  rampMove_advancing (s := minuteBegun s) advancing current ramp

theorem windowDone_accumulator (s : State) : (windowDone s).temp.accumulator = s.temp.accumulator := by
  simp [windowDone]

/-- What the duration count hangs on, for a state whose sequencer and station are those of `s`. -/
theorem durationTests_congr {s t : State} (seq : t.seq = s.seq) (sup : t.sup = s.sup) :
    durationCounts t = durationCounts s ∧ durationElapsed t = durationElapsed s ∧ durationUp t = durationUp s := by
  simp [durationCounts, durationElapsed, durationUp, seq, sup]

/-- Where no target is reached, no minute counted and no end taken, the event is its window alone. -/
theorem minuteDone_rests {b : Bool} {s : State} (unreached : (minuteTaken s).2 = false)
    (rests : durationCounts s = false ∨ durationElapsed s = true) (untaken : b = true → durationUp s = false) :
    minuteDone b s = windowDone (minuteTaken s).1 := by
  obtain ⟨-, sup, -, -, -, seq, -, -⟩ := minuteTaken_frame s
  cases b
  · obtain ⟨counts, elapsed, -⟩ := durationTests_congr (s := s) (t := windowDone (minuteTaken s).1)
      (by rw [windowDone_seq, seq]) (by rw [windowDone_sup, sup])
    rw [← counts, ← elapsed] at rests
    simp [minuteDone, unreached, sequencerMinute, countMinute_rests rests]
  · obtain ⟨counts, elapsed, up⟩ := durationTests_congr seq sup
    rw [← counts, ← elapsed] at rests
    have untaken' := up.trans (untaken rfl)
    simp [minuteDone, unreached, sequencerMinute, countMinute_rests rests, elapseDuration_rests untaken']

/-- The idle timer and the leak check leave the blocks that the event's parts have moved. -/
theorem minuteEnd_frame (b : Bool) (s : State) :
    (updateLeak (oneMinuteEvent b s)).seq = (minuteDone b s).seq ∧
      (updateLeak (oneMinuteEvent b s)).temp = (minuteDone b s).temp ∧
      (updateLeak (oneMinuteEvent b s)).cool = (minuteDone b s).cool ∧
      (updateLeak (oneMinuteEvent b s)).draw = (minuteDone b s).draw ∧
      (updateLeak (oneMinuteEvent b s)).disp = (minuteDone b s).disp ∧
      (updateLeak (oneMinuteEvent b s)).link = (minuteDone b s).link := by
  simp [oneMinuteEvent_eq]

/-! ### O31 -/

/-- A ramp that goes on leaves the sequencer, in either order (R75, R76). -/
theorem minuteDone_ramping {b : Bool} {s : State} (ramping : s.seq.phase = some .ramping)
    (unreached : (minuteTaken s).2 = false) : minuteDone b s = windowDone (minuteTaken s).1 := by
  refine minuteDone_rests unreached (.inl ?_) fun _ => ?_
  · simp [durationCounts, ramping]
  · refine Bool.eq_false_iff.2 fun up => ?_
    obtain ⟨-, -, -, soaking, -⟩ := (durationUp_eq_true s).1 up
    exact nomatch ramping.symm.trans soaking

/-- A step that has entered SOAKING with a duration has not run out of it (R75). -/
theorem durationUp_soaking {r : StepRecord} {s : State} (current : s.seq.current = some r) (long : 0 < r.duration) :
    durationUp (s.mapSeq Sequencer.soaking) = false := by
  refine Bool.eq_false_iff.2 fun up => ?_
  obtain ⟨r', current', -, -, elapsed⟩ := (durationUp_eq_true _).1 up
  obtain rfl : r' = r := by simpa [current, eq_comm] using current'
  have none : 0 = r'.duration * 60 := elapsed
  omega

/-- A ramp that reaches its target soaks from that minute on, in either order (R76). -/
theorem minuteDone_reached {b : Bool} {r : StepRecord} {s : State} (current : s.seq.current = some r)
    (long : 0 < r.duration) (reached : (minuteTaken s).2 = true) :
    (minuteDone b s).seq = s.seq.soaking ∧
      (minuteDone b s).temp.accumulator = (minuteTaken s).1.temp.accumulator := by
  obtain ⟨-, -, -, -, -, seq, -, -⟩ := minuteTaken_frame s
  have taken : (minuteTaken s).1.seq.current = some r := by rw [seq, current]
  cases b
  · have soaks := targetReached_soaks (s := windowDone (minuteTaken s).1) (by rw [windowDone_seq, taken]) long
    simp [minuteDone, reached, sequencerMinute, soaks, windowDone_seq, windowDone_accumulator, seq]
  · have soaks := targetReached_soaks taken long
    have stays := elapseDuration_rests (durationUp_soaking taken long)
    simp [minuteDone, reached, sequencerMinute, soaks, stays, windowDone_seq, windowDone_accumulator, seq]

theorem natAbs_rampIncrement (rate : Nat) : (rampIncrement rate).natAbs = (rate * 65536 + 720) / 1440 :=
  Int.natAbs_natCast _

/-- Settles O31: R95's movement by cases of the distance, then the sequencer's part of the minute in either order. -/
theorem rampMovesTowardItsTarget : Obligations.RampMovesTowardItsTarget := by
  refine ⟨fun a target inc forward => ?_, ?_⟩
  · rw [moveToward_eq forward.le]
    split
    · next near =>
      exact ⟨fun below => ⟨below, le_rfl⟩, fun above => ⟨le_rfl, above⟩, iff_of_true rfl near, fun _ => rfl⟩
    · next far =>
      refine ⟨fun below => ?_, fun above => ?_, iff_of_false nofun far, nofun⟩ <;> dsimp only <;> split <;> omega
  · intro b s r rate up due station profile ramping current ramp inc distance
    have advancing := (stepAdvancing_eq_true s).2 ⟨profile, station, ramping⟩
    have moved := moveToward_eq (inc := rampIncrement rate) (Int.natCast_nonneg _) s.temp.accumulator r.target
    rw [natAbs_rampIncrement] at moved
    have taken := minuteTaken_advancing advancing current ramp
    obtain ⟨seq, temp, -⟩ := minuteEnd_frame b s
    refine ⟨fun far => ⟨_, exec_event1min_due up due, ?_⟩, fun near long => ⟨_, exec_event1min_due up due, ?_⟩⟩
    · rw [if_neg (Nat.not_le.2 far)] at moved
      rw [moved] at taken
      rw [seq, temp, minuteDone_ramping ramping (by rw [taken]), windowDone_seq, windowDone_accumulator, taken]
      exact ⟨rfl, rfl⟩
    · rw [if_pos near] at moved
      rw [moved] at taken
      obtain ⟨soaks, reached⟩ := minuteDone_reached (b := b) current long (by rw [taken])
      rw [seq, temp, soaks, reached, taken]
      exact ⟨rfl, rfl⟩

end Sys2Proof.Machine
end

section
/-! ## The control window on a 1 min event (R75, R76, R97 to R105, R113): O30 -/

namespace Sys2Proof.Machine

/-! ### The regulator beside the sequencer (R76, R94) -/

/-- Of the temperature regulator the setpoint accumulator alone has moved from `s` to `t`. -/
def SetpointMovesAlone (s t : State) : Prop := t.temp = { s.temp with accumulator := t.temp.accumulator }

theorem SetpointMovesAlone.of_temp {s t : State} {a : Int} (h : t.temp = { s.temp with accumulator := a }) :
    SetpointMovesAlone s t := by
  unfold SetpointMovesAlone
  rw [h]

theorem SetpointMovesAlone.of_same {s t : State} (h : t.temp = s.temp) : SetpointMovesAlone s t :=
  .of_temp (a := s.temp.accumulator) h

theorem SetpointMovesAlone.trans {s t u : State} (h : SetpointMovesAlone s t) (k : SetpointMovesAlone t u) :
    SetpointMovesAlone s u := by
  unfold SetpointMovesAlone at *
  rw [k, h]

theorem beginStep_setpointMovesAlone (m : Option GasMode) (index : Nat) (r : StepRecord) (s : State) :
    SetpointMovesAlone s (beginStep m index r s) := by
  have placed : (beginStep m index r s).temp = (stepPlaced index r s).temp := by
    rw [beginStep_eq]
    unfold stepTold stepSet stepPour
    (repeat' split) <;> simp
  rcases stepPlaced_temp index r s with same | target
  exacts [.of_same (placed.trans same), .of_temp (placed.trans target)]

theorem takeSwitch_setpointMovesAlone (start : Nat) (s : State) : SetpointMovesAlone s (takeSwitch start s) := by
  unfold takeSwitch
  dsimp only
  split
  · exact .of_same rfl
  · exact beginStep_setpointMovesAlone _ _ _ (s.mapSeq _)

theorem endStep_setpointMovesAlone (s : State) : SetpointMovesAlone s (endStep s) := by
  unfold endStep
  split
  · exact takeSwitch_setpointMovesAlone _ s
  · split
    · exact beginStep_setpointMovesAlone _ _ _ s
    · exact .of_same (by simp)

theorem chain_setpointMovesAlone (n : Nat) (s : State) : SetpointMovesAlone s (chain n s) := by
  induction n generalizing s with
  | zero => exact .of_same rfl
  | succ n ih =>
    unfold chain
    split
    · exact (endStep_setpointMovesAlone s).trans (ih _)
    · exact .of_same rfl

theorem elapseDuration_setpointMovesAlone (s : State) : SetpointMovesAlone s (elapseDuration s) := by
  unfold elapseDuration
  split
  · exact chain_setpointMovesAlone _ (s.mapSeq _)
  · exact .of_same rfl

theorem sequencerMinute_setpointMovesAlone (b : Bool) (s : State) : SetpointMovesAlone s (sequencerMinute b s) := by
  unfold sequencerMinute
  split
  · unfold targetReached
    split
    · exact chain_setpointMovesAlone _ (s.mapSeq _)
    · exact .of_same rfl
  · exact .of_same (by simp)

theorem minuteTaken_setpointMovesAlone (s : State) : SetpointMovesAlone s (minuteTaken s).1 := by
  unfold minuteTaken rampMove
  (repeat' split)
  exacts [.of_temp rfl, .of_same rfl, .of_same rfl]

/-! ### An off window (R97, R105, R113) -/

/-- The regulator of an off window (R97, R105). -/
def Temperature.offWindow (t : Temperature) : Temperature :=
  { t with lastDemand := 0, clampSide := .unclamped, heaterDuty := 0, onTimer := none, windowFormed := true }

/-- The cooling share unit asks for nothing and is granted nothing (R113, R118 to R120). -/
def Cooling.Unasked (c : Cooling) : Prop :=
  c.demandUnits = 0 ∧ c.lastGrant = 0 ∧ c.openTime = 0 ∧ c.openTimer = none

theorem formWindow_off {s : State} (off : regulatingTemperature s = none) :
    formWindow s = formShare 0 (s.mapTemp Temperature.offWindow) := by
  unfold formWindow
  rw [off]
  rfl

theorem formShare_unasked (s : State) : (formShare 0 s).cool.Unasked := by
  obtain ⟨-, -, grant, openTime, openTimer⟩ := formShare_cool 0 s
  have demand : (formShare 0 s).cool.demandUnits = 0 := by simp [formShare]
  have granted : (formShare 0 s).cool.lastGrant = 0 := by
    have capped := (finalGrant_le _ (formShare 0 s).cool.throttle s.setup.fallbackCapacity s.link.silent).trans
      (weightedShare_le_demand (formShare 0 s).cool.demandUnits (formShare 0 s).cool.weight
        (s.view.demands.map (·.2)) (formShare 0 s).cool.capacity)
    rw [demand] at capped
    rw [grant, demand]
    exact Nat.le_zero.1 capped
  have closed : (formShare 0 s).cool.openTime = 0 := by rw [openTime, granted]; simp [glycolSeconds]
  exact ⟨demand, granted, closed, by rw [openTimer, closed]; rfl⟩

theorem windowDone_off {s : State} (off : regulatingTemperature s = none) :
    (windowDone s).temp = s.temp.offWindow ∧ (windowDone s).cool.Unasked ∧
      (windowDone s).cool.weight = (s.seq.current.map (·.weight)).getD 1 := by
  have off' : regulatingTemperature (computeSetpoint s) = none := by
    simpa [regulatingTemperature] using off
  rw [windowDone, formWindow_off off']
  exact ⟨by simp, formShare_unasked _, by simp [formShare]⟩

theorem regulatingTemperature_outside_run {s : State} (h : s.sup.station ≠ .run) : regulatingTemperature s = none :=
  if_neg (by simp [h])

/-- The first window after a reset does not regulate (notes/assumptions/29.md). -/
theorem regulatingTemperature_first {s : State} (h : s.temp.windowFormed = false) : regulatingTemperature s = none :=
  if_neg (by simp [h])

/-- The first window after a reset is an off window in either order, and the integral stands (R111, R124). -/
theorem minuteDone_first {b : Bool} {s : State} (first : s.temp.windowFormed = false) :
    (∃ a, (minuteDone b s).temp = { s.temp.offWindow with accumulator := a }) ∧ (minuteDone b s).cool.Unasked := by
  have taken := minuteTaken_setpointMovesAlone s
  have window {x : State} (moved : SetpointMovesAlone s x) :
      (windowDone x).temp = { s.temp.offWindow with accumulator := x.temp.accumulator } ∧
        (windowDone x).cool.Unasked := by
    unfold SetpointMovesAlone at moved
    obtain ⟨temp, cool, -⟩ := windowDone_off (regulatingTemperature_first (s := x) (by rw [moved, first]))
    exact ⟨by rw [temp, moved]; rfl, cool⟩
  cases b
  · obtain ⟨temp, cool⟩ := window taken
    have moved : SetpointMovesAlone (windowDone (minuteTaken s).1) (minuteDone false s) :=
      sequencerMinute_setpointMovesAlone _ _
    unfold SetpointMovesAlone at moved
    exact ⟨⟨_, by rw [moved, temp]⟩, by simpa [minuteDone] using cool⟩
  · obtain ⟨temp, cool⟩ := window ((taken.trans (sequencerMinute_setpointMovesAlone (minuteTaken s).2 _)).trans
      (elapseDuration_setpointMovesAlone _))
    exact ⟨⟨_, temp⟩, cool⟩

/-! ### A window that regulates (R98 to R102, R113) -/

theorem regulatingTemperature_regulates {s : State} (formed : s.temp.windowFormed = true)
    (station : s.sup.station = .run) (busy : s.seq.profile ≠ .idle) (good : s.sampling.beer.state = .good) :
    regulatingTemperature s = s.sampling.beer.filtered :=
  if_pos ⟨formed, station, busy, good⟩

theorem heatingWindow_eq_true (s : State) (e : Int) :
    heatingWindow s e = true ↔
      s.ident.heaterFitted = true ∧ s.sampling.jacket.state = .good ∧ s.setup.heatBand < -e := by
  simp [heatingWindow, and_assoc]

/-- The regulator's block after a window that regulates with the error `e` (R98 to R102). -/
def regulatedTemp (e : Int) (s : State) : Temperature :=
  let acc := nextIntegral s.temp.clampSide s.temp.integral e s.setup.ki
  let sum := proportional e s.setup.kp + acc / 256
  let duty := if heatingWindow s e then heaterDuty e s.setup.kp else 0
  { s.temp with integral := acc, lastDemand := clamp 0 100 sum, clampSide := sideOf sum, heaterDuty := duty,
                onTimer := windowTimer (duty.toNat * 60 / 100), windowFormed := true }

/-- The same block by R98 to R102, with the window's three quantities named. -/
theorem regulatedTemp_eq {heats : Prop} [Decidable heats] {e acc sum : Int} {s : State}
    (heating : heatingWindow s e = true ↔ heats)
    (integral : acc = if (s.temp.clampSide = .high ∧ 0 < e) ∨ (s.temp.clampSide = .low ∧ e < 0) then s.temp.integral
      else max 0 (min 25600 (s.temp.integral + e * s.setup.ki)))
    (demanded : sum = (e * s.setup.kp).tdiv 16 + acc / 256) :
    let duty : Int := if heats then max 1 (min 100 ((-e * s.setup.kp).tdiv 16)) else 0
    regulatedTemp e s =
      { s.temp with
        integral := acc, lastDemand := max 0 (min 100 sum),
        clampSide := if 100 < sum then .high else if sum < 0 then .low else .unclamped, heaterDuty := duty,
        onTimer := if duty.toNat * 60 / 100 = 0 then none else some (duty.toNat * 60 / 100 * 100),
        windowFormed := true } := by
  have next : nextIntegral s.temp.clampSide s.temp.integral e s.setup.ki = acc := by
    rw [integral, nextIntegral, clamp_eq_max_min (by decide)]
  intro duty
  unfold regulatedTemp
  dsimp only
  rw [next, proportional, ← demanded, clamp_eq_max_min (by decide), windowTimer_eq, heaterDuty,
    clamp_eq_max_min (by decide)]
  simp only [heating, sideOf]
  rfl

theorem formWindow_regulates {f e : Int} {s : State} (on : regulatingTemperature s = some f)
    (error : f - reportedSetpoint s.temp = e) :
    formWindow s =
      formShare (if heatingWindow s e then 0 else (regulatedTemp e s).lastDemand.toNat)
        (s.mapTemp fun _ => regulatedTemp e s) := by
  subst error
  unfold formWindow
  rw [on]
  rfl

theorem windowDone_regulates {f e : Int} {s : State} (on : regulatingTemperature s = some f)
    (error : f - reportedSetpoint s.temp = e) :
    (windowDone s).temp = regulatedTemp e s ∧
      (windowDone s).cool.demandUnits =
        (if heatingWindow s e then 0 else (regulatedTemp e s).lastDemand.toNat) * s.setup.valveCapacity / 100 := by
  have regulated : regulatedTemp e (computeSetpoint s) = regulatedTemp e s := by simp [regulatedTemp, heatingWindow]
  have heats : heatingWindow (computeSetpoint s) e = heatingWindow s e := by simp [heatingWindow]
  have window := formWindow_regulates (s := computeSetpoint s) (e := e)
    (by simpa [regulatingTemperature] using on) (by simpa using error)
  rw [windowDone, window, regulated, heats]
  exact ⟨by simp, by simp [formShare]⟩

/-! ### The duration count (R75, R76) -/

/-- The sequencer with one more minute counted (R75). -/
def Sequencer.counted (q : Sequencer) : Sequencer := { q with count := q.count + 1 }

@[simp] theorem Sequencer.counted_current (q : Sequencer) : q.counted.current = q.current := rfl

theorem countMinute_counts {s : State} (counts : durationCounts s = true) (runs : durationElapsed s = false) :
    countMinute s = s.mapSeq Sequencer.counted :=
  if_pos (by simp [counts, runs])

section
variable {s : State} {r : StepRecord} (current : s.seq.current = some r) (counts : durationCounts s = true)
  (runs : s.seq.count ≠ r.duration * 60)
include current counts runs

/-- A step whose minutes count is not advancing, and its duration has not elapsed (R74, R75). -/
theorem minuteTaken_of_counts :
    minuteTaken s = (minuteBegun s, false) ∧ durationElapsed s = false := by
  obtain ⟨soaking, -⟩ := (durationCounts_eq_true s).1 counts
  refine ⟨minuteTaken_still (by simp [stepAdvancing, soaking]), Bool.eq_false_iff.2 fun elapsed => ?_⟩
  exact runs ((durationElapsed_iff current).1 elapsed).2

/-- The sequencer's part second: the minute is counted, and an end that it brings stands (R75,
notes/assumptions/19.md). -/
theorem minuteDone_second_counts : (minuteDone false s).seq = s.seq.counted := by
  obtain ⟨taken, elapsed⟩ := minuteTaken_of_counts current counts runs
  obtain ⟨counts', elapsed', -⟩ := durationTests_congr (s := s) (t := windowDone (minuteBegun s))
    (windowDone_seq _) (windowDone_sup _)
  have minute := countMinute_counts (counts'.trans counts) (elapsed'.trans elapsed)
  simp [minuteDone, taken, sequencerMinute, minute, windowDone_seq]

/-- The sequencer's part first: the end of a count that has reached the duration is taken at once (R75, R76). -/
theorem minuteDone_first_counts :
    (minuteDone true s).seq = (elapseDuration ((minuteBegun s).mapSeq Sequencer.counted)).seq := by
  obtain ⟨taken, elapsed⟩ := minuteTaken_of_counts current counts runs
  have minute := countMinute_counts (s := minuteBegun s) counts elapsed
  simp [minuteDone, taken, sequencerMinute, minute, windowDone_seq]

/-- A count short of the duration goes on (R75). -/
theorem minuteDone_first_goes_on (short : s.seq.count + 1 ≠ r.duration * 60) :
    (minuteDone true s).seq = s.seq.counted := by
  have stays : durationUp ((minuteBegun s).mapSeq Sequencer.counted) = false := by
    refine Bool.eq_false_iff.2 fun up => ?_
    obtain ⟨r', current', -, -, elapsed⟩ := (durationUp_eq_true _).1 up
    obtain rfl : r = r' := Option.some.inj (current.symm.trans current')
    exact short elapsed
  rw [minuteDone_first_counts current counts runs, elapseDuration_rests stays]
  rfl

/-- A count that reaches the duration leads to WAITING, where an end that is not met stays (R76). -/
theorem minuteDone_first_waits (reaches : s.seq.count + 1 = r.duration * 60)
    (stays : s.seq.profile = .ended ∨ r.endKind = .panel ∨ r.endKind = .stay ∨ ∃ g, r.endKind = .groupSync g) :
    (minuteDone true s).seq = { s.seq.counted with phase := some .waiting } := by
  obtain ⟨soaking, going, -⟩ := (durationCounts_eq_true s).1 counts
  have up : durationUp ((minuteBegun s).mapSeq Sequencer.counted) = true :=
    (durationUp_eq_true _).2 ⟨r, current, by rcases going with h | h <;> simp [Sequencer.counted, h],
      soaking, reaches⟩
  have test := waitingEndMet_iff
    (s := ((minuteBegun s).mapSeq Sequencer.counted).mapSeq fun q => { q with phase := some .waiting }) current
  rw [minuteDone_first_counts current counts runs, elapseDuration, if_pos up, chain_of_unmet]
  · rfl
  · refine Bool.eq_false_iff.2 fun met => ?_
    obtain ⟨running, -, ends⟩ := test.1 met
    rcases stays with ended | panel | stay | ⟨g, sync⟩
    · exact nomatch ended.symm.trans running
    all_goals simp [EndMet, *] at ends

end

/-- A step that is not advancing, and whose minutes stand, leaves the sequencer; an elapsed count is left by the
sequencer's part taken second. -/
theorem minuteDone_seq_stands {b : Bool} {s : State} (still : stepAdvancing s = false)
    (rests : durationCounts s = false ∨ durationElapsed s = true) (untaken : b = true → durationUp s = false) :
    (minuteDone b s).seq = s.seq := by
  have taken := minuteTaken_still still
  rw [minuteDone_rests (by rw [taken]) rests untaken, windowDone_seq, taken]
  rfl

/-! ### O30 -/

/-- With the station not in RUN the event is an off window: neither ramp, sequencer nor idle timer moves (R75, R95, R97,
R184). -/
theorem oneMinuteEvent_outside_run {s : State} (outside : s.sup.station ≠ .run) :
    oneMinuteEvent false s = windowDone (minuteBegun s) := by
  have taken := minuteTaken_still (s := s) (by simp [stepAdvancing, outside])
  have done := minuteDone_rests (b := false) (by rw [taken]) (.inl (by simp [durationCounts, outside])) nofun
  rw [oneMinuteEvent_eq, done, taken]
  exact if_neg (by simp [idleRunning, idleStarted, windowDone_sup, outside])

/-- A window before the sequencer's part, with the step not advancing, decides the two regulators' blocks. -/
theorem minuteDone_second_window {s : State} (still : stepAdvancing s = false) :
    (minuteDone false s).temp = (windowDone (minuteBegun s)).temp ∧
      (minuteDone false s).cool = (windowDone (minuteBegun s)).cool := by
  simp [minuteDone, minuteTaken_still still, sequencerMinute]

/-- Settles O30: the off window, the window that regulates, the first window, and the duration count, each from the
lemmas on the event's parts. -/
theorem oneMinuteWindow : Obligations.OneMinuteWindow := by
  refine ⟨fun s up due outside => ?_, fun s f up due formed station busy good filtered phase => ?_,
    fun b s up due first => ?_, fun r s up due current => ?_⟩
  · refine ⟨_, exec_event1min_due up due, ?_⟩
    rw [oneMinuteEvent_outside_run outside]
    obtain ⟨temp, ⟨demand, grant, openTime, openTimer⟩, weight⟩ :=
      windowDone_off (s := minuteBegun s) (regulatingTemperature_outside_run outside)
    refine ⟨temp, demand, grant, openTime, openTimer, weight.trans ?_, by simp [windowDone]⟩
    rw [show (minuteBegun s).seq = s.seq by simp]
    cases s.seq.current <;> rfl
  · intro e held acc sum heats
    have still : stepAdvancing s = false := by simp [stepAdvancing, phase]
    obtain ⟨temp', cool'⟩ := minuteDone_second_window still
    obtain ⟨-, temp, cool, -⟩ := minuteEnd_frame false s
    obtain ⟨regulated, units⟩ := windowDone_regulates (s := minuteBegun s) (e := e)
      ((regulatingTemperature_regulates formed station busy good).trans filtered) rfl
    have heating : heatingWindow (minuteBegun s) e = true ↔ heats := heatingWindow_eq_true _ _
    have block := regulatedTemp_eq (acc := acc) (sum := sum) heating rfl rfl
    refine ⟨_, exec_event1min_due up due, ?_⟩
    rw [temp, cool, temp', cool', regulated, units, block]
    refine ⟨rfl, rfl, rfl, rfl, rfl, ?_, rfl, rfl, by simp, by simp⟩
    exact congrArg (· * s.setup.valveCapacity / 100) (if_congr heating rfl rfl)
  · obtain ⟨⟨a, temp'⟩, demand, grant, openTime, openTimer⟩ := minuteDone_first (b := b) first
    obtain ⟨-, temp, cool, -⟩ := minuteEnd_frame b s
    refine ⟨_, exec_event1min_due up due, ?_⟩
    rw [temp, cool, temp']
    exact ⟨rfl, rfl, rfl, rfl, rfl, rfl, demand, grant, openTime, openTimer⟩
  · intro counted
    have event (b : Bool) {q : Sequencer} (done : (minuteDone b s).seq = q) :
        ∃ t, exec (.event1min b) s = .next t ∧ t.seq = q :=
      ⟨_, exec_event1min_due up due, (minuteEnd_frame b s).1.trans done⟩
    refine ⟨fun soaking station going runs => ?_, fun soaking elapsed => event _ ?_, fun stands b => event _ ?_⟩
    · have counts := (durationCounts_eq_true s).2 ⟨soaking, going, station⟩
      exact ⟨event _ (minuteDone_second_counts current counts runs),
        fun short => event _ (minuteDone_first_goes_on current counts runs short),
        fun reaches stays => event _ (minuteDone_first_waits current counts runs reaches stays)⟩
    · exact minuteDone_seq_stands (by simp [stepAdvancing, soaking])
        (.inr ((durationElapsed_iff current).2 ⟨soaking, elapsed⟩)) nofun
    · have rests : stepAdvancing s = false ∧ durationCounts s = false ∧ durationUp s = false := by
        rcases stands with paused | waiting
        · simp [stepAdvancing, durationCounts, durationUp, paused]
        · simp [stepAdvancing, durationCounts, durationUp, durationElapsed, current, waiting]
      obtain ⟨still, uncounted, untaken⟩ := rests
      exact minuteDone_seq_stands still (.inl uncounted) fun _ => untaken

end Sys2Proof.Machine
end

section
/-! ## The ends that stop or start a timer (R38, R102, R120, R134, R170, R175, R184): O39 -/

namespace Sys2Proof.Machine

/-- A row whose occasion has come takes its effect, and then the leak check follows its conditions (R142). -/
theorem perform_due {p : State → Bool} (f : State → State) {s : State} (up : s.held = false) (now : p s = true) :
    perform (fun s => if p s then f s else s) s = .next (updateLeak (f s)) := by
  rw [perform_running _ up, if_pos now]

/-! ### The settle's end (R134) -/

/-- From REST an enabled mode's pressure above setpoint plus effective band begins a pulse (R132, R134). -/
theorem evaluateGas_pulses {m : GasMode} {p : Int} {s : State} (rest : s.gas.state = .rest)
    (enabled : enabledMode s = some m) (pressure : goodPressure s.sampling.transducer = some p)
    (within : p ≤ s.gas.ceiling) (above : s.gas.setpoint + effectiveBand s < p) :
    evaluateGas s = s.mapGas (·.moveTo .pulse) := by
  have decided : decideGas s = .pulse := by
    rw [decideGas_enabled pressure within enabled (.inl rest), if_neg (by simp [rest])]
    exact if_pos above
  rw [evaluateGas, decided, moveGas, if_neg (by simp [rest]), rest]
  rfl

/-- From REST a pressure within the effective band rests (R132). -/
theorem evaluateGas_rests {m : GasMode} {p : Int} {s : State} (rest : s.gas.state = .rest)
    (enabled : enabledMode s = some m) (pressure : goodPressure s.sampling.transducer = some p)
    (within : p ≤ s.gas.ceiling) (low : s.gas.setpoint - effectiveBand s ≤ p)
    (high : p ≤ s.gas.setpoint + effectiveBand s) : evaluateGas s = s := by
  have decided : decideGas s = .rest := by
    rw [decideGas_enabled pressure within enabled (.inl rest), if_neg (by simp [rest])]
    exact (if_neg (not_lt.2 high)).trans (if_neg fun below => not_lt.2 low below.1)
  rw [evaluateGas, decided, moveGas, if_pos rest.symm]

section
variable {m : GasMode} {p : Int} {s : State} (enabled : enabledMode s = some m)
  (pressure : goodPressure s.sampling.transducer = some p) (within : p ≤ s.gas.ceiling)
include enabled pressure within

/-- A settle that ends above setpoint plus effective band goes on with a pulse (R134). -/
theorem settleEnd_pulses (above : s.gas.setpoint + effectiveBand s < p) :
    settleEnd s = s.mapGas fun g => (g.moveTo .rest).moveTo .pulse :=
  evaluateGas_pulses (s := s.mapGas (·.moveTo .rest)) rfl enabled pressure within above

/-- A settle that ends within the effective band rests (R134). -/
theorem settleEnd_rests (low : s.gas.setpoint - effectiveBand s ≤ p) (high : p ≤ s.gas.setpoint + effectiveBand s) :
    settleEnd s = s.mapGas (·.moveTo .rest) :=
  evaluateGas_rests (s := s.mapGas (·.moveTo .rest)) rfl enabled pressure within low high

end

/-! ### A pulse beside the stall timer's end (R5, R168 to R170) -/

/-- A pulse in FLOWING that meets neither the portion nor the maximum is counted, and starts a running stall timer
afresh (R168 to R170). -/
theorem flowPulse_counts {p : Pour} {s : State} (flowing : s.disp.state = .flowing) (pour : s.disp.pour = some p)
    (portion : ∀ v, p.portion = some v → meteredVolume (min 65535 (s.disp.pulses + 1)) s.setup.flowFactor < v)
    (maximum : meteredVolume (min 65535 (s.disp.pulses + 1)) s.setup.flowFactor < s.setup.maxPour) :
    flowPulse s =
      s.mapDisp fun d =>
        { d with pulses := min 65535 (d.pulses + 1), stallTimer := begunAgain (ms 2000) d.stallTimer } := by
  unfold flowPulse
  rw [flowing]
  dsimp only
  have unfilled : ¬s.setup.maxPour ≤ meteredVolume (min 65535 (s.disp.pulses + 1)) s.setup.flowFactor :=
    not_le.2 maximum
  cases asked : p.portion with
  | none => simp [volumeNow, pour, asked, unfilled]
  | some v => simp [volumeNow, pour, asked, unfilled, portion v asked]

/-! ### O39 -/

/-- Settles O39: each row at its occasion; the settle's end by the regulator's evaluation, the pulse by its own rule. -/
theorem timerEnds : Obligations.TimerEnds := by
  refine ⟨fun s up => ⟨fun h => ?_, fun h => ?_, fun state h => ?_, fun state h => ?_, fun h => ?_, ?_⟩,
    fun m p s up state h enabled pressure within => ?_, fun s up => ⟨fun loud h => ?_, fun silent => ?_, ?_⟩⟩
  · exact perform_due (p := heaterTimeUp) _ up (by simp [heaterTimeUp, due, h])
  · exact perform_due (p := glycolTimeUp) _ up (by simp [glycolTimeUp, due, h])
  · exact perform_due (p := pulseTimeUp) pulseEnd up (by simp [pulseTimeUp, due, state, h])
  · exact perform_due (p := stallDelayUp) _ up (by simp [stallDelayUp, due, state, h])
  · exact perform_due (p := portionTimeUp) _ up (by simp [portionTimeUp, due, h])
  · intro p flowing pour ended n volume portion maximum
    have pulse := flowPulse_counts flowing pour portion maximum
    have row : exec .flowPulse s = .next (updateLeak (flowPulse s)) := perform_running _ up
    have stands : begunAgain (ms 2000) s.disp.stallTimer = s.disp.stallTimer := by rw [ended, begunAgain_ended]
    rw [row, pulse, State.mapDisp, stands]
  · have row : exec .settleEnd s = .next (updateLeak (settleEnd s)) :=
      perform_due (p := settleTimeUp) settleEnd up (by simp [settleTimeUp, due, state, h])
    refine ⟨fun above => ?_, fun low high => ?_⟩
    · rw [row, settleEnd_pulses enabled pressure within above]
      rfl
    · rw [row, settleEnd_rests enabled pressure within low high]
      rfl
  · have row : exec .reportTimer s = .next (updateLeak (queueBayState s)) :=
      perform_due (p := reportUp) queueBayState up ((reportUp_eq_true s).2 ⟨loud, h⟩)
    rw [row, queueBayState, if_neg (by simp [loud])]
    rfl
  · exact perform_idle (p := fun s => reportUp s = true) queueBayState up (by simp [reportUp, silent])
  · intro station active period h
    exact perform_due (p := idleTimeUp) enterQuiet up ((idleTimeUp_eq_true s).2 ⟨station, active, period, h⟩)

end Sys2Proof.Machine
end

section
/-! ## The cooling share (R112 to R121): O10, O29 -/

namespace Sys2Proof.Machine

/-! ### The bounds of a window (R113, R117 to R120) -/

theorem nextThrottle_le {level : Nat} (h : level ≤ 3) (saturated : Bool) : nextThrottle level saturated ≤ 3 := by
  unfold nextThrottle
  split
  · exact Nat.min_le_left _ _
  · omega

/-- A grant within the valve capacity is a duty of at most 100 percent (R119). -/
theorem glycolSeconds_le {grant valve : Nat} (h : grant ≤ valve) : glycolSeconds grant valve ≤ 60 := by
  have duty : grant * 100 / valve ≤ 100 := Nat.div_le_of_le_mul (Nat.mul_le_mul_right 100 h)
  unfold glycolSeconds
  omega

/-- The own demand units of a demand in percent lie within the valve capacity (R113). -/
theorem demandUnits_le {demand valve : Nat} (h : demand ≤ 100) : demand * valve / 100 ≤ valve :=
  Nat.div_le_of_le_mul (Nat.mul_le_mul_right valve h)

/-- A request of up to 60 s (R120). -/
theorem windowTimer_le {seconds n : Nat} (h : seconds ≤ 60) (request : windowTimer seconds = some n) : n ≤ ms 60000 := by
  rw [windowTimer_eq] at request
  split at request
  · nomatch request
  · cases request
    show seconds * 100 ≤ 6000
    omega

/-- A window's share keeps the unit's bounds: of what the unit held before it uses the throttle alone (R117 to R120). -/
theorem formShare_coolOk {demand : Nat} {s : State} (percent : demand ≤ 100) (ok : s.cool.throttle ≤ 3) :
    CoolOk (formShare demand s).cool := by
  obtain ⟨-, throttle, grant, openTime, openTimer⟩ := formShare_cool demand s
  have units : (formShare demand s).cool.demandUnits ≤ s.setup.valveCapacity := demandUnits_le percent
  have withinDemand : (formShare demand s).cool.lastGrant ≤ (formShare demand s).cool.demandUnits := by
    rw [grant]
    exact (finalGrant_le _ _ _ _).trans (weightedShare_le_demand _ _ _ _)
  have withinCapacity : (formShare demand s).cool.lastGrant ≤ (formShare demand s).cool.capacity := by
    rw [grant]
    exact (finalGrant_le _ _ _ _).trans (weightedShare_le_capacity _ _ _ _)
  have seconds : (formShare demand s).cool.openTime ≤ 60 := by
    rw [openTime]
    exact glycolSeconds_le (withinDemand.trans units)
  refine ⟨?_, withinCapacity, seconds, fun n request => windowTimer_le seconds (openTimer ▸ request)⟩
  rw [throttle]
  exact nextThrottle_le ok _

/-- The demand that a control window hands on is a percentage (R100, R113). -/
theorem formWindow_percent (s : State) : ∃ demand ≤ 100, (formWindow s).cool = (formShare demand s).cool := by
  unfold formWindow
  split
  · exact ⟨0, by decide, rfl⟩
  · refine ⟨_, ?_, rfl⟩
    split
    · decide
    · exact Int.toNat_le.2 (clamp_between (by decide) _).2

/-! ### What happens to a window's request (R5, R106, R120, R121) -/

/-- The request of a window may shrink or end, and its demand be withdrawn: the bounds hang on neither (R121). -/
theorem CoolOk.request {c : Cooling} (ok : CoolOk c) (units : Nat) {timer : Timer}
    (bound : ∀ n, timer = some n → n ≤ ms 60000) : CoolOk { c with demandUnits := units, openTimer := timer } := by
  obtain ⟨throttle, grant, openTime, -⟩ := ok
  exact ⟨throttle, grant, openTime, bound⟩

theorem CoolOk.closed {c : Cooling} (ok : CoolOk c) : CoolOk { c with openTimer := none } :=
  ok.request c.demandUnits nofun

/-- One 10 ms event of the open time (R5, R120). -/
theorem CoolOk.tick {c : Cooling} (ok : CoolOk c) : CoolOk { c with openTimer := tick c.openTimer } := by
  have ⟨_, _, _, bound⟩ := ok
  refine ok.request c.demandUnits fun n ticked => ?_
  obtain ⟨k, running, rfl⟩ := Option.map_eq_some_iff.1 ticked
  exact (Nat.sub_le k 1).trans (bound k running)

/-- A share unit without a grant, as a reset leaves it (R125). -/
theorem coolOk_reset (capacity : Nat) : CoolOk { capacity := capacity } := by simp [CoolOk]

/-! ### The operations that touch the unit, in the order of their definitions -/

/-- The cooling share unit keeps its bounds (R117, R119). -/
def Cooled (s : State) : Prop := CoolOk s.cool

section
variable {s : State} (inv : Cooled s)
include inv

/-- The bounds hang on the cooling share unit alone. -/
theorem Cooled.stands {t : State} (same : t.cool = s.cool) : Cooled t := by
  unfold Cooled
  rw [same]
  exact inv

/-- A row that acts only on its occasion keeps the bounds where its action there does. -/
theorem Cooled.ite {t : State} {p : Prop} [Decidable p] (acts : Cooled t) : Cooled (if p then t else s) := by
  split
  exacts [acts, inv]

theorem Cooled.formWindow : Cooled (formWindow s) := by
  obtain ⟨demand, percent, formed⟩ := formWindow_percent s
  obtain ⟨throttle, -⟩ := inv
  unfold Cooled
  rw [formed]
  exact formShare_coolOk percent throttle

theorem Cooled.withdrawWindow : Cooled (withdrawWindow s) := inv.request 0 nofun

theorem Cooled.enterSafe : Cooled (enterSafe s) := by
  have withdrawn : Cooled (Machine.withdrawWindow
      (queueBayState (s.mapSup fun p => { p with station := .safe, quiet := false }))) :=
    Cooled.withdrawWindow (inv.stands (by simp))
  exact withdrawn.stands (by simp [Machine.enterSafe])

theorem Cooled.startStation : Cooled (startStation s) := by
  have entered : Cooled (startEntered s) := by
    refine inv.stands ?_
    unfold startEntered startReady
    dsimp only
    split <;> simp
  rw [startStation_eq]
  exact entered.ite entered.enterSafe

theorem Cooled.beerSample (raw : Nat) : Cooled (beerSample raw s) := by
  by_cases fault : (beerReading raw s).state = .fault ∧ s.sampling.beer.state ≠ .fault
  · obtain ⟨now, before⟩ := fault
    have raised : Cooled (raiseAlarm .beerProbe (beerTaken raw s)) := inv.stands (by simp [beerTaken])
    rw [beerSample_of_fault now before]
    exact (raised.ite (p := s.sampling.beer.state = .good) raised.withdrawWindow).stands (by simp)
  · rw [beerSample_of_no_fault fault, beerJudged]
    refine inv.stands ?_
    (repeat' split) <;> simp [beerTaken]

theorem Cooled.tenMsEvent (pins : SwitchPins) : Cooled (tenMsEvent pins s) := by
  have read : Cooled (if s.sampling.levelsTaken then laterReading pins (s.mapTime (·.advance))
      else firstReading pins (s.mapTime (·.advance))) := by
    refine inv.stands ?_
    split <;> simp
  exact CoolOk.tick read

theorem Cooled.oneSecondEvent (rawBeer rawJacket : Nat) : Cooled (oneSecondEvent rawBeer rawJacket s) := by
  obtain ⟨-, -, cool, -⟩ := oneSecondEvent_parts rawBeer rawJacket s
  have taken : Cooled (secondTaken s) := inv.stands rfl
  exact (taken.beerSample rawBeer).stands cool

/-- The window is the minute's only part that touches the unit, in either order (R97, R112). -/
theorem Cooled.oneMinuteEvent (b : Bool) : Cooled (oneMinuteEvent b s) := by
  rw [oneMinuteEvent_eq]
  cases b
  · have window : Cooled (windowDone (minuteTaken s).1) := Cooled.formWindow (inv.stands (by simp [minuteTaken]))
    exact window.stands (by simp [minuteDone])
  · have window : Cooled (windowDone (elapseDuration (sequencerMinute (minuteTaken s).2 (minuteTaken s).1))) :=
      Cooled.formWindow (inv.stands (by simp [minuteTaken]))
    exact window.stands (by simp [minuteDone])

theorem Cooled.stopLineActive : Cooled (stopLineActive s) := by
  have raised : Cooled (stopRaised s) := inv.stands (by simp [stopRaised_frame])
  have entered : Cooled (stopEntered s) := raised.ite raised.enterSafe
  rw [stopLineActive_eq]
  exact entered.stands (by simp)

theorem Cooled.stopProfile : Cooled (stopProfile s) := by
  by_cases idle : s.seq.profile = .idle
  · rw [stopProfile_idle idle]
    exact inv.stands rfl
  · obtain ⟨-, -, cool, -⟩ := stopProfile_busy idle
    exact inv.withdrawWindow.stands cool

/-- Of the commands RESTART resets the unit (R125), START may enter SAFE (R64) and STOP_PROFILE withdraws the window. -/
theorem Cooled.reply (n : CommandName) (args : List Byte) : Cooled (n.reply args s).state := by
  cases n <;> dsimp only [CommandName.reply]
  case restart =>
    obtain ⟨-, -, -, -, -, cool, -⟩ := restartStation_resets s
    rw [answer, Cooled, cool]
    exact coolOk_reset _
  case start =>
    unfold startReply
    (repeat' split)
    exacts [inv, inv, inv.startStation]
  case stopProfile => exact inv.stopProfile
  case clearSupply => exact inv.stands (by simp [answer])
  all_goals exact inv.stands (by simp)

theorem Cooled.commandFrame (n : CommandName) (h : Header) (tag : Byte) (args : List Byte) :
    Cooled (commandFrame n h tag args (n.reply args) s) :=
  commandFrame_keeps (fun _ _ inv => inv.stands (by simp)) (fun _ inv => inv.stands (by simp))
    (fun _ inv => inv.stands (by simp)) (fun _ _ inv => inv.stands (by simp)) (fun _ inv => inv.reply n args) inv

theorem Cooled.acceptFrame {h : Header} {act : State → State} (acts : ∀ x, Cooled x → Cooled (act x)) :
    Cooled (acceptFrame h act s) :=
  acceptFrame_keeps (fun _ _ inv => inv.stands (by simp)) (fun _ inv => inv.stands (by simp))
    (fun _ _ _ inv => acts _ inv) inv

end

/-! ### Every command -/

theorem cooled_powerOn (p : Straps) (s : State) : Cooled (powerOn p s) := by
  rw [powerOn_eq]
  exact coolOk_reset _

/-- Every command keeps the bounds. -/
theorem cooled_exec {c : Instr} {s t : State} (next : exec c s = .next t) (inv : Cooled s) : Cooled t := by
  have leak (x : State) (inv : Cooled x) : Cooled (updateLeak x) := inv.stands (by simp)
  have command {n : CommandName} {h : Header} {tag : Byte} {args : List Byte}
      (next : exec (n.row h tag args) s = .next t) : Cooled t :=
    perform_keeps ((exec_row n h tag args s).symm.trans next) leak (fun _ inv => inv.commandFrame n h tag args) inv
  cases c <;> have run := next <;> dsimp only [exec] at run
  case powerOn p =>
    cases run
    exact cooled_powerOn p s
  case rstnHeldLow =>
    cases run
    exact coolOk_reset _
  case setupItem => exact command (n := .setupItem) next
  case start => exact command (n := .start) next
  case restart => exact command (n := .restart) next
  case forceOutput => exact command (n := .forceOutput) next
  case writeStep => exact command (n := .writeStep) next
  case readStep => exact command (n := .readStep) next
  case switchBank => exact command (n := .switchBank) next
  case advance => exact command (n := .advance) next
  case pauseProfile => exact command (n := .pauseProfile) next
  case resumeProfile => exact command (n := .resumeProfile) next
  case stopProfile => exact command (n := .stopProfile) next
  case clearSupply => exact command (n := .clearSupply) next
  case setLevel => exact command (n := .setLevel) next
  case armPortion => exact command (n := .armPortion) next
  case readPour => exact command (n := .readPour) next
  case dropPours => exact command (n := .dropPours) next
  case readView => exact command (n := .readView) next
  case quiet => exact command (n := .quiet) next
  case wake => exact command (n := .wake) next
  case clearAlarms => exact command (n := .clearAlarms) next
  case leaveSafe => exact command (n := .leaveSafe) next
  all_goals refine perform_keeps run leak (fun _ inv => ?_) inv
  case event10ms pins _ => exact (inv.tenMsEvent pins).ite inv
  case event1s beer jacket _ => exact inv.ite (inv.oneSecondEvent beer jacket)
  case event1min first _ => exact inv.ite (inv.oneMinuteEvent first)
  case glycolOpenTimeEnd => exact inv.ite inv.closed
  case extStopActive => exact inv.ite inv.stopLineActive
  case receiveBayState | receiveDraw | receiveCoolCap | receivePour | receiveGroupSync | unknownCommand =>
    refine inv.acceptFrame fun x inv => inv.stands ?_
    (repeat' split) <;> simp [queueResult, refuse]
  case auxLineChange line _ => cases line <;> exact inv.ite (inv.stands (by simp))
  case event100ms | event1h | handlePress | handleRelease | extStopInactive | heaterOnTimeEnd | durationElapsed
      | reportTimer | idleTimerExpiry | pulseTimerEnd | settleEnd | settleWindowEnd | keepTimerPeriod | backoffEnd
      | recoverEnd | stallTimerStart | stallTimerEnd | lowPressureTimerEnd | tailTimerEnd | portionExpiry | busIdle
      | txAttemptStart | firstStartBit =>
    exact inv.ite (inv.stands (by simp))
  case flowPulse | frameDiscarded | peerPartExpiry => exact inv.stands (by simp)
  case arbitrationLost | bitError =>
    split
    exacts [inv, inv.ite (inv.stands (by simp))]
  case frameSent =>
    split
    exacts [inv.stands (by simp), inv]

/-- Settles O10: the command taken keeps the bounds, in which the commands that wait have no part. The setup items have no
part either: the own demand, and so the duty, is measured by the valve capacity that divides the grant (R113, R119). -/
theorem coolingGrantKept : Obligations.CoolingGrantKept := by
  intro s t next _ inv
  unfold step at next
  split at next
  · cases next
    exact inv
  · exact cooled_exec next inv

end Sys2Proof.Machine

namespace Sys2Proof

open Sys2Proof.Machine

/-! ### The weighted share (R116) -/

/-- Settles O29: its two cases are the definition's branches, its two bounds those of the 1 min event. -/
theorem weightedShare : Obligations.WeightedShare := by
  refine fun u0 w0 capacity peers => ⟨fun enough => ?_, fun short => ?_, weightedShare_le_demand u0 w0 peers capacity,
    weightedShare_le_capacity u0 w0 peers capacity⟩
  · exact if_pos enough
  · exact if_neg (Nat.not_le.2 short)

end Sys2Proof
end

section
/-! ## SENSOR_VENT and the transducer (R11, R12, R130, R137): O14 -/

namespace Sys2Proof.Machine

/-! ### The evaluation decides SENSOR_VENT by the transducer (R130, R137) -/

/-- A GOOD transducer has a pressure (R12). -/
def Measured (t : Transducer) : Prop := t.state = .good → t.history ≠ []

theorem Measured.heldPressure {t : Transducer} (measured : Measured t) (good : t.state = .good) :
    ∃ p, heldPressure t = some p := by
  cases history : t.history with
  | nil => exact absurd history (measured good)
  | cons p ps => exact ⟨_, by rw [Machine.heldPressure, history]⟩

/-- A sample takes a transducer to GOOD with a pressure alone (R11, R12). -/
theorem Measured.sample {t : Transducer} (measured : Measured t) (p fullScale : Int) :
    Measured (t.sample p fullScale) := by
  unfold Measured Transducer.sample
  dsimp only
  split
  · (repeat' split) <;> simp
  · split
    · simp
    · exact measured

/-- With a pressure no evaluation decides SENSOR_VENT (R130). -/
theorem decideGas_ne_sensorVent {s : State} {p : Int} (pressure : goodPressure s.sampling.transducer = some p) :
    decideGas s ≠ .sensorVent := by
  by_cases stays : s.gas.state = .relief ∧ s.gas.ceiling - 100 < p
  · simp [decideGas_reliefStays pressure stays.1 stays.2]
  by_cases above : s.gas.ceiling < p
  · simp [decideGas_of_overCeiling ⟨p, pressure, above⟩]
  · refine (decideGas_unvented pressure (not_lt.1 above) ?_).2
    by_cases relief : s.gas.state = .relief
    · exact .inr (not_lt.1 fun high => stays ⟨relief, high⟩)
    · exact .inl relief

/-- An evaluation decides SENSOR_VENT exactly while the transducer is not GOOD (R130, R137). -/
theorem decideGas_sensorVent_iff {s : State} (measured : Measured s.sampling.transducer) :
    decideGas s = .sensorVent ↔ s.sampling.transducer.state ≠ .good := by
  refine ⟨fun vents good => ?_, decideGas_of_sensor⟩
  obtain ⟨p, pressure⟩ := measured.heldPressure good
  exact decideGas_ne_sensorVent (p := p) (by simp [goodPressure, good, pressure]) vents

/-! ### What leaves the regulation state -/

@[simp] theorem computeSetpoint_gasState (s : State) : (computeSetpoint s).gas.state = s.gas.state := by
  unfold computeSetpoint
  split <;> rfl

@[simp] theorem refitSetpoint_gasState (s : State) : (refitSetpoint s).gas.state = s.gas.state := by
  unfold refitSetpoint
  split <;> simp

@[simp] theorem leakDrift_gasState (t : Int) (s : State) : (leakDrift t s).gas.state = s.gas.state := by
  unfold leakDrift
  (repeat' split) <;> rfl

@[simp] theorem leakHour_gasState (s : State) : (leakHour s).gas.state = s.gas.state := by
  unfold leakHour
  dsimp only
  (repeat' split) <;> simp

@[simp] theorem completeBucket_gasState (s : State) : (completeBucket s).gas.state = s.gas.state := by
  rw [completeBucket, State.mapGas_gas]
  split <;> rfl

@[simp] theorem beerSample_gasState (raw : Nat) (s : State) : (beerSample raw s).gas.state = s.gas.state := by
  unfold beerSample
  dsimp only
  (repeat' split) <;> simp

@[simp] theorem storeItem_gasState (item : ItemName) (v : Int) (s : State) :
    (storeItem item v s).gas.state = s.gas.state := by
  unfold storeItem
  dsimp only
  (repeat' split) <;> simp

@[simp] theorem setupItemReply_gasState (args : List Byte) (s : State) :
    (setupItemReply args s).state.gas.state = s.gas.state := by
  unfold setupItemReply
  (repeat' split) <;> simp [refuse]

/-! ### What leaves the transducer, of the operations that take another input -/

@[simp] theorem beerSample_transducer (raw : Nat) (s : State) :
    (beerSample raw s).sampling.transducer = s.sampling.transducer := by
  unfold beerSample
  dsimp only
  (repeat' split) <;> simp

@[simp] theorem jacketSample_transducer (raw : Nat) (s : State) :
    (jacketSample raw s).sampling.transducer = s.sampling.transducer := by
  unfold jacketSample
  dsimp only
  (repeat' split) <;> simp

@[simp] theorem lineChanged_transducer (line : Nat) (s : State) :
    (lineChanged line s).sampling.transducer = s.sampling.transducer := by
  unfold lineChanged
  split <;> simp

@[simp] theorem pressHandle_transducer (s : State) :
    (pressHandle s).sampling.transducer = s.sampling.transducer := by
  unfold pressHandle
  dsimp only
  (repeat' split) <;> simp

@[simp] theorem releaseHandle_transducer (s : State) :
    (releaseHandle s).sampling.transducer = s.sampling.transducer := by
  simp [releaseHandle]

@[simp] theorem stopLineInactive_transducer (s : State) :
    (stopLineInactive s).sampling.transducer = s.sampling.transducer := by
  simp [stopLineInactive_eq, stopCleared_sampling]

@[simp] theorem auxChanges_transducer (s : State) :
    (changeKeg s).sampling.transducer = s.sampling.transducer ∧
      (changeLid s).sampling.transducer = s.sampling.transducer ∧
      (changeDrip s).sampling.transducer = s.sampling.transducer := by
  unfold changeKeg changeLid changeDrip
  dsimp only
  refine ⟨?_, ?_, by simp⟩ <;> split <;> simp

@[simp] theorem storeItem_transducer (item : ItemName) (v : Int) (s : State) :
    (storeItem item v s).sampling.transducer = s.sampling.transducer := by
  unfold storeItem
  dsimp only
  (repeat' split) <;> simp

@[simp] theorem setupItemReply_transducer (args : List Byte) (s : State) :
    (setupItemReply args s).state.sampling.transducer = s.sampling.transducer := by
  unfold setupItemReply
  (repeat' split) <;> simp [refuse]

/-- The first reading and the later ones take the lines alone (R13). -/
theorem tenMsEvent_sensor (pins : SwitchPins) (s : State) :
    (tenMsEvent pins s).sampling.transducer = s.sampling.transducer ∧
      (tenMsEvent pins s).gas.state = s.gas.state := by
  unfold tenMsEvent countDurations
  dsimp only
  split <;> simp [laterReading, firstReading]

/-! ### The shared operations that evaluate, in the order of their definitions -/

/-- SENSOR_VENT stands exactly while the transducer is not GOOD, and a GOOD one has a pressure (R12, R137). -/
def Vented (s : State) : Prop :=
  Measured s.sampling.transducer ∧ (s.gas.state = .sensorVent ↔ s.sampling.transducer.state ≠ .good)

/-- Of a running part the invariant asks just this. -/
theorem ventInv_iff (s : State) : VentInv s ↔ (s.held = false → Vented s) := Iff.rfl

/-- A regulation state that an evaluation has decided stands as the transducer asks (R130, R137). -/
theorem vented_of_decided {x t : State} (measured : Measured x.sampling.transducer)
    (sensor : t.sampling.transducer = x.sampling.transducer) (decided : t.gas.state = decideGas x) : Vented t := by
  unfold Vented
  rw [sensor, decided]
  exact ⟨measured, decideGas_sensorVent_iff measured⟩

section
variable {s : State} (inv : Vented s)
include inv

/-- The invariant hangs on the transducer and the regulation state alone. -/
theorem Vented.stands {t : State}
    (same : t.sampling.transducer = s.sampling.transducer ∧ t.gas.state = s.gas.state) : Vented t := by
  obtain ⟨sensor, state⟩ := same
  unfold Vented
  rw [sensor, state]
  exact inv

/-- A row that acts only on its occasion keeps the invariant where its action there does. -/
theorem Vented.ite {t : State} {p : Prop} [Decidable p] (acts : p → Vented t) : Vented (if p then t else s) := by
  split
  · next occasion => exact acts occasion
  · exact inv

/-- With the transducer as it was an evaluation decides afresh. -/
theorem Vented.decided {x t : State} (before : x.sampling.transducer = s.sampling.transducer)
    (sensor : t.sampling.transducer = x.sampling.transducer) (state : t.gas.state = decideGas x) : Vented t :=
  vented_of_decided (before ▸ inv.1) sensor state

theorem Vented.mapSeq (f : Sequencer → Sequencer) : Vented (s.mapSeq f) := inv.stands ⟨rfl, rfl⟩

theorem Vented.evaluateGas : Vented (evaluateGas s) := inv.decided rfl (by simp) (evaluateGas_state s)

/-- A pulse and the settle after it are no SENSOR_VENT (R134). -/
theorem Vented.pulseEnd (pulse : s.gas.state = .pulse) : Vented (pulseEnd s) := by
  obtain ⟨measured, vents⟩ := inv
  have good : s.sampling.transducer.state = .good := by simpa [pulse] using vents
  exact ⟨measured, by simp [Machine.pulseEnd, Gas.moveTo, good]⟩

theorem Vented.settleEnd : Vented (settleEnd s) :=
  inv.decided (x := s.mapGas (·.moveTo .rest)) rfl (by simp) (evaluateGas_state _)

theorem Vented.takeUpMode (m : Option GasMode) : Vented (takeUpMode m s) := by
  unfold Machine.takeUpMode
  refine inv.decided ?_ (by simp) (evaluateGas_state _)
  split <;> rfl

theorem Vented.beginStep (m : Option GasMode) (i : Nat) (r : StepRecord) : Vented (beginStep m i r s) := by
  have set : Vented (stepSet m i r s) :=
    inv.stands (by simp [stepSet_frame, stepComputed, stepPlaced_frame, clearRing])
  rw [beginStep_eq]
  exact (set.takeUpMode m).stands (by simp [stepTold_frame])

theorem Vented.takeSwitch (n : Nat) : Vented (takeSwitch n s) := by
  unfold Machine.takeSwitch
  dsimp only
  split
  · exact inv
  · exact (inv.mapSeq _).beginStep _ _ _

theorem Vented.changeProfile (p : ProfileState) : Vented (changeProfile p s) :=
  (inv.mapSeq fun q => { q with profile := p }).evaluateGas.stands (by simp [Machine.changeProfile])

theorem Vented.endStep : Vented (endStep s) := by
  unfold Machine.endStep
  split
  · exact inv.takeSwitch _
  · split
    exacts [inv.beginStep _ _ _, inv.changeProfile _]

omit inv in
theorem Vented.chain (n : Nat) {s : State} (inv : Vented s) : Vented (chain n s) := by
  induction n generalizing s with
  | zero => exact inv
  | succ n ih => exact inv.ite fun _ => ih inv.endStep

theorem Vented.takeSwitchChain (n : Nat) : Vented (takeSwitchChain n s) := (inv.takeSwitch n).chain _

theorem Vented.endStepChain : Vented (endStepChain s) := inv.endStep.chain _

theorem Vented.elapseDuration : Vented (elapseDuration s) := inv.ite fun _ => (inv.mapSeq _).chain _

theorem Vented.targetReached : Vented (targetReached s) := by
  unfold Machine.targetReached
  split
  · exact (inv.mapSeq _).chain _
  · exact inv

theorem Vented.groupSyncAccepted (g : Nat) : Vented (groupSyncAccepted g s) := by
  have synced : Vented (groupSyncAtSequencer g s) := by
    unfold groupSyncAtSequencer
    split
    · split
      exacts [inv.takeSwitchChain _, inv.ite fun _ => inv.endStepChain]
    · exact inv.ite fun _ => inv.endStepChain
  exact synced.stands (by simp [Machine.groupSyncAccepted])

theorem Vented.stationChanged : Vented (stationChanged s) := by
  refine Vented.evaluateGas (inv.stands ?_)
  simp

theorem Vented.enterSafe : Vented (enterSafe s) := by
  refine Vented.stationChanged (inv.stands ?_)
  simp

theorem Vented.startStation : Vented (startStation s) := by
  have ready : Vented (startReady s) := by
    refine inv.stands ?_
    unfold startReady
    dsimp only
    split <;> simp
  have computed : Vented (computeSetpoint (startReady s)) := ready.stands (by simp)
  have entered : Vented (startEntered s) := computed.stationChanged.stands (by simp [startEntered])
  rw [startStation_eq]
  exact entered.ite fun _ => entered.enterSafe

theorem Vented.leaveSafeState : Vented (leaveSafeState s) := by
  have left : Vented (s.mapSup fun p => { p with station := .run, idleCount := 0 }) := inv.stands ⟨rfl, rfl⟩
  exact left.stationChanged.stands (by simp [Machine.leaveSafeState])

theorem Vented.stopLineActive : Vented (stopLineActive s) := by
  have raised : Vented (stopRaised s) := inv.stands (by simp [stopRaised_frame])
  have entered : Vented (stopEntered s) := raised.ite fun _ => raised.enterSafe
  rw [stopLineActive_eq]
  exact entered.stands (by simp)

theorem Vented.stopProfile : Vented (stopProfile s) := by
  refine Vented.ite ?_ fun _ => inv.mapSeq _
  have stopped : Vented (withdrawWindow (endFlowing .mode (s.mapSeq fun q =>
      { q with profile := .idle, index := 0, phase := none, count := 0, pendingSwitch := none }))) :=
    inv.stands (by simp)
  exact stopped.evaluateGas.stands (by simp)

/-! ### The events, and the commands' replies -/

/-- The regulator takes the sample by its one evaluation, in either order (R11, R130, R137). -/
theorem Vented.hundredMsEvent (raw : Nat) (b : Bool) : Vented (hundredMsEvent raw b s) := by
  have measured : Measured (regulated raw b s).sampling.transducer := by
    simpa [regulated_frame, pressureReading] using inv.1.sample _ _
  have reacts : Vented (reacted raw b s) :=
    vented_of_decided measured (by simp [regulated_frame, reacted_frame]) reacted_state
  rw [hundredMsEvent_eq]
  exact reacts.stands (by simp)

theorem Vented.sequencerMinute (b : Bool) : Vented (sequencerMinute b s) := by
  unfold Machine.sequencerMinute
  split
  exacts [inv.targetReached, inv.stands (by simp)]

theorem Vented.windowDone : Vented (windowDone s) := inv.stands (by simp [Machine.windowDone])

theorem Vented.oneMinuteEvent (b : Bool) : Vented (oneMinuteEvent b s) := by
  have moved : Vented (minuteTaken s).1 := inv.stands (by simp [minuteTaken])
  have done : Vented (minuteDone b s) := by
    unfold minuteDone
    split
    exacts [(moved.sequencerMinute _).elapseDuration.windowDone, moved.windowDone.sequencerMinute _]
  rw [oneMinuteEvent_eq]
  exact done.stands (by simp)

theorem Vented.oneHourEvent : Vented (oneHourEvent s) := by
  have completed : Vented (completeBucket (leakHour (s.mapTime fun t => { t with due1h := false }))) :=
    inv.stands (by simp)
  unfold Machine.oneHourEvent
  dsimp only
  split
  exacts [completed, completed.chain _]

theorem Vented.recordSwitch (source start group : Nat) : Vented (recordSwitch source start group s) := by
  unfold Machine.recordSwitch
  (repeat' split)
  exacts [inv.takeSwitchChain _, inv.mapSeq _, inv.mapSeq _]

/-- Every command keeps the invariant. -/
theorem Vented.reply (n : CommandName) (args : List Byte) : Vented (n.reply args s).state := by
  cases n <;> dsimp only [CommandName.reply]
  case restart =>
    have resets := restartStation_resets s
    simp [answer, Vented, Measured, resets]
  case start =>
    unfold startReply
    (repeat' split)
    exacts [inv, inv, inv.startStation]
  case switchBank =>
    unfold switchBankReply
    (repeat' split)
    exacts [inv, inv.mapSeq _, inv, inv, inv.recordSwitch _ _ _, inv.recordSwitch _ _ _, inv]
  case advance =>
    unfold advanceReply
    split
    exacts [inv.endStepChain, inv]
  case pauseProfile =>
    unfold pauseReply
    split
    exacts [inv.changeProfile _, inv]
  case resumeProfile =>
    unfold resumeReply
    split
    exacts [(inv.changeProfile _).chain _, inv]
  case stopProfile => exact inv.stopProfile
  case leaveSafe =>
    unfold leaveSafeReply
    (repeat' split)
    exacts [inv, inv.stands ⟨rfl, rfl⟩, inv.leaveSafeState]
  case clearSupply => exact inv.stands (by simp [answer])
  all_goals exact inv.stands (by simp)

theorem Vented.commandFrame (n : CommandName) (h : Header) (tag : Byte) (args : List Byte) :
    Vented (commandFrame n h tag args (n.reply args) s) :=
  commandFrame_keeps (fun _ _ inv => inv.stands (by simp)) (fun _ inv => inv.stands (by simp))
    (fun _ inv => inv.stands (by simp)) (fun _ _ inv => inv.stands (by simp)) (fun _ inv => inv.reply n args) inv

theorem Vented.claimSent : Vented (claimSent s) := inv.stands (by simp)

theorem Vented.acceptFrame {h : Header} {act : State → State} (acts : ∀ x, Vented x → Vented (act x)) :
    Vented (acceptFrame h act s) :=
  acceptFrame_keeps (fun _ _ inv => inv.stands (by simp)) (fun _ inv => inv.stands (by simp))
    (fun _ _ _ inv => acts _ inv) inv

/-- The own GROUP_SYNC sent reaches the own sequencer (R41). -/
theorem Vented.completeSend (a : Attempt) (q : QFrame) (rest : List QFrame) : Vented (completeSend a q rest s) := by
  have ended : Vented (endAlarm .linkFault (s.mapLink fun l =>
      { l with queue := rest, attempt := none, bus := .busy, dropCount := 0,
               txDropped := l.txDropped && !(a.carriesTxDropped && !a.droppedSince) })) := inv.stands (by simp)
  have reported := ended.ite (p := q.liveClaim = true) fun _ => ended.claimSent
  unfold Machine.completeSend reportSend
  dsimp only
  split
  · exact reported.ite fun _ => reported.groupSyncAccepted _
  all_goals exact reported

end

/-! ### Every command -/

/-- A reset leaves the transducer UNSEEN, and the regulator vents at once (R137, R145). -/
theorem vented_powerOn (p : Straps) (s : State) : Vented (powerOn p s) := by
  rw [powerOn_eq]
  simp [Vented, Measured, powerOnValues]

/-- Every command keeps the invariant. -/
theorem ventInv_exec {c : Instr} {s t : State} (next : exec c s = .next t) (inv : VentInv s) : VentInv t := by
  have leak (x : State) (inv : VentInv x) : VentInv (updateLeak x) := inv
  have effect {f : State → State} (next : perform f s = .next t) (acts : Vented s → Vented (f s)) : VentInv t :=
    perform_keeps next leak (fun up inv _ => acts (inv up)) inv
  have command {n : CommandName} {h : Header} {tag : Byte} {args : List Byte}
      (next : exec (n.row h tag args) s = .next t) : VentInv t :=
    effect ((exec_row n h tag args s).symm.trans next) fun inv => inv.commandFrame n h tag args
  cases c <;> have run := next <;> dsimp only [exec] at run
  case powerOn p =>
    cases run
    exact fun _ => vented_powerOn p s
  case rstnHeldLow =>
    cases run
    exact nofun
  case setupItem => exact command (n := .setupItem) next
  case start => exact command (n := .start) next
  case restart => exact command (n := .restart) next
  case forceOutput => exact command (n := .forceOutput) next
  case writeStep => exact command (n := .writeStep) next
  case readStep => exact command (n := .readStep) next
  case switchBank => exact command (n := .switchBank) next
  case advance => exact command (n := .advance) next
  case pauseProfile => exact command (n := .pauseProfile) next
  case resumeProfile => exact command (n := .resumeProfile) next
  case stopProfile => exact command (n := .stopProfile) next
  case clearSupply => exact command (n := .clearSupply) next
  case setLevel => exact command (n := .setLevel) next
  case armPortion => exact command (n := .armPortion) next
  case readPour => exact command (n := .readPour) next
  case dropPours => exact command (n := .dropPours) next
  case readView => exact command (n := .readView) next
  case quiet => exact command (n := .quiet) next
  case wake => exact command (n := .wake) next
  case clearAlarms => exact command (n := .clearAlarms) next
  case leaveSafe => exact command (n := .leaveSafe) next
  all_goals refine effect run fun inv => ?_
  case event10ms pins => exact Vented.ite (inv.stands (tenMsEvent_sensor pins s)) fun _ => inv
  case event100ms raw first => exact inv.ite fun _ => inv.hundredMsEvent raw first
  case event1min first => exact inv.ite fun _ => inv.oneMinuteEvent first
  case event1h => exact inv.ite fun _ => inv.oneHourEvent
  case durationElapsed => exact inv.elapseDuration
  case pulseTimerEnd => exact inv.ite fun up => inv.pulseEnd (by simp_all [pulseTimeUp])
  case settleEnd => exact inv.ite fun _ => inv.settleEnd
  case extStopActive => exact inv.ite fun _ => inv.stopLineActive
  case event1s => exact inv.ite fun _ => inv.stands (by simp [oneSecondEvent])
  case receiveGroupSync =>
    refine inv.acceptFrame fun x inv => ?_
    (repeat' split)
    exacts [inv.groupSyncAccepted _, inv]
  case receiveBayState | receiveDraw | receiveCoolCap | receivePour | unknownCommand =>
    refine inv.acceptFrame fun x inv => inv.stands ?_
    (repeat' split) <;> simp [queueResult, refuse]
  case auxLineChange line => cases line <;> exact inv.ite fun _ => inv.stands (by simp)
  case handlePress | handleRelease | extStopInactive | heaterOnTimeEnd | glycolOpenTimeEnd | reportTimer
      | idleTimerExpiry | settleWindowEnd | keepTimerPeriod | backoffEnd | recoverEnd | stallTimerStart | stallTimerEnd
      | lowPressureTimerEnd | tailTimerEnd | portionExpiry | busIdle | txAttemptStart | firstStartBit =>
    exact inv.ite fun _ => inv.stands (by simp)
  case flowPulse | frameDiscarded | peerPartExpiry => exact inv.stands (by simp)
  case arbitrationLost | bitError =>
    split
    exacts [inv, inv.ite fun _ => inv.stands (by simp)]
  case frameSent =>
    split
    exacts [inv.completeSend _ _ _, inv]

/-- Settles O14: the command taken keeps the invariant, in which the commands that wait have no part. Of the effects the
sample moves the transducer and the regulator's evaluations its state; a pulse's end alone moves the state unevaluated. -/
theorem sensorVentKept : Obligations.SensorVentKept := by
  intro s t next inv
  unfold step at next
  split at next
  · cases next
    exact inv
  · exact ventInv_exec next inv

end Sys2Proof.Machine
end

section
/-! ## The gas setpoint (R126, R127): O32 -/

namespace Sys2Proof.Machine

/-! ### The solubility (R126) -/

/-- The table's entry of an index, the last one beyond it (R126). -/
def solubilityEntry (i : Nat) : Nat := solubilityTable.getD i 650

/-- The solubility at a temperature within the table's range (R126). -/
def solubilityAt (t : Nat) : Nat :=
  solubilityEntry (t / 64) - (solubilityEntry (t / 64) - solubilityEntry (t / 64 + 1)) * (t % 64) / 64

theorem solubility_eq (a : Int) : solubility a = solubilityAt (clamp 0 512 a).toNat := rfl

/-- Within a stretch of the table the solubility falls by a share of the stretch's difference (R126). -/
theorem solubilityAt_stretch (i : Nat) {frac : Nat} (h : frac < 64) :
    solubilityAt (64 * i + frac) =
      solubilityEntry i - (solubilityEntry i - solubilityEntry (i + 1)) * frac / 64 := by
  have index : (64 * i + frac) / 64 = i := by omega
  have rest : (64 * i + frac) % 64 = frac := by omega
  rw [solubilityAt, index, rest]

/-- No entry is above the one before it (R126). -/
theorem solubilityEntry_antitone : Antitone solubilityEntry := by
  refine antitone_nat_of_succ_le fun i => ?_
  rcases Nat.lt_or_ge i 8 with within | beyond
  · exact (by decide : ∀ i < 8, solubilityEntry (i + 1) ≤ solubilityEntry i) i within
  · have last : ∀ j ≥ 8, solubilityEntry j = 650 := by
      intro j hj
      obtain rfl | past := hj.eq_or_lt
      · rfl
      · exact List.getD_eq_default _ _ past
    rw [last i beyond, last (i + 1) (by omega)]

/-- One sixteenth more never raises the solubility: within a stretch the share grows, and a stretch ends at the next
entry (R126). -/
theorem solubilityAt_antitone : Antitone solubilityAt := by
  refine antitone_nat_of_succ_le fun t => ?_
  obtain ⟨i, frac, within, rfl⟩ : ∃ i frac, frac < 64 ∧ 64 * i + frac = t :=
    ⟨t / 64, t % 64, Nat.mod_lt _ (by decide), Nat.div_add_mod t 64⟩
  have falls : solubilityEntry (i + 1) ≤ solubilityEntry i := solubilityEntry_antitone (Nat.le_succ i)
  rw [solubilityAt_stretch i within]
  by_cases goesOn : frac + 1 < 64
  · rw [Nat.add_assoc, solubilityAt_stretch i goesOn]
    exact Nat.sub_le_sub_left (Nat.div_le_div_right (Nat.mul_le_mul_left _ (Nat.le_succ frac))) _
  · have next : 64 * i + frac + 1 = 64 * (i + 1) + 0 := by omega
    have share : (solubilityEntry i - solubilityEntry (i + 1)) * frac / 64 ≤
        solubilityEntry i - solubilityEntry (i + 1) :=
      Nat.div_le_of_le_mul (by rw [Nat.mul_comm]; exact Nat.mul_le_mul_right _ within.le)
    rw [next, solubilityAt_stretch (i + 1) (by decide), Nat.mul_zero, Nat.zero_div]
    omega

theorem clamp_monotone {lo hi : Int} (h : lo ≤ hi) : Monotone (clamp lo hi) := by
  intro a b le
  rw [clamp_eq_max_min h, clamp_eq_max_min h]
  exact max_le_max le_rfl (min_le_min le_rfl le)

/-- A colder beer takes up no less (R126). -/
theorem solubility_antitone : Antitone solubility := fun _ _ le =>
  solubilityAt_antitone (Int.toNat_le_toNat (clamp_monotone (by decide) le))

/-- Between the table's ends the temperature is taken as it is, beyond them the end entry's (R126). -/
theorem solubility_natCast {t : Nat} (h : t ≤ 512) : solubility t = solubilityAt t := by
  rw [solubility_eq, clamp_of_between (by omega) (by omega), Int.toNat_natCast]

theorem solubility_cold {a : Int} (h : a ≤ 0) : solubility a = 1650 := by
  have clamped : clamp 0 512 a = 0 := by
    rw [clamp_eq_max_min (by decide)]
    omega
  rw [solubility_eq, clamped]
  rfl

theorem solubility_warm {a : Int} (h : 512 ≤ a) : solubility a = 650 := by
  have clamped : clamp 0 512 a = 512 := by
    rw [clamp_eq_max_min (by decide)]
    omega
  rw [solubility_eq, clamped]
  rfl

/-- The end entries bound the solubility (R126). -/
theorem solubility_between (a : Int) : 650 ≤ solubility a ∧ solubility a ≤ 1650 := by
  constructor
  · rw [← solubility_warm (le_max_right a 512)]
    exact solubility_antitone (le_max_left a 512)
  · rw [← solubility_cold (min_le_right a 0)]
    exact solubility_antitone (min_le_left a 0)

/-! ### The absolute pressure (R127) -/

/-- The absolute pressure is the quotient rounded half up (R127). -/
theorem absolutePressure_rounds (v : Nat) {k : Nat} (h : 0 < k) :
    2 * k * absolutePressure v k ≤ 2 * (v * 10000) + k ∧
      2 * (v * 10000) + k < 2 * k * (absolutePressure v k + 1) := by
  have below : k * absolutePressure v k ≤ v * 10000 + k / 2 := Nat.mul_div_le _ _
  have above : v * 10000 + k / 2 < k * (absolutePressure v k + 1) := Nat.lt_mul_div_succ _ h
  rw [Nat.mul_assoc, Nat.mul_assoc]
  omega

/-- Settles O32: the table's stretches and its ends, the rounding, and the clamp of a computation with both inputs. -/
theorem gasSetpoint : Obligations.GasSetpoint := by
  refine ⟨fun i here next entry frac within => ?_, fun a => ⟨solubility_cold, solubility_warm⟩,
    fun a b le => solubility_antitone le, solubility_between, fun v k pos => absolutePressure_rounds v pos,
    fun s v f target filtered range => ?_⟩
  · have entries : i < 8 ∧ solubilityEntry i = here ∧ solubilityEntry (i + 1) = next := by
      simp only [List.mem_cons, List.not_mem_nil, or_false, Prod.mk.injEq] at entry
      rcases entry with e | e | e | e | e | e | e | e <;> obtain ⟨rfl, rfl, rfl⟩ := e <;> decide
    obtain ⟨low, rfl, rfl⟩ := entries
    rw [solubility_natCast (by omega), solubilityAt_stretch i within]
  · intro gauge
    rw [← clamp_eq_max_min (by omega)]
    simp [computeSetpoint, target, filtered, gauge, State.mapGas]

end Sys2Proof.Machine
end

section
/-! ## The 1 h event (R76, R83, R85, R141 to R143): O33 -/

namespace Sys2Proof.Machine

/-! ### The leak check (R142, R143) -/

/-- The conditions are a matter of the station, the current step, the regulation state, the draw, the pour, KEG_PRESENT and
the beer probe (R142). -/
theorem leakConditions_congr {s t : State} (station : t.sup.station = s.sup.station) (seq : t.seq = s.seq)
    (gas : t.gas.state = s.gas.state) (draw : t.draw.state = s.draw.state) (disp : t.disp.state = s.disp.state)
    (sampling : t.sampling = s.sampling) : leakConditions t = leakConditions s := by
  simp only [leakConditions, handedMode, station, seq, gas, draw, disp, sampling]

theorem leakConditions_iff (s : State) :
    leakConditions s = true ↔
      s.sup.station = .run ∧ s.seq.profile ≠ .idle ∧
        (handedMode s = some .carbonate ∨ handedMode s = some .serve) ∧ s.gas.state = .rest ∧
        (s.draw.state = .idle ∨ s.draw.state = .locked) ∧ s.disp.state = .idle ∧ s.sampling.keg.active = true ∧
        s.sampling.beer.state = .good := by
  simp [leakConditions, and_assoc]

/-- The check's own state has no part in its conditions (R142). -/
theorem leakConditions_updateLeak (s : State) : leakConditions (updateLeak s) = leakConditions s := rfl

theorem updateLeak_eq (s : State) :
    updateLeak s = { s with gas := { s.gas with
      leak := if leakConditions s = false then .off else if s.gas.leak = .off then .armed else s.gas.leak } } := by
  unfold updateLeak State.mapGas
  cases leakConditions s
  · rfl
  · cases leak : s.gas.leak <;> simp [leak]

/-- The check is OFF exactly where its conditions do not hold (R142). -/
theorem updateLeak_off_iff (s : State) : (updateLeak s).gas.leak = .off ↔ leakConditions (updateLeak s) = false := by
  rw [leakConditions_updateLeak, updateLeak_eq]
  cases leakConditions s
  · simp
  · by_cases off : s.gas.leak = .off <;> simp [off]

@[simp] theorem updateLeak_ring (s : State) :
    (updateLeak s).gas.buckets = s.gas.buckets ∧ (updateLeak s).gas.openBucket = s.gas.openBucket := ⟨rfl, rfl⟩

/-- Every command but the two of the reset is an effect with the leak check after it (R3, R142). -/
theorem exec_updateLeak {c : Instr} {s : State} (up : s.held = false) (notPower : ∀ p, c ≠ .powerOn p)
    (notHeld : c ≠ .rstnHeldLow) : ∃ x, exec c s = .next (updateLeak x) := by
  cases c with
  | powerOn p => exact absurd rfl (notPower p)
  | rstnHeldLow => exact absurd rfl notHeld
  | _ =>
    dsimp only [exec]
    exact ⟨_, perform_running _ up⟩

/-! ### The leak window at the hour (R142, R143) -/

/-- A window begins at the present pressure and temperature (R142). -/
def leakWindowBegun (p f : Int) (s : State) : State := s.mapGas fun g => { g with leak := .inWindow p f }

/-- LEAK is raised, and locks the coordinator (R143, R160). -/
def leakRaised (s : State) : State := updateLockouts (raiseAlarm .leak s)

section
variable {s : State} {p f : Int} (pressure : heldPressure s.sampling.transducer = some p)
  (filtered : s.sampling.beer.filtered = some f)
include pressure filtered

theorem leakHour_armed (armed : s.gas.leak = .armed) : leakHour s = leakWindowBegun p f s := by
  simp [leakHour, armed, pressure, filtered, leakWindowBegun]

theorem leakHour_inWindow {p0 t0 : Int} (window : s.gas.leak = .inWindow p0 t0) :
    leakHour s =
      if s.setup.leakLimit < p0 - p ∧ hasAlarm s.sup.latched .leak = false then leakRaised (leakWindowBegun p f s)
      else leakWindowBegun p f s := by
  simp [leakHour, window, pressure, filtered, leakWindowBegun, leakRaised]

end

/-- Of the gas regulator the hour's test moves the leak check alone, and it moves supervisor, coordinator and queue by
LEAK's raising alone (R142, R143). -/
theorem leakHour_cases (s : State) :
    ∃ leak, leakHour s = s.mapGas (fun g => { g with leak := leak }) ∨
      leakHour s = leakRaised (s.mapGas fun g => { g with leak := leak }) := by
  unfold leakHour
  split
  · exact ⟨_, .inl rfl⟩
  · dsimp only
    split
    exacts [⟨_, .inr rfl⟩, ⟨_, .inl rfl⟩]
  · exact ⟨s.gas.leak, .inl rfl⟩

theorem leakHour_gas (s : State) : ∃ leak, (leakHour s).gas = { s.gas with leak := leak } := by
  obtain ⟨leak, e | e⟩ := leakHour_cases s
  · exact ⟨leak, by rw [e]; rfl⟩
  · exact ⟨leak, by simp [e, leakRaised]⟩

/-- The hour's test queues one alarm at most. -/
theorem QueuesFew.leakHour {l : Link} {n : Nat} {s : State} (h : QueuesFew l n s) :
    QueuesFew l (n + 1) (leakHour s) := by
  obtain ⟨leak, e | e⟩ := leakHour_cases s
  · rw [e]
    exact h.more
  · have begun : QueuesFew l n (s.mapGas fun g => { g with leak := leak }) := h
    rw [e]
    exact (begun.raiseAlarm _ _).updateLockouts

theorem leakRaised_locked (s : State) (fresh : hasAlarm s.sup.active .leak = false) :
    hasAlarm (leakRaised s).sup.latched .leak = true ∧ hasAlarm (leakRaised s).sup.active .leak = true ∧
      (leakRaised s).draw.causes.leak = true ∧ (leakRaised s).draw.state = .locked := by
  have latched : hasAlarm (raiseAlarm .leak s).sup.latched .leak = true := by simp [fresh]
  have cause : (formCauses (raiseAlarm .leak s)).leak = true := latched
  refine ⟨by simpa [leakRaised] using latched, by simp [leakRaised, fresh], by simpa [leakRaised] using cause, ?_⟩
  exact updateLockouts_locked (by simp [Causes.any, cause])

/-! ### The event's states -/

/-- The event taken, with the hour's leak test (R142, R143). -/
def hourTested (s : State) : State := leakHour (s.mapTime fun t => { t with due1h := false })

/-- And the open bucket completed, unless it was begun on this event (R141). -/
def hourCompleted (s : State) : State := completeBucket (hourTested s)

theorem completeBucket_gas (s : State) :
    (completeBucket s).gas =
      if s.gas.bucketBegunNow then s.gas
      else { s.gas with buckets := (s.gas.openBucket :: s.gas.buckets).take 8, openBucket := 0 } := rfl

/-- What the event makes of the gas regulator before the sequencer's test. -/
theorem hourCompleted_gas (s : State) :
    (hourCompleted s).gas =
      { s.gas with
        leak := (hourTested s).gas.leak,
        buckets := if s.gas.bucketBegunNow then s.gas.buckets else (s.gas.openBucket :: s.gas.buckets).take 8,
        openBucket := if s.gas.bucketBegunNow then s.gas.openBucket else 0 } := by
  obtain ⟨leak, gas⟩ := leakHour_gas (s.mapTime fun t => { t with due1h := false })
  rw [hourCompleted, completeBucket_gas, hourTested, gas]
  cases begun : s.gas.bucketBegunNow <;> simp [begun]

theorem hourCompleted_frame (s : State) :
    (hourCompleted s).seq = s.seq ∧ (hourCompleted s).time = { s.time with due1h := false } ∧
      (hourCompleted s).disp = s.disp ∧ (hourCompleted s).temp = s.temp ∧ (hourCompleted s).cool = s.cool ∧
      (hourCompleted s).sampling = s.sampling ∧ (hourCompleted s).view = s.view ∧ (hourCompleted s).setup = s.setup ∧
      (hourCompleted s).drivers = s.drivers ∧ (hourCompleted s).sup.station = s.sup.station ∧
      (hourCompleted s).link.silent = s.link.silent := by
  simp [hourCompleted, hourTested]

theorem oneHourEvent_eq (s : State) :
    oneHourEvent s = if s.gas.bucketBegunNow then hourCompleted s else chain chainLimit (hourCompleted s) := by
  obtain ⟨leak, gas⟩ := leakHour_gas (s.mapTime fun t => { t with due1h := false })
  have begun : (hourTested s).gas.bucketBegunNow = s.gas.bucketBegunNow := by rw [hourTested, gas]; rfl
  rw [← begun]
  rfl

theorem exec_event1h_due {s : State} (up : s.held = false) (due : s.time.due1h = true) :
    exec .event1h s = .next (updateLeak (oneHourEvent s)) := by
  rw [exec_event1h, execEvent1h, perform_running _ up, if_pos due]

/-! ### The sequencer's test of the completed bucket (R85) -/

/-- The part with its open bucket joined to the complete ones, as R85 tests it. -/
def bucketJoined (s : State) : State :=
  { s with gas := { s.gas with buckets := (s.gas.openBucket :: s.gas.buckets).take 8 } }

/-- An end is met by the station state and the complete buckets (R85). -/
theorem endMet_congr (r : StepRecord) {s t : State} (station : t.sup.station = s.sup.station)
    (buckets : t.gas.buckets = s.gas.buckets) : EndMet r t ↔ EndMet r s := by
  unfold EndMet
  rw [station, buckets]

theorem hourCompleted_endMet (r : StepRecord) {s : State} (begun : s.gas.bucketBegunNow = false) :
    EndMet r (hourCompleted s) ↔ EndMet r (bucketJoined s) := by
  have gas := hourCompleted_gas s
  exact endMet_congr r (by simp [hourCompleted_frame, bucketJoined]) (by simp [gas, begun, bucketJoined])

/-- Where the completed bucket ends no step, the event is done with it (R85). -/
theorem oneHourEvent_of_unmet {s : State}
    (unmet : s.gas.bucketBegunNow = false → s.seq.profile = .running → s.seq.phase = some .waiting →
      ∀ r, s.seq.current = some r → ¬EndMet r (bucketJoined s)) :
    oneHourEvent s = hourCompleted s := by
  rw [oneHourEvent_eq]
  split
  · rfl
  · next begun =>
    refine chain_of_unmet _ (Bool.eq_false_iff.2 fun met => ?_)
    have begun' : s.gas.bucketBegunNow = false := Bool.eq_false_iff.2 begun
    obtain ⟨seq, -⟩ := hourCompleted_frame s
    cases current : s.seq.current with
    | none => simp [waitingEndMet, seq, current] at met
    | some r =>
      obtain ⟨running, waiting, ends⟩ := (waitingEndMet_iff (s := hourCompleted s) (by rw [seq, current])).1 met
      rw [seq] at running waiting
      exact unmet begun' running waiting r current ((hourCompleted_endMet r begun').1 ends)

/-- Nothing that a step's end reads has moved before it. -/
theorem prelude_hourCompleted (s : State) : Prelude s (hourCompleted s) := by
  have gas := hourCompleted_gas s
  obtain ⟨seq, -, disp, temp, cool, sampling, view, setup, -, station, silent⟩ := hourCompleted_frame s
  have taken : QueuesFew s.link 0 (s.mapTime fun t => { t with due1h := false }) := .refl s
  exact {
    seq, temp, station, silent
    blocks := ⟨cool, view, setup, sampling, disp⟩
    gas := by simp [SetpointStands, gas]
    few := taken.leakHour }

/-- A bucket that meets the end of the waiting step ends it, and the chain of ends begins there (R83, R85). -/
theorem oneHourEvent_of_met {r : StepRecord} {s : State} (begun : s.gas.bucketBegunNow = false)
    (running : s.seq.profile = .running) (waiting : s.seq.phase = some .waiting) (current : s.seq.current = some r)
    (met : EndMet r (bucketJoined s)) :
    oneHourEvent s = chain 24 (endStep (hourCompleted s)) := by
  obtain ⟨seq, -⟩ := hourCompleted_frame s
  rw [oneHourEvent_eq, if_neg (by simp [begun])]
  refine chain_of_met 24 ((waitingEndMet_iff (by rw [seq, current])).2 ⟨by rw [seq, running], by rw [seq, waiting], ?_⟩)
  exact (hourCompleted_endMet r begun).2 met

/-! ### The leak check after the event -/

section
variable {s : State} {p f : Int}

/-- While its conditions stand a window begun at the hour goes on (R142). -/
theorem hourCompleted_window (begun : (hourTested s).gas.leak = .inWindow p f)
    (stands : leakConditions (hourCompleted s) = true) :
    (updateLeak (hourCompleted s)).gas.leak = .inWindow p f := by
  have gas := hourCompleted_gas s
  have window : (hourCompleted s).gas.leak = .inWindow p f := by rw [gas, begun]
  rw [updateLeak_goesOn stands (by simp [window]), window]

/-- Without a raising supervisor, coordinator and queue stand. -/
theorem hourCompleted_unraised
    (tested : hourTested s = leakWindowBegun p f (s.mapTime fun t => { t with due1h := false })) :
    (updateLeak (hourCompleted s)).sup = s.sup ∧ (updateLeak (hourCompleted s)).draw = s.draw ∧
      (updateLeak (hourCompleted s)).link = s.link := by
  simp [hourCompleted, tested, leakWindowBegun]

/-- A drop above the limit raises LEAK, which locks the coordinator (R143). -/
theorem hourCompleted_raised
    (tested : hourTested s = leakRaised (leakWindowBegun p f (s.mapTime fun t => { t with due1h := false })))
    (fresh : hasAlarm s.sup.active .leak = false) :
    let t := updateLeak (hourCompleted s)
    hasAlarm t.sup.latched .leak = true ∧ hasAlarm t.sup.active .leak = true ∧ t.draw.causes.leak = true ∧
      t.draw.state = .locked ∧ Raised .leak s t := by
  intro t
  obtain ⟨latched, active, cause, locked⟩ :=
    leakRaised_locked (leakWindowBegun p f (s.mapTime fun t => { t with due1h := false })) fresh
  have sup : t.sup = (hourTested s).sup := by simp [t, hourCompleted]
  have draw : t.draw = (hourTested s).draw := by simp [t, hourCompleted]
  rw [← tested] at latched active cause locked
  have kept : FramesKept (raiseAlarm .leak (leakWindowBegun p f (s.mapTime fun t => { t with due1h := false }))) t :=
    (tested ▸ (FramesKept.refl _).updateLockouts : FramesKept _ (hourTested s))
  rw [sup, draw]
  exact ⟨latched, active, cause, locked, .of_raise
    (u := leakWindowBegun p f (s.mapTime fun t => { t with due1h := false })) rfl rfl (Nat.le_add_right _ _)
    (sup ▸ active) (fun _ => sup ▸ latched) kept⟩

end

section
variable {s : State} {p f : Int} (pressure : heldPressure s.sampling.transducer = some p)
  (filtered : s.sampling.beer.filtered = some f)
include pressure filtered

/-- An ARMED check begins a window, and nothing else (R142). -/
theorem hourCompleted_of_armed (armed : s.gas.leak = .armed) :
    let t := updateLeak (hourCompleted s)
    t.sup = s.sup ∧ t.draw = s.draw ∧ t.link = s.link ∧ (leakConditions s = true → t.gas.leak = .inWindow p f) := by
  intro t
  have tested : hourTested s = leakWindowBegun p f (s.mapTime fun t => { t with due1h := false }) :=
    leakHour_armed pressure filtered armed
  obtain ⟨sup, draw, link⟩ := hourCompleted_unraised tested
  have gas := hourCompleted_gas s
  have frame := hourCompleted_frame s
  refine ⟨sup, draw, link, fun stands => hourCompleted_window (congrArg (·.gas.leak) tested) ?_⟩
  rw [← stands]
  exact leakConditions_congr (congrArg _ sup) (by simp [frame]) (by simp [gas]) (congrArg _ draw) (by simp [frame])
    (by simp [frame])

/-- A window's drop is tested against the leak limit, and a new window begins (R142, R143). -/
theorem hourCompleted_of_inWindow {p0 t0 : Int} (window : s.gas.leak = .inWindow p0 t0) :
    let t := updateLeak (hourCompleted s)
    (s.setup.leakLimit < p0 - p → hasAlarm s.sup.latched .leak = false → hasAlarm s.sup.active .leak = false →
      hasAlarm t.sup.latched .leak = true ∧ hasAlarm t.sup.active .leak = true ∧ t.draw.causes.leak = true ∧
        t.draw.state = .locked ∧ Raised .leak s t) ∧
      (p0 - p ≤ s.setup.leakLimit ∨ hasAlarm s.sup.latched .leak = true →
        t.sup = s.sup ∧ t.draw = s.draw ∧ t.link = s.link) ∧
      (leakConditions t = true → t.gas.leak = .inWindow p f) := by
  intro t
  have tested := leakHour_inWindow (s := s.mapTime fun t => { t with due1h := false }) pressure filtered window
  refine ⟨fun drops fresh inactive => ?_, fun calm => ?_, hourCompleted_window ?_⟩
  · exact hourCompleted_raised (tested.trans (if_pos ⟨drops, fresh⟩)) inactive
  · refine hourCompleted_unraised (tested.trans (if_neg ?_))
    rintro ⟨drops, fresh⟩
    rcases calm with small | latched
    · exact not_lt.2 small drops
    · exact nomatch fresh.symm.trans latched
  · rw [hourTested, tested]
    split <;> simp [leakRaised, leakWindowBegun]

end

/-! ### O33 -/

end Sys2Proof.Machine

namespace Sys2Proof
open Sys2Proof.Machine

/-- Settles O33: the event without a step's end by the leak check's state, the one with it by the chain of ends, and the
leak check's own conditions. -/
theorem oneHourEvent : Obligations.OneHourEvent := by
  refine ⟨?_, ?_, fun s => ⟨leakConditions_iff s, updateLeak_eq s⟩, fun c s up notPower notHeld => ?_⟩
  · intro s up due buckets unmet
    have gas := hourCompleted_gas s
    have frame := hourCompleted_frame s
    rw [exec_event1h_due up due, oneHourEvent_of_unmet unmet]
    refine ⟨_, rfl, by simp [gas, buckets], by simp [gas],
      fun _ _ armed pressure filtered => hourCompleted_of_armed pressure filtered armed,
      fun _ _ _ _ window pressure filtered => hourCompleted_of_inWindow pressure filtered window, by simp [gas],
      by simp [gas], by simp [frame]⟩
  · intro r s up due begun running waiting current buckets other met
    have gas := hourCompleted_gas s
    have frame := hourCompleted_frame s
    have prelude := prelude_hourCompleted s
    rw [exec_event1h_due up due, oneHourEvent_of_met begun running waiting current met]
    refine ⟨_, rfl, stepEnded_chain 24 prelude (by simp [running]) (postlude_updateLeak _), by simp [frame],
      by simp [frame], by simp [frame], by simp [frame], by simp [frame], ?_, fun unswitched last => ?_⟩
    · have run : s.sup.station = .run := by
        rcases met with time | ⟨hours, threshold, -, run, -⟩
        exacts [absurd time other, run]
      simp [frame, run]
    · have ended : endStep (hourCompleted s) = changeProfile .ended (hourCompleted s) :=
        endStep_last (by rwa [prelude.seq]) (by rwa [prelude.seq])
      rw [ended, chain_of_not_running _ (by simp [changeProfile])]
      simp [changeProfile, evaluateGas_buckets, gas, begun, buckets]
  · obtain ⟨x, row⟩ := exec_updateLeak up notPower notHeld
    exact ⟨_, row, updateLeak_off_iff x⟩

end Sys2Proof
end

section
/-! ## The draw coordinator's form and its need (R146, R149 to R157): O11, O12

Draw, regulation state, INLET's drive state and station state are moved by few operations. `KeptByDraw` asks of a property
of these four that each of those operations keeps it, and `KeptByDraw.step` follows them through every command, once for
both statements. -/

namespace Sys2Proof.Machine

/-! ### What the operations of the coordinator leave of the draw's form (R146, R149 to R157) -/

/-- Outside LOCKED the need is there exactly outside IDLE (R146). -/
theorem DrawOk.need_iff {d : Draw} (ok : DrawOk d) (unlocked : d.state ≠ .locked) :
    d.need = true ↔ d.state ≠ .idle := by
  obtain ⟨idle, busy, -⟩ := ok
  exact ⟨fun need stays => by simp [idle stays] at need, fun away => busy away unlocked⟩

/-- A state without timers of its own is entered with every timer stopped (R149 to R155). -/
theorem drawOk_enter {d : Draw} {st : DrawState} (untimed : st ≠ .drawing ∧ st ≠ .backoff ∧ st ≠ .recover)
    (need : st ≠ .locked → (d.need = true ↔ st ≠ .idle)) : DrawOk (d.enter st) := by
  obtain ⟨drawing, backoff, recover⟩ := untimed
  refine ⟨fun idle => ?_, fun away unlocked => (need unlocked).2 away, ?_⟩
  · replace idle : st = .idle := idle
    subst idle
    simpa [Draw.enter] using need
  · simp [Draw.enter, drawing, backoff, recover]

/-- BACKOFF and RECOVER are entered with their timer (R151, R155). -/
theorem drawOk_wait {d : Draw} {st : DrawState} (n : Nat) (wait : st = .backoff ∨ st = .recover) (need : d.need = true) :
    DrawOk { d.enter st with backoffTimer := some n } := by
  obtain rfl | rfl := wait <;> simp [DrawOk, Draw.enter, need]

section
variable {s : State}

theorem makeClaim_drawOk (need : s.draw.need = true) : DrawOk (makeClaim s).draw := by
  unfold makeClaim
  dsimp only
  split
  · exact drawOk_enter (d := s.draw) (st := .claiming) (by simp) (by simp [need])
  · exact drawOk_enter (by simp) (by simp [Draw.enter, need])

theorem DrawOk.examine (ok : DrawOk s.draw) : DrawOk (examine s).draw := by
  unfold Machine.examine
  dsimp only
  split
  · next waiting =>
    split
    · exact makeClaim_drawOk ((ok.need_iff (by simp [waiting])).2 (by simp [waiting]))
    · exact ok
  · exact ok

theorem enterWaiting_drawOk (need : s.draw.need = true) : DrawOk (enterWaiting s).draw :=
  DrawOk.examine (s := s.mapDraw (·.enter .waiting)) (drawOk_enter (by simp) (by simp [need]))

theorem DrawOk.needArrives (ok : DrawOk s.draw) : DrawOk (needArrives s).draw := by
  unfold Machine.needArrives
  dsimp only
  split
  · exact ok
  · next none =>
    split
    · exact enterWaiting_drawOk rfl
    · next away =>
      have locked : s.draw.state = .locked :=
        by_contra fun unlocked => none ((ok.need_iff unlocked).2 away)
      obtain ⟨-, -, timers⟩ := ok
      exact ⟨fun idle => absurd idle away, fun _ unlocked => absurd locked unlocked, timers⟩

theorem DrawOk.needEnds (ok : DrawOk s.draw) : DrawOk (needEnds s).draw := by
  have idle : DrawOk (s.draw.withoutNeed .idle) := drawOk_enter (by simp) (by simp)
  cases need : s.draw.need with
  | false => rwa [needEnds_of_none need]
  | true =>
    cases state : s.draw.state with
    | claiming => rw [needEnds_releases need (.inl state)]; simpa using idle
    | drawing => rw [needEnds_releases need (.inr state)]; simpa using idle
    | waiting => rw [needEnds_waits need (.inl state)]; exact idle
    | backoff => rw [needEnds_waits need (.inr (.inl state))]; exact idle
    | recover => rw [needEnds_waits need (.inr (.inr state))]; exact idle
    | idle => exact absurd need (by simp [ok.1 state])
    | locked =>
      rw [needEnds_stays need (.inr state)]
      obtain ⟨-, -, timers⟩ := ok
      exact ⟨fun _ => rfl, fun _ unlocked => absurd state unlocked, timers⟩

theorem releaseToRecover_drawOk (need : s.draw.need = true) : DrawOk (releaseToRecover s).draw := by
  simpa [releaseToRecover, queueDraw] using drawOk_wait (ms 1000) (.inr rfl) need

theorem contendAgain_drawOk : DrawOk (contendAgain s).draw := by
  unfold contendAgain
  split
  · next need => exact enterWaiting_drawOk need
  · next none => exact drawOk_enter (by simp) (by simpa using none)

theorem DrawOk.formUrgency (ok : DrawOk s.draw) : DrawOk (formUrgency s).draw := by
  have fresh : DrawOk (s.mapDraw fun d => { d with urgency := presentUrgency s }).draw := ok
  unfold Machine.formUrgency
  dsimp only
  split
  · exact ok
  · split
    · exact fresh.examine
    · simpa [queueDraw] using fresh
    · split
      · unfold shortenBackoff
        dsimp only
        split
        · exact contendAgain_drawOk
        · simpa [DrawOk] using ok
      · exact fresh
    all_goals exact fresh

theorem DrawOk.updateLockouts (ok : DrawOk s.draw) : DrawOk (updateLockouts s).draw := by
  have locked (d : Draw) : DrawOk (d.enter .locked) := drawOk_enter (by simp) (by simp)
  unfold Machine.updateLockouts enterLocked
  dsimp only
  split
  · split
    · exact ok
    · split
      all_goals simpa [queueDraw] using locked _
  · split
    exacts [contendAgain_drawOk, ok]

theorem DrawOk.supplyTest (ok : DrawOk s.draw) : DrawOk (supplyTest s).draw := by
  unfold Machine.supplyTest
  dsimp only
  split
  · next p drawing pressure =>
    have need := (ok.need_iff (by simp [drawing])).2 (by simp [drawing])
    have recorded (weak : Bool) :
        DrawOk { s.draw with rise := (p :: s.draw.rise).take 21, supplyWeak := weak } := by
      obtain ⟨idle, busy, settle, keep, backoff, count, -⟩ := ok
      exact ⟨idle, busy, settle, keep, backoff, count, by simp⟩
    split
    · exact releaseToRecover_drawOk (by simpa using need)
    · split
      · simpa using recorded false
      · exact recorded s.draw.supplyWeak
  · exact ok

theorem decideClaim_drawOk (ok : DrawOk s.draw) (claiming : s.draw.state = .claiming) :
    DrawOk (decideClaim s).draw := by
  have need := (ok.need_iff (by simp [claiming])).2 (by simp [claiming])
  unfold decideClaim
  split
  · cases h : heldPressure s.sampling.transducer <;> simp [keepClaim, queueDraw, DrawOk, Draw.enter, need, h]
  · simpa [giveUp, queueDraw] using drawOk_wait _ (.inl rfl) need

theorem keepPeriod_drawOk (ok : DrawOk s.draw) (drawing : s.draw.state = .drawing) :
    DrawOk (keepPeriod s).draw := by
  unfold keepPeriod
  split
  · obtain ⟨idle, busy, settle, keep, backoff, -, rise⟩ := ok
    have counted : DrawOk { s.draw with keepCount := s.draw.keepCount + 1, keepTimer := some (ms 1000) } :=
      ⟨idle, busy, settle, by simpa using drawing, backoff, by show _ + 1 ≤ 3; omega, rise⟩
    simpa [queueDraw] using counted
  · exact releaseToRecover_drawOk ((ok.need_iff (by simp [drawing])).2 (by simp [drawing]))

theorem DrawOk.claimSent (ok : DrawOk s.draw) : DrawOk (claimSent s).draw := by
  unfold Machine.claimSent
  split
  · next live =>
    obtain ⟨idle, busy, -, timers⟩ := ok
    exact ⟨idle, busy, fun _ => by simp_all, timers⟩
  · exact ok

theorem DrawOk.claimDropped (ok : DrawOk s.draw) : DrawOk (claimDropped s).draw := by
  unfold Machine.claimDropped
  split
  · next live =>
    have claiming : s.draw.state = .claiming := by simp_all
    exact enterWaiting_drawOk ((ok.need_iff (by simp [claiming])).2 (by simp [claiming]))
  · exact ok

theorem DrawOk.drawHeard (ok : DrawOk s.draw) (kind : DrawKind) (u : Urgency) : DrawOk (drawHeard kind u s).draw := by
  unfold Machine.drawHeard
  split
  · next yields =>
    have drawing : s.draw.state = .drawing := by
      have := yields.2.2
      simp_all [mustYield]
    exact releaseToRecover_drawOk ((ok.need_iff (by simp [drawing])).2 (by simp [drawing]))
  · exact ok.examine

theorem DrawOk.countDurations (ok : DrawOk s.draw) : DrawOk (countDurations s).draw := by
  simpa [DrawOk, Machine.countDurations, tick] using ok

theorem DrawOk.evaluateGas (ok : DrawOk s.draw) : DrawOk (evaluateGas s).draw := by
  have dropped (x : State) (ok : DrawOk x.draw) : DrawOk (dropForcedInlet x).draw := by
    unfold dropForcedInlet
    split
    exacts [DrawOk.needEnds (s := x.mapDrivers _) ok, ok]
  have left (old : GasState) (x : State) (ok : DrawOk x.draw) : DrawOk (leaveGas old x).draw := by
    unfold leaveGas
    split <;> simp [ok, ok.needEnds]
  have entered (new : GasState) (x : State) (ok : DrawOk x.draw) : DrawOk (enterGas new x).draw := by
    unfold enterGas
    split <;> simp [ok, ok.needArrives, dropped]
  unfold Machine.evaluateGas moveGas
  split
  exacts [ok, entered _ _ (left _ _ ok)]

end
end Sys2Proof.Machine
end

section
/-! ### How a property of draw, need and regulation state is kept by every command -/

namespace Sys2Proof.Machine

/-- Draw, regulation state, INLET's drive state and station state are in `t` what they are in `s`. -/
@[simp] def DrawStands (s t : State) : Prop :=
  t.draw = s.draw ∧ t.gas.state = s.gas.state ∧ t.drivers.inlet = s.drivers.inlet ∧ t.sup.station = s.sup.station

/-- A property that hangs on what `DrawStands` names, holds at a reset, and is kept by each operation that touches one of
the four. A field that asks for a state is of an operation that comes in that state alone. -/
structure KeptByDraw (P : State → Prop) : Prop where
  stands {s t : State} : DrawStands s t → P s → P t
  fresh {s : State} {n : Nat} : s.draw = { limit := n } → s.gas.state = .rest → s.drivers.inlet = .function →
    s.sup.station = .setup → P s
  countDurations {s : State} : P s → P (countDurations s)
  clearSupply {s : State} : P s → P (clearSupply s)
  examine {s : State} : P s → P (examine s)
  formUrgency {s : State} : P s → P (formUrgency s)
  updateLockouts {s : State} : P s → P (updateLockouts s)
  supplyTest {s : State} : P s → P (supplyTest s)
  claimSent {s : State} : P s → P (claimSent s)
  claimDropped {s : State} : P s → P (claimDropped s)
  drawHeard {s : State} (kind : DrawKind) (u : Urgency) : P s → P (drawHeard kind u s)
  decideClaim {s : State} : s.draw.state = .claiming → P s → P (decideClaim s)
  keepPeriod {s : State} : s.draw.state = .drawing → P s → P (keepPeriod s)
  contendAgain {s : State} : s.draw.state = .backoff ∨ s.draw.state = .recover → P s → P (contendAgain s)
  evaluateGas {s : State} : P s → P (evaluateGas s)
  pulseOver {s : State} {new : GasState} : s.gas.state = .pulse ∨ s.gas.state = .settle →
    new = .settle ∨ new = .rest → P s → P (s.mapGas (·.moveTo new))
  forceDrive {s : State} (o : Output) (on : Bool) : s.sup.station = .setup → P s → P (forceDrive o on s)
  startReady {s : State} : s.sup.station = .setup → P s → P (startReady s)
  enterSafe {s : State} : s.sup.station = .run → P s → P (enterSafe s)
  safeLeft {s : State} : s.sup.station = .safe → P s →
    P (s.mapSup fun p => { p with station := .run, idleCount := 0 })

namespace KeptByDraw

section
variable {P : State → Prop} (kept : KeptByDraw P) {s : State} (inv : P s)
include kept inv

omit kept in
/-- A row that acts only on its occasion keeps the property where its action there does. -/
theorem onOccasion {t : State} {p : Prop} [Decidable p] (acts : p → P t) : P (if p then t else s) := by
  split
  · next occasion => exact acts occasion
  · exact inv

theorem stand {t : State} (same : DrawStands s t) : P t := kept.stands same inv

/-! #### Pours -/

theorem requestPour : P (requestPour s) := by
  unfold Machine.requestPour
  split
  · exact kept.stands (by simp) inv
  · unfold grantPour pourStateChanged
    exact kept.formUrgency (kept.stands (by simp) inv)

theorem endFlowing (r : EndReason) : P (endFlowing r s) := by
  unfold Machine.endFlowing pourStateChanged
  split
  · exact kept.formUrgency (kept.stands (by simp) inv)
  · exact inv

theorem takeDeferred : P (takeDeferred s) := by
  have cleared : P (s.mapDisp fun d => { d with deferred := false }) := kept.stands (by simp) inv
  unfold Machine.takeDeferred
  dsimp only
  (repeat' split)
  exacts [kept.requestPour cleared, cleared, inv]

theorem completePour : P (completePour s) := by
  unfold Machine.completePour pourStateChanged
  split
  · exact inv
  · exact kept.takeDeferred (kept.formUrgency (kept.stands (by simp) inv))

theorem flowPulse : P (flowPulse s) := by
  have counted {t : State} (same : DrawStands s t) : P t := kept.stands same inv
  unfold Machine.flowPulse
  dsimp only
  split
  · exact inv
  · exact counted (by simp)
  · have pulsed := counted (t := s.mapDisp fun d =>
      { d with pulses := min 65535 (d.pulses + 1), stallTimer := begunAgain (ms 2000) d.stallTimer }) (by simp)
    exact onOccasion (onOccasion pulsed fun _ => kept.endFlowing pulsed _) fun _ => kept.endFlowing pulsed _

theorem stallEnd : P (stallEnd s) := by
  unfold Machine.stallEnd
  split
  exacts [kept.endFlowing inv _, kept.endFlowing inv _]

/-! #### Samples and lines -/

theorem beerSample (raw : Nat) : P (beerSample raw s) := by
  have still {t : State} (same : DrawStands s t) : P t := kept.stands same inv
  unfold Machine.beerSample
  dsimp only
  split
  · refine kept.endFlowing (still ?_) _
    split <;> simp
  · refine still ?_
    (repeat' split) <;> simp

theorem pressureSample (raw : Nat) : P (pressureSample raw s) := by
  unfold Machine.pressureSample
  dsimp only
  (repeat' split)
  · exact kept.endFlowing (kept.stands (by simp) inv) _
  all_goals exact kept.stands (by simp) inv

theorem tenMsEvent (pins : SwitchPins) : P (tenMsEvent pins s) := by
  unfold Machine.tenMsEvent
  dsimp only
  refine kept.countDurations ?_
  split
  · exact kept.stands (by simp [laterReading]) inv
  · rw [firstReading_eq]
    exact kept.updateLockouts (kept.stands (by simp) inv)

theorem pressHandle : P (pressHandle s) := by
  have pressed : P (activityEvent .handle (s.mapSampling fun u => { u with handle := u.handle.deliver })) :=
    kept.stands (by simp) inv
  unfold Machine.pressHandle
  dsimp only
  split
  exacts [kept.requestPour pressed, kept.stands (by simp) pressed, pressed]

theorem changeKeg : P (changeKeg s) := by
  have taken : P (kegTaken s) := by
    unfold kegTaken
    split
    · exact kept.stands (by simp) inv
    · exact kept.endFlowing (kept.stands (by simp) inv) _
  rw [changeKeg_eq]
  exact kept.stands (by simp) (kept.updateLockouts taken)

theorem changeLid : P (changeLid s) := by
  refine kept.stands ?_ inv
  unfold Machine.changeLid
  dsimp only
  split <;> simp

theorem stopLineActive : P (stopLineActive s) := by
  have raised : P (stopRaised s) := kept.stands (by simp [stopRaised_frame]) inv
  have entered : P (stopEntered s) := by
    unfold stopEntered
    exact onOccasion raised fun run => kept.enterSafe (by simpa using run) raised
  rw [stopLineActive_eq]
  exact kept.stands (by simp) entered

/-! #### Steps -/

theorem settleEnd (settle : s.gas.state = .settle) : P (settleEnd s) :=
  kept.evaluateGas (kept.pulseOver (.inr settle) (.inr rfl) inv)

theorem takeUpMode (m : Option GasMode) : P (takeUpMode m s) :=
  kept.evaluateGas (onOccasion inv fun change => kept.pulseOver change.1 (.inr rfl) inv)

theorem beginStep (m : Option GasMode) (i : Nat) (r : StepRecord) : P (beginStep m i r s) := by
  have placed : P (stepPlaced i r s) := by
    refine kept.stands ?_ inv
    unfold stepPlaced
    dsimp only
    (repeat' split) <;> simp
  have computed : P (computeSetpoint (clearRing (stepPlaced i r s))) :=
    kept.stands (by simp [clearRing]) placed
  have set : P (stepSet m i r s) :=
    kept.formUrgency (kept.updateLockouts (onOccasion computed fun _ => kept.endFlowing computed _))
  rw [beginStep_eq]
  refine kept.stands ?_ (kept.takeUpMode set m)
  unfold stepTold
  split <;> simp

theorem takeSwitch (n : Nat) : P (takeSwitch n s) := by
  unfold Machine.takeSwitch
  dsimp only
  split
  · exact inv
  · exact kept.beginStep (kept.stands (by simp) inv) _ _ _

theorem changeProfile (p : ProfileState) : P (changeProfile p s) := by
  have changed : P (s.mapSeq fun q => { q with profile := p }) := kept.stands (by simp) inv
  exact kept.stands (by simp [Machine.changeProfile]) (kept.evaluateGas changed)

theorem endStep : P (endStep s) := by
  unfold Machine.endStep
  split
  · exact kept.takeSwitch inv _
  · split
    exacts [kept.beginStep inv _ _ _, kept.changeProfile inv _]

omit inv in
theorem chain (n : Nat) {s : State} (inv : P s) : P (chain n s) := by
  induction n generalizing s with
  | zero => exact inv
  | succ n ih => exact onOccasion inv fun _ => ih (kept.endStep inv)

theorem mapSeq (f : Sequencer → Sequencer) : P (s.mapSeq f) := kept.stands (by simp) inv

theorem takeSwitchChain (n : Nat) : P (takeSwitchChain n s) := kept.chain _ (kept.takeSwitch inv n)

theorem endStepChain : P (endStepChain s) := kept.chain _ (kept.endStep inv)

theorem elapseDuration : P (elapseDuration s) := onOccasion inv fun _ => kept.chain _ (kept.mapSeq inv _)

theorem sequencerMinute (b : Bool) : P (sequencerMinute b s) := by
  unfold Machine.sequencerMinute targetReached
  (repeat' split)
  exacts [kept.chain _ (kept.mapSeq inv _), inv, kept.stands (by simp) inv]

theorem groupSyncAccepted (g : Nat) : P (groupSyncAccepted g s) := by
  have synced : P (groupSyncAtSequencer g s) := by
    unfold groupSyncAtSequencer
    (repeat' split)
    exacts [kept.takeSwitchChain inv _, kept.endStepChain inv, inv, kept.endStepChain inv, inv]
  exact kept.stands (by simp [Machine.groupSyncAccepted]) synced

/-! #### The station -/

theorem stationChanged : P (stationChanged s) := kept.evaluateGas (kept.formUrgency (kept.updateLockouts inv))

theorem startStation (setup : s.sup.station = .setup) : P (startStation s) := by
  have computed : P (computeSetpoint (Machine.startReady s)) :=
    kept.stands (by simp) (kept.startReady setup inv)
  have entered : P (startEntered s) :=
    kept.stands (by simp [startEntered]) (kept.stationChanged computed)
  rw [startStation_eq]
  exact onOccasion entered fun _ => kept.enterSafe (startEntered_station s) entered

theorem leaveSafeState (safe : s.sup.station = .safe) : P (leaveSafeState s) :=
  kept.stands (by simp [Machine.leaveSafeState]) (kept.stationChanged (kept.safeLeft safe inv))

omit inv in
theorem wakeBlocks {s : State} {n : Nat} (draw : s.draw = { limit := n }) (gas : s.gas.state = .rest)
    (inlet : s.drivers.inlet = .function) (station : s.sup.station = .setup) : P (wakeBlocks s) :=
  kept.updateLockouts (kept.evaluateGas (kept.fresh draw gas inlet station))

omit inv in
theorem restartStation (s : State) : P (Machine.restartStation s) := by
  have woken : P (Machine.wakeBlocks (restartValues (endPourAtRestart s))) := kept.wakeBlocks rfl rfl rfl rfl
  exact kept.stands (by simp [Machine.restartStation]) woken

theorem stopProfile : P (stopProfile s) := by
  unfold Machine.stopProfile
  split
  · exact kept.mapSeq inv _
  · have ended := kept.endFlowing (kept.mapSeq inv fun q =>
      { q with profile := .idle, index := 0, phase := none, count := 0, pendingSwitch := none }) .mode
    have withdrawn {x : State} (inv : P x) : P (withdrawWindow x) := kept.stands (by simp) inv
    exact kept.stands (by simp) (kept.updateLockouts (kept.evaluateGas (withdrawn ended)))

theorem clearLatches (set : AlarmSet) : P (clearLatches set s) := by
  have cleared : P (s.mapSup fun p => { p with latched := p.latched &&& ~~~clearable set p }) :=
    kept.stands (by simp) inv
  have unlocked := kept.updateLockouts (s := endAlarm .leak ((s.mapSup fun p =>
    { p with latched := p.latched &&& ~~~clearable set p }).mapSup fun p =>
      { p with latched := withoutAlarm p.latched .leak })) (kept.stands (by simp) cleared)
  unfold Machine.clearLatches
  dsimp only
  (repeat' split)
  exacts [unlocked, kept.stands (by simp) unlocked, cleared, kept.stands (by simp) cleared]

/-! #### The events -/

theorem coordinatorHandOver (w : Bool) : P (coordinatorHandOver w s) := by
  have formed := kept.formUrgency (kept.updateLockouts inv)
  exact kept.supplyTest (onOccasion formed fun _ => kept.examine formed)

theorem hundredMsEvent (raw : Nat) (b : Bool) : P (hundredMsEvent raw b s) := by
  have sensed : P (pressureSensed raw s) := kept.pressureSample (kept.stands (by simp [ceilingTaken]) inv) raw
  have reacts : P (reacted raw b s) := by
    unfold reacted handedOver
    split
    exacts [kept.evaluateGas (kept.coordinatorHandOver sensed _), kept.coordinatorHandOver (kept.evaluateGas sensed) _]
  rw [hundredMsEvent_eq]
  exact kept.stands (by simp) reacts

theorem oneSecondEvent (m n : Nat) : P (oneSecondEvent m n s) := by
  have taken : P (s.mapTime fun t => { t with due1s := false }) := kept.stands (by simp) inv
  exact kept.stands (by simp [Machine.oneSecondEvent]) (kept.beerSample taken m)

theorem oneMinuteEvent (b : Bool) : P (oneMinuteEvent b s) := by
  have moved : P (minuteTaken s).1 := kept.stands (by simp [minuteTaken]) inv
  have windowed {x : State} (inv : P x) : P (windowDone x) := kept.stands (by simp [windowDone]) inv
  have done : P (minuteDone b s) := by
    unfold minuteDone
    split
    exacts [windowed (kept.elapseDuration (kept.sequencerMinute moved _)), kept.sequencerMinute (windowed moved) _]
  rw [oneMinuteEvent_eq]
  exact kept.stands (by simp) done

theorem oneHourEvent : P (oneHourEvent s) := by
  have tested : P (leakHour (s.mapTime fun t => { t with due1h := false })) := by
    unfold leakHour
    dsimp only
    (repeat' split)
    case isTrue => exact kept.updateLockouts (kept.stands (by simp) inv)
    all_goals exact kept.stands (by simp) inv
  have completed : P (completeBucket (leakHour (s.mapTime fun t => { t with due1h := false }))) :=
    kept.stands (by simp) tested
  unfold Machine.oneHourEvent
  dsimp only
  split
  exacts [completed, kept.chain _ completed]

/-! #### The bus -/

theorem duplicateHeard : P (duplicateHeard s) := by
  unfold Machine.duplicateHeard
  dsimp only
  split
  exacts [inv, kept.updateLockouts (kept.stands (by simp) inv)]

theorem acceptFrame {h : Header} {act : State → State} (acts : ∀ x, P x → P (act x)) : P (acceptFrame h act s) :=
  acceptFrame_keeps (fun _ _ inv => kept.stands (by simp) inv) (fun _ inv => kept.duplicateHeard inv)
    (fun _ _ _ inv => acts _ inv) inv

/-- The own GROUP_SYNC sent reaches the own sequencer (R41), the own CLAIM sent the coordinator (R149). -/
theorem completeSend (a : Attempt) (q : QFrame) (rest : List QFrame) : P (completeSend a q rest s) := by
  have ended : P (endAlarm .linkFault (s.mapLink fun l =>
      { l with queue := rest, attempt := none, bus := .busy, dropCount := 0,
               txDropped := l.txDropped && !(a.carriesTxDropped && !a.droppedSince) })) := kept.stands (by simp) inv
  have reported := onOccasion ended (p := q.liveClaim = true) fun _ => kept.claimSent ended
  unfold Machine.completeSend reportSend
  dsimp only
  split
  · exact onOccasion reported fun _ => kept.groupSyncAccepted reported _
  all_goals exact reported

theorem failAttempt : P (failAttempt s) := by
  have dropped (q : QFrame) (rest : List QFrame) : P (dropFrame q rest s) := by
    have counted : P (countDrop (s.mapLink fun l => ({ l with queue := rest } : Link).yieldBus)) :=
      kept.stands (by simp) inv
    exact onOccasion counted fun _ => kept.claimDropped counted
  unfold Machine.failAttempt
  (repeat' split)
  exacts [kept.stands (by simp) inv, dropped _ _, kept.stands (by simp) inv]

theorem discardFrame (rx : Reception) : P (discardFrame rx s) := by
  have ended : P (endReception s) := kept.stands (by simp) inv
  unfold Machine.discardFrame
  (repeat' split)
  exacts [kept.stands (by simp) inv, kept.stands (by simp) inv, kept.stands (by simp) inv, kept.duplicateHeard ended,
    ended, inv, inv]

/-! #### The commands -/

theorem storeItem (item : ItemName) (v : Int) : P (storeItem item v s) := kept.stands (by simp) inv

theorem recordSwitch (source start group : Nat) : P (recordSwitch source start group s) := by
  unfold Machine.recordSwitch
  (repeat' split)
  exacts [kept.takeSwitchChain inv _, kept.mapSeq inv _, kept.mapSeq inv _]

theorem forceOutputReply (args : List Byte) : P (forceOutputReply args s).state := by
  unfold Machine.forceOutputReply
  split
  · exact inv
  · next setup =>
    replace setup : s.sup.station = .setup := by simpa using setup
    (repeat' split)
    exacts [inv, inv, kept.forceDrive _ _ setup inv, inv, inv, kept.forceDrive _ _ setup inv, inv]

theorem reply (n : CommandName) (args : List Byte) : P (n.reply args s).state := by
  cases n <;> dsimp only [CommandName.reply]
  case restart => exact kept.restartStation s
  case start =>
    unfold startReply
    (repeat' split)
    exacts [inv, inv, kept.startStation inv (by simp_all)]
  case forceOutput => exact kept.forceOutputReply inv args
  case switchBank =>
    unfold switchBankReply
    (repeat' split)
    exacts [inv, kept.mapSeq inv fun q => { q with pendingSwitch := none }, inv, inv, kept.recordSwitch inv _ _ _,
      kept.recordSwitch inv _ _ _, inv]
  case advance =>
    unfold advanceReply
    split
    exacts [kept.endStepChain inv, inv]
  case pauseProfile =>
    unfold pauseReply
    split
    exacts [kept.changeProfile inv _, inv]
  case resumeProfile =>
    unfold resumeReply
    split
    exacts [kept.chain _ (kept.changeProfile inv _), inv]
  case stopProfile => exact kept.stopProfile inv
  case clearSupply => exact kept.clearSupply inv
  case clearAlarms =>
    unfold clearAlarmsReply
    (repeat' split)
    exacts [inv, kept.clearLatches inv _, inv]
  case leaveSafe =>
    unfold leaveSafeReply
    (repeat' split)
    exacts [inv, kept.stands (by simp [refuse]) inv, kept.leaveSafeState inv (by simp_all)]
  all_goals exact kept.stands (by simp) inv

theorem commandFrame (n : CommandName) (h : Header) (tag : Byte) (args : List Byte) :
    P (commandFrame n h tag args (n.reply args) s) :=
  commandFrame_keeps (fun _ _ inv => kept.stands (by simp) inv) (fun _ inv => kept.duplicateHeard inv)
    (fun _ inv => kept.stands (by simp) inv) (fun _ _ inv => kept.stands (by simp) inv)
    (fun _ inv => kept.reply inv n args) inv

end

/-- Every command keeps the property. -/
theorem exec {P : State → Prop} (kept : KeptByDraw P) {c : Instr} {s t : State} (next : exec c s = .next t)
    (inv : P s) : P t := by
  have leak (x : State) (inv : P x) : P (updateLeak x) := kept.stands (by simp) inv
  have command {n : CommandName} {h : Header} {tag : Byte} {args : List Byte}
      (next : Machine.exec (n.row h tag args) s = .next t) : P t :=
    perform_keeps ((exec_row n h tag args s).symm.trans next) leak (fun _ inv => kept.commandFrame inv n h tag args) inv
  cases c <;> have run := next <;> dsimp only [Machine.exec] at run
  case powerOn p =>
    cases run
    exact kept.wakeBlocks (n := 2) rfl rfl rfl rfl
  case rstnHeldLow =>
    cases run
    exact kept.fresh (n := 2) rfl rfl rfl rfl
  case setupItem => exact command (n := .setupItem) next
  case start => exact command (n := .start) next
  case restart => exact command (n := .restart) next
  case forceOutput => exact command (n := .forceOutput) next
  case writeStep => exact command (n := .writeStep) next
  case readStep => exact command (n := .readStep) next
  case switchBank => exact command (n := .switchBank) next
  case advance => exact command (n := .advance) next
  case pauseProfile => exact command (n := .pauseProfile) next
  case resumeProfile => exact command (n := .resumeProfile) next
  case stopProfile => exact command (n := .stopProfile) next
  case clearSupply => exact command (n := .clearSupply) next
  case setLevel => exact command (n := .setLevel) next
  case armPortion => exact command (n := .armPortion) next
  case readPour => exact command (n := .readPour) next
  case dropPours => exact command (n := .dropPours) next
  case readView => exact command (n := .readView) next
  case quiet => exact command (n := .quiet) next
  case wake => exact command (n := .wake) next
  case clearAlarms => exact command (n := .clearAlarms) next
  case leaveSafe => exact command (n := .leaveSafe) next
  all_goals refine perform_keeps run leak (fun _ inv => ?_) inv
  case event10ms pins _ =>
    split
    exacts [inv, kept.tenMsEvent inv pins]
  case event100ms raw first _ => exact onOccasion inv fun _ => kept.hundredMsEvent inv raw first
  case event1s beer jacket _ => exact onOccasion inv fun _ => kept.oneSecondEvent inv beer jacket
  case event1min first _ => exact onOccasion inv fun _ => kept.oneMinuteEvent inv first
  case event1h => exact onOccasion inv fun _ => kept.oneHourEvent inv
  case handlePress => exact onOccasion inv fun _ => kept.pressHandle inv
  case handleRelease =>
    exact onOccasion inv fun _ => kept.endFlowing (kept.stands (by simp) inv) _
  case auxLineChange line _ =>
    cases line <;> refine onOccasion inv fun _ => ?_
    exacts [kept.changeKeg inv, kept.changeLid inv, kept.stands (by simp) inv]
  case extStopActive => exact onOccasion inv fun _ => kept.stopLineActive inv
  case flowPulse => exact kept.flowPulse inv
  case durationElapsed => exact kept.elapseDuration inv
  case pulseTimerEnd =>
    exact onOccasion inv fun up => kept.pulseOver (.inl (by simp_all [pulseTimeUp])) (.inl rfl) inv
  case settleEnd => exact onOccasion inv fun up => kept.settleEnd inv (by simp_all [settleTimeUp])
  case settleWindowEnd => exact onOccasion inv fun up => kept.decideClaim (by simp_all [claimWindowUp]) inv
  case keepTimerPeriod => exact onOccasion inv fun up => kept.keepPeriod (by simp_all [keepPeriodUp]) inv
  case backoffEnd => exact onOccasion inv fun up => kept.contendAgain (.inl (by simp_all [backoffUp])) inv
  case recoverEnd => exact onOccasion inv fun up => kept.contendAgain (.inr (by simp_all [recoverUp])) inv
  case stallTimerEnd => exact onOccasion inv fun _ => kept.stallEnd inv
  case lowPressureTimerEnd => exact onOccasion inv fun _ => kept.endFlowing inv _
  case tailTimerEnd => exact onOccasion inv fun _ => kept.completePour inv
  case bitError =>
    split
    exacts [inv, onOccasion inv fun _ => kept.failAttempt inv]
  case arbitrationLost =>
    split
    exacts [inv, onOccasion inv fun _ => kept.stands (by simp) inv]
  case frameSent =>
    split
    exacts [kept.completeSend inv _ _ _, inv]
  case frameDiscarded rx _ => exact kept.discardFrame inv rx
  case receiveBayState =>
    refine kept.acceptFrame inv fun x inv => ?_
    split
    exacts [kept.examine (kept.stands (by simp) inv), inv]
  case receiveDraw =>
    refine kept.acceptFrame inv fun x inv => ?_
    split
    exacts [kept.drawHeard _ _ (kept.stands (by simp) inv), inv]
  case receiveGroupSync =>
    refine kept.acceptFrame inv fun x inv => ?_
    split
    exacts [kept.groupSyncAccepted inv _, inv]
  case receiveCoolCap | receivePour | unknownCommand =>
    refine kept.acceptFrame inv fun x inv => kept.stands ?_ inv
    (repeat' split) <;> simp [queueResult, refuse]
  case extStopInactive | heaterOnTimeEnd | glycolOpenTimeEnd | reportTimer | idleTimerExpiry | stallTimerStart
      | portionExpiry | busIdle | txAttemptStart | firstStartBit =>
    exact onOccasion inv fun _ => kept.stands (by simp) inv
  case peerPartExpiry => exact kept.stands (by simp) inv

/-- The command taken keeps the property, in which the commands that wait have no part. -/
theorem step {P : State → Prop} (kept : KeptByDraw P) {s t : State} (next : step s = .next t) (inv : P s) : P t := by
  unfold Machine.step at next
  split at next
  · cases next
    exact inv
  · exact kept.exec next (kept.stands (by simp) inv)

end KeptByDraw
end Sys2Proof.Machine
end

section
/-! ### O11 -/

namespace Sys2Proof.Machine

section
variable {s : State} (ok : DrawOk s.draw)
include ok

theorem DrawOk.forceDrive (o : Output) (on : Bool) : DrawOk (forceDrive o on s).draw := by
  have forced : DrawOk (s.mapDrivers (·.force o on)).draw := ok
  unfold Machine.forceDrive
  dsimp only
  (repeat' split)
  exacts [forced, forced.needArrives, forced.needEnds, forced]

theorem DrawOk.startReady : DrawOk (startReady s).draw := by
  have ready : DrawOk ((s.mapSup fun p => { p with station := .run, idleCount := 0 }).mapDrivers fun _ => {}).draw := ok
  unfold Machine.startReady
  dsimp only
  split
  exacts [ready.needEnds, ready]

theorem DrawOk.endFlowing (r : EndReason) : DrawOk (endFlowing r s).draw := by
  unfold Machine.endFlowing pourStateChanged
  split
  · exact DrawOk.formUrgency (s := s.mapDisp _) ok
  · exact ok

theorem DrawOk.enterSafe : DrawOk (enterSafe s).draw := by
  have told : DrawOk (withdrawWindow (queueBayState (s.mapSup fun p =>
      { p with station := .safe, quiet := false }))).draw := by simpa using ok
  exact (told.endFlowing .stopped).updateLockouts.formUrgency.evaluateGas

theorem DrawOk.clearSupply : DrawOk (clearSupply s).draw := by simpa [Machine.clearSupply, DrawOk] using ok

end

theorem drawOk_kept : KeptByDraw fun s => DrawOk s.draw where
  stands same ok := same.1 ▸ ok
  fresh draw _ _ _ := draw ▸ by simp [DrawOk]
  countDurations ok := ok.countDurations
  clearSupply ok := ok.clearSupply
  examine ok := ok.examine
  formUrgency ok := ok.formUrgency
  updateLockouts ok := ok.updateLockouts
  supplyTest ok := ok.supplyTest
  claimSent ok := ok.claimSent
  claimDropped ok := ok.claimDropped
  drawHeard kind u ok := ok.drawHeard kind u
  decideClaim claiming ok := decideClaim_drawOk ok claiming
  keepPeriod drawing ok := keepPeriod_drawOk ok drawing
  contendAgain _ _ := contendAgain_drawOk
  evaluateGas ok := ok.evaluateGas
  pulseOver _ _ ok := ok
  forceDrive o on _ ok := ok.forceDrive o on
  startReady _ ok := ok.startReady
  enterSafe _ ok := ok.enterSafe
  safeLeft _ ok := ok

/-- Settles O11: each operation of the coordinator keeps the form, and no other touches the draw. -/
theorem drawStateKept : Obligations.DrawStateKept := fun _ _ next ok => drawOk_kept.step next ok

/-! ### O12 -/

/-- TOPPING is decided in RUN alone (R132). -/
theorem station_of_decideGas_topping {s : State} (topping : decideGas s = .topping) : s.sup.station = .run := by
  by_contra other
  have disabled : enabledMode s = none := by simp [enabledMode, other]
  unfold decideGas at topping
  simp only [disabled] at topping
  (repeat' split at topping) <;> simp_all

/-- The need is TOPPING's or a forced INLET's, one of the two (R146). -/
def NeedMatches (s : State) : Prop :=
  (s.draw.need = true ↔ s.gas.state = .topping ∨ s.drivers.inlet = .forcedOn) ∧
    (s.drivers.inlet = .forcedOn → s.sup.station = .setup ∧ s.gas.state ≠ .topping)

theorem NeedInv.matched {s : State} (inv : NeedInv s) : NeedMatches s := by
  obtain ⟨need, run, setup⟩ := inv
  exact ⟨need, fun forced => ⟨setup forced, fun topping => absurd (setup forced) (by simp [run topping])⟩⟩

/-- With a forced INLET, not in TOPPING, an evaluation leaves need and INLET, or drops INLET with its need (R136, R137). -/
theorem evaluateGas_forced {s : State} (forced : s.drivers.inlet = .forcedOn) (old : s.gas.state ≠ .topping)
    (new : decideGas s ≠ .topping) :
    (evaluateGas s).draw.need = s.draw.need ∧ (evaluateGas s).drivers.inlet = .forcedOn ∨
      (evaluateGas s).draw.need = false ∧ (evaluateGas s).drivers.inlet = .function := by
  have left : (leaveGas s.gas.state (s.mapGas (·.moveTo (decideGas s)))).draw.need = s.draw.need ∧
      (leaveGas s.gas.state (s.mapGas (·.moveTo (decideGas s)))).drivers.inlet = .forcedOn := by
    unfold leaveGas
    split <;> simp_all
  have dropped {x : State} (forced : x.drivers.inlet = .forcedOn) :
      (dropForcedInlet x).draw.need = false ∧ (dropForcedInlet x).drivers.inlet = .function := by
    simp [dropForcedInlet, forced]
  unfold evaluateGas moveGas enterGas
  split
  · exact .inl ⟨rfl, forced⟩
  · split
    · contradiction
    · exact .inr (by simpa using dropped left.2)
    · exact .inr (dropped left.2)
    all_goals exact .inl left

/-- TOPPING has the need (R133). -/
theorem evaluateGas_tops {s : State} (topping : decideGas s = .topping)
    (before : s.gas.state = .topping → s.draw.need = true) : (evaluateGas s).draw.need = true := by
  unfold evaluateGas moveGas
  split
  · next same => exact before (same ▸ topping)
  · simp [topping, enterGas]

/-- An evaluation makes the need TOPPING's again, and TOPPING RUN's (R132, R133, R136, R137). -/
theorem NeedMatches.evaluateGas {s : State} (matched : NeedMatches s) : NeedInv (evaluateGas s) := by
  obtain ⟨need, alone⟩ := matched
  have run := station_of_decideGas_topping (s := s)
  unfold NeedInv
  rw [evaluateGas_state, evaluateGas_station]
  by_cases forced : s.drivers.inlet = .forcedOn
  · obtain ⟨setup, old⟩ := alone forced
    have new : decideGas s ≠ .topping := fun topping => absurd (run topping) (by simp [setup])
    obtain ⟨same, inlet⟩ | ⟨none, inlet⟩ := evaluateGas_forced forced old new
    · simp [same, inlet, need, forced, new, setup]
    · simp [none, inlet, new]
  · have free : (Machine.evaluateGas s).drivers.inlet ≠ .forcedOn := by rwa [evaluateGas_drivers forced]
    have toTop : NeedsToTop s := fun other => by simpa [other, forced] using need
    have still := evaluateGas_needsToTop toTop
    rw [NeedsToTop, evaluateGas_state] at still
    refine ⟨⟨fun needed => .inl ?_, fun tops => ?_⟩, run, fun on => absurd on free⟩
    · by_contra other
      simp [still other] at needed
    · exact evaluateGas_tops (tops.resolve_right free) fun topping => need.2 (.inl topping)

/-! #### The operations that leave the need -/

@[simp] theorem claimDropped_need (s : State) : (claimDropped s).draw.need = s.draw.need := by
  unfold claimDropped enterWaiting
  split <;> simp [Draw.enter]

@[simp] theorem releaseToRecover_need (s : State) : (releaseToRecover s).draw.need = s.draw.need := by
  simp [releaseToRecover, Draw.enter]

@[simp] theorem contendAgain_need (s : State) : (contendAgain s).draw.need = s.draw.need := by
  unfold contendAgain enterWaiting
  split <;> simp [Draw.enter]

@[simp] theorem drawHeard_need (kind : DrawKind) (u : Urgency) (s : State) :
    (drawHeard kind u s).draw.need = s.draw.need := by
  unfold drawHeard
  split <;> simp

@[simp] theorem claimSent_need (s : State) : (claimSent s).draw.need = s.draw.need := by
  unfold claimSent
  split <;> rfl

@[simp] theorem decideClaim_need (s : State) : (decideClaim s).draw.need = s.draw.need := by
  unfold decideClaim keepClaim giveUp
  split <;> simp [Draw.enter]

@[simp] theorem keepPeriod_need (s : State) : (keepPeriod s).draw.need = s.draw.need := by
  unfold keepPeriod
  split <;> simp

/-- Need, regulation state, INLET's drive state and station state are in `t` what they are in `s`. -/
@[simp] def NeedStands (s t : State) : Prop :=
  t.draw.need = s.draw.need ∧ t.gas.state = s.gas.state ∧ t.drivers.inlet = s.drivers.inlet ∧
    t.sup.station = s.sup.station

section
variable {s : State} (inv : NeedInv s)
include inv

theorem NeedInv.stands {t : State} (same : NeedStands s t) : NeedInv t := by
  obtain ⟨need, gas, inlet, station⟩ := same
  unfold NeedInv
  rw [need, gas, inlet, station]
  exact inv

/-- In SETUP the need is a forced INLET's (R146). -/
theorem NeedInv.in_setup (setup : s.sup.station = .setup) :
    s.gas.state ≠ .topping ∧ (s.draw.need = true ↔ s.drivers.inlet = .forcedOn) := by
  obtain ⟨need, run, -⟩ := inv
  have other : s.gas.state ≠ .topping := fun topping => absurd (run topping) (by simp [setup])
  exact ⟨other, by simpa [other] using need⟩

/-- Outside SETUP it is TOPPING's (R146). -/
theorem NeedInv.outside_setup (other : s.sup.station ≠ .setup) :
    s.drivers.inlet ≠ .forcedOn ∧ (s.draw.need = true ↔ s.gas.state = .topping) := by
  obtain ⟨need, -, setup⟩ := inv
  have free : s.drivers.inlet ≠ .forcedOn := fun forced => other (setup forced)
  exact ⟨free, by simpa [free] using need⟩

theorem NeedInv.forceDrive (setup : s.sup.station = .setup) (o : Output) (on : Bool) : NeedInv (forceDrive o on s) := by
  obtain ⟨other, need⟩ := inv.in_setup setup
  unfold Machine.forceDrive NeedInv
  dsimp only
  (repeat' split) <;> simp_all

theorem NeedInv.startReady (setup : s.sup.station = .setup) : NeedInv (startReady s) := by
  obtain ⟨other, need⟩ := inv.in_setup setup
  unfold Machine.startReady NeedInv
  dsimp only
  split <;> simp_all

theorem NeedInv.enterSafe (run : s.sup.station = .run) : NeedInv (enterSafe s) := by
  obtain ⟨free, need⟩ := inv.outside_setup (by simp [run])
  refine NeedMatches.evaluateGas ?_
  simp [NeedMatches, free, need]

theorem NeedInv.safeLeft (safe : s.sup.station = .safe) :
    NeedInv (s.mapSup fun p => { p with station := .run, idleCount := 0 }) := by
  obtain ⟨free, need⟩ := inv.outside_setup (by simp [safe])
  simp [NeedInv, free, need]

/-- The end of a pulse is no TOPPING (R134). -/
theorem NeedInv.pulseOver {new : GasState} (old : s.gas.state = .pulse ∨ s.gas.state = .settle)
    (ends : new = .settle ∨ new = .rest) : NeedInv (s.mapGas (·.moveTo new)) := by
  have before : s.gas.state ≠ .topping := by obtain h | h := old <;> simp [h]
  have after : new ≠ .topping := by obtain rfl | rfl := ends <;> simp
  obtain ⟨need, -, setup⟩ := inv
  exact ⟨by simpa [Gas.moveTo, before, after] using need, fun topping => absurd topping after, setup⟩

end

theorem needInv_kept : KeptByDraw NeedInv where
  stands same inv := inv.stands (by simp_all)
  fresh draw gas inlet _ := by simp [NeedInv, draw, gas, inlet]
  countDurations inv := inv.stands (by simp [Machine.countDurations])
  clearSupply inv := inv.stands (by simp [Machine.clearSupply])
  examine inv := inv.stands (by simp)
  formUrgency inv := inv.stands (by simp)
  updateLockouts inv := inv.stands (by simp)
  supplyTest inv := inv.stands (by simp)
  claimSent inv := inv.stands (by simp)
  claimDropped inv := inv.stands (by simp)
  drawHeard _ _ inv := inv.stands (by simp)
  decideClaim _ inv := inv.stands (by simp)
  keepPeriod _ inv := inv.stands (by simp)
  contendAgain _ inv := inv.stands (by simp)
  evaluateGas inv := inv.matched.evaluateGas
  pulseOver old ends inv := inv.pulseOver old ends
  forceDrive o on setup inv := inv.forceDrive setup o on
  startReady setup inv := inv.startReady setup
  enterSafe run inv := inv.enterSafe run
  safeLeft safe inv := inv.safeLeft safe

/-- Settles O12: an evaluation of the regulation state and the forcing of INLET move the need with its cause, and no other
operation touches either. -/
theorem needKept : Obligations.NeedKept := fun _ _ next inv => needInv_kept.step next inv

end Sys2Proof.Machine
end

section
/-! ## The ends of settle window, keep period, BACKOFF and RECOVER (R148 to R155, R158): O40 -/

namespace Sys2Proof.Machine

/-! ### The readings of the peer view, station by station (R51) -/

/-- The view's numbered entries are those of the stations from 1 on. -/
theorem PeerView.numbered_eq (v : PeerView) :
    v.numbered = (List.range' 1 v.entries.length).map fun n => (n, v.entry n) := by
  refine List.ext_getElem (by simp [numbered]) fun i before _ => ?_
  have inside : i < v.entries.length := by simpa [numbered] using before
  simp [numbered, entry, inside]

/-- What a station's draw part says (R45). -/
def PeerView.drawPart (v : PeerView) (n : Nat) : Option PeerDraw := (v.entry n).draw.map (·.draw)

/-- A station is DRAWING. -/
def PeerView.draws (v : PeerView) (n : Nat) : Bool :=
  v.drawPart n = some (.drawing .routine) || v.drawPart n = some (.drawing .priority)

/-- The drawers with some property are the stations that are DRAWING with an urgency that has it. -/
theorem PeerView.countP_drawers (v : PeerView) (p : Nat × Urgency → Bool) :
    v.drawers.countP p =
      (List.range' 1 v.entries.length).countP fun n =>
        match v.drawPart n with
        | some (.drawing u) => p (n, u)
        | _ => false := by
  rw [drawers, List.countP_filterMap, numbered_eq, List.countP_map]
  refine List.countP_congr fun n _ => ?_
  simp only [Function.comp_apply, drawPart]
  rcases (v.entry n).draw with _ | ⟨_ | _ | _, weak, left⟩ <;> simp

/-- The claimants with some property are the stations that are CLAIMING with an urgency that has it. -/
theorem PeerView.countP_claimants (v : PeerView) (p : Nat × Urgency → Bool) :
    v.claimants.countP p =
      (List.range' 1 v.entries.length).countP fun n =>
        match v.drawPart n with
        | some (.claiming u) => p (n, u)
        | _ => false := by
  rw [claimants, List.countP_filterMap, numbered_eq, List.countP_map]
  refine List.countP_congr fun n _ => ?_
  simp only [Function.comp_apply, drawPart]
  rcases (v.entry n).draw with _ | ⟨_ | _ | _, weak, left⟩ <;> simp

theorem PeerView.length_drawers (v : PeerView) :
    v.drawers.length = (List.range' 1 v.entries.length).countP v.draws := by
  rw [← List.countP_true, countP_drawers]
  refine List.countP_congr fun n _ => ?_
  unfold draws
  rcases v.drawPart n with _ | _ | _ | (_ | _) <;> simp

/-- What at most one of two tests counts of each is counted by either. -/
theorem countP_or_of_disjoint {α : Type} {p q : α → Bool} (apart : ∀ x, p x = true → q x = false) (l : List α) :
    l.countP (fun x => p x || q x) = l.countP p + l.countP q := by
  induction l with
  | nil => rfl
  | cons x l ih =>
    rw [List.countP_cons, List.countP_cons, List.countP_cons, ih]
    cases here : p x with
    | false => simp only [Bool.false_or, Bool.false_eq_true, if_false]; omega
    | true => simp only [apart x here, Bool.true_or, Bool.false_eq_true, if_true, if_false]; omega

/-- A station's claim ranks above the own one: stricter, or of the same urgency with a lower number (R150). -/
def outranks (s : State) (n : Nat) : Bool :=
  (s.view.drawPart n = some (.claiming .priority) && s.draw.claimUrgency = .routine) ||
    (s.view.drawPart n = some (.claiming s.draw.claimUrgency) && n < s.ident.number)

/-- Counted against the claim are the stations that draw and those that outrank it (R150). -/
theorem countedAgainst_eq (s : State) :
    countedAgainst s = (List.range' 1 s.view.entries.length).countP fun n => s.view.draws n || outranks s n := by
  have apart (n : Nat) (drawing : s.view.draws n = true) : outranks s n = false := by
    unfold PeerView.draws outranks at *
    cases part : s.view.drawPart n with
    | none => simp [part] at drawing
    | some x => cases x <;> simp [part] at drawing ⊢
  have ranked : (s.view.claimants.filter (ranksAbove s)).length =
      (List.range' 1 s.view.entries.length).countP (outranks s) := by
    rw [← List.countP_eq_length_filter, PeerView.countP_claimants]
    refine List.countP_congr fun n _ => ?_
    unfold outranks ranksAbove
    rcases s.view.drawPart n with _ | _ | u | _ <;> simp
  rw [countedAgainst, PeerView.length_drawers, ranked, countP_or_of_disjoint apart]

/-- An entry's indication is the flag of its bay part, or of its draw part where that is alone or refreshed later (R51). -/
def PeerEntry.Weak (e : PeerEntry) : Prop :=
  (∃ b, e.bay = some b ∧ b.supplyWeak = true ∧ (e.draw = none ∨ e.drawLater = false)) ∨
    ∃ d, e.draw = some d ∧ d.supplyWeak = true ∧ (e.bay = none ∨ e.drawLater = true)

theorem PeerEntry.weak_iff (e : PeerEntry) : e.Weak ↔ (e.present && e.weakIndication) = true := by
  obtain ⟨bay, draw, chiller, later⟩ := e
  cases bay <;> cases draw <;> cases later <;> simp [Weak, present, weakIndication]

/-- No peer is supply-weak exactly where no entry indicates it (R51). -/
theorem PeerView.weakPeers_isEmpty (v : PeerView) :
    v.weakPeers.isEmpty = true ↔ ∀ e ∈ v.entries, ¬e.Weak := by
  have numbers : v.numbered.map Prod.snd = v.entries := by
    rw [numbered, List.map_snd_zip (by simp)]
  rw [← numbers, List.forall_mem_map]
  simp [weakPeers, PeerEntry.weak_iff]

/-- The permission of a ROUTINE coordinator (R148, R158). -/
theorem mayClaim_routine {s : State} (routine : s.draw.urgency = .routine) :
    mayClaim s = true ↔ s.draw.supplyWeak = false ∧ (∀ e ∈ s.view.entries, ¬e.Weak) ∧
      (List.range' 1 s.view.entries.length).countP s.view.draws < s.setup.drawLimit := by
  rw [← PeerView.weakPeers_isEmpty, ← PeerView.length_drawers]
  simp [mayClaim, routine, supplySuspended, and_assoc]

/-- The permission of a PRIORITY coordinator (R148). -/
theorem mayClaim_priority {s : State} (priority : s.draw.urgency = .priority) :
    mayClaim s = true ↔
      (List.range' 1 s.view.entries.length).countP (fun n => s.view.drawPart n = some (.drawing .priority)) <
        s.setup.drawLimit := by
  have counted : (s.view.drawers.filter (·.2 = .priority)).length = (List.range' 1 s.view.entries.length).countP
      fun n => s.view.drawPart n = some (.drawing .priority) := by
    rw [← List.countP_eq_length_filter, PeerView.countP_drawers]
    refine List.countP_congr fun n _ => ?_
    rcases s.view.drawPart n with _ | _ | _ | _ <;> simp
  simp [mayClaim, priority, ← counted]

/-! ### What the ends come to (R150 to R155) -/

section
variable {s : State}

theorem decideClaim_keeps (below : countedAgainst s < s.draw.limit) : decideClaim s = keepClaim s := if_pos below

theorem decideClaim_givesUp (reached : s.draw.limit ≤ countedAgainst s) : decideClaim s = giveUp s :=
  if_neg (Nat.not_lt.2 reached)

theorem backoffTime_eq (u : Urgency) (n : Nat) :
    backoffTime u n = if u = .routine then (500 + 100 * n) / 10 else (100 + 20 * n) / 10 := by
  cases u <;> rfl

theorem keepPeriod_goesOn (fewer : s.draw.keepCount < 3) :
    keepPeriod s = queueDraw .keep
      (s.mapDraw fun d => { d with keepCount := d.keepCount + 1, keepTimer := some (ms 1000) }) :=
  if_pos (by omega)

theorem keepPeriod_releases (most : 3 ≤ s.draw.keepCount) : keepPeriod s = releaseToRecover s := if_neg (by omega)

variable (up : s.held = false)
include up

theorem exec_settleWindowEnd (claiming : s.draw.state = .claiming) (ended : s.draw.settleWindow = some 0) :
    exec .settleWindowEnd s = .next (updateLeak (decideClaim s)) :=
  (perform_running _ up).trans (by rw [if_pos (by simp [claimWindowUp, claiming, ended, due])])

theorem exec_keepTimerPeriod (drawing : s.draw.state = .drawing) (ended : s.draw.keepTimer = some 0) :
    exec .keepTimerPeriod s = .next (updateLeak (keepPeriod s)) :=
  (perform_running _ up).trans (by rw [if_pos (by simp [keepPeriodUp, drawing, ended, due])])

/-- BACKOFF and RECOVER end alike (R151, R155). -/
theorem exec_waitEnd {c : Instr} (ended : s.draw.backoffTimer = some 0)
    (row : (c = .backoffEnd ∧ s.draw.state = .backoff) ∨ (c = .recoverEnd ∧ s.draw.state = .recover)) :
    exec c s = .next (updateLeak (contendAgain s)) := by
  obtain ⟨rfl, state⟩ | ⟨rfl, state⟩ := row
  · exact (perform_running _ up).trans (by rw [if_pos (by simp [backoffUp, state, ended, due])])
  · exact (perform_running _ up).trans (by rw [if_pos (by simp [recoverUp, state, ended, due])])

end

/-- Settles O40: the counts station by station, and each end by what its row comes to. -/
theorem coordinatorTimerEnds : Obligations.CoordinatorTimerEnds := by
  refine ⟨fun s => ⟨countedAgainst_eq s, mayClaim_routine, mayClaim_priority⟩,
    fun s up claiming ended => ⟨fun below => ?_, fun reached => ?_⟩,
    fun s up drawing ended => ⟨fun fewer => ?_, fun most => ?_⟩,
    fun c s up ended row => ⟨fun none => ?_, fun need refused => ?_, fun need granted loud room => ?_⟩⟩
  · rw [exec_settleWindowEnd up claiming ended, decideClaim_keeps below]
    rfl
  · rw [exec_settleWindowEnd up claiming ended, decideClaim_givesUp reached, giveUp, ← backoffTime_eq]
    rfl
  · rw [exec_keepTimerPeriod up drawing ended, keepPeriod_goesOn fewer]
    rfl
  · rw [exec_keepTimerPeriod up drawing ended, keepPeriod_releases most]
    rfl
  all_goals rw [exec_waitEnd up ended row, contendAgain]
  · rw [if_neg (by simp [none])]
    rfl
  · rw [if_pos need, enterWaiting_eq, refused]
    rfl
  · rw [if_pos need, enterWaiting_eq, if_pos granted]
    obtain ⟨draw, q, mem, frame, live, -⟩ :=
      makeClaim_taken (s := { s with draw := examinedDraw .waiting s }) loud room
    exact ⟨_, rfl, draw, ⟨q, mem, frame, live⟩, by simp⟩

end Sys2Proof.Machine
end

section
/-! ## A drawer yields (R156): O48 -/

namespace Sys2Proof.Machine

/-- The yield test of a drawer (R156). -/
theorem mustYield_iff {s : State} (drawing : s.draw.state = .drawing) :
    mustYield s = true ↔ s.draw.urgency = .routine ∧ s.draw.limit ≤ s.view.drawers.length + 1 ∧
      ∀ d ∈ s.view.drawers, d.2 = .routine → d.1 ≤ s.ident.number := by
  simp [mustYield, drawing, and_assoc, imp_iff_not_or]

/-- A PRIORITY CLAIM makes the drawer yield, whose test it meets (R156). -/
theorem drawHeard_yields {s : State} (yields : mustYield s = true) :
    drawHeard .claim .priority s = releaseToRecover s := if_pos ⟨rfl, rfl, yields⟩

/-- A drawer that need not yield goes on (R156). -/
theorem drawHeard_goesOn {kind : DrawKind} {u : Urgency} {s : State} (drawing : s.draw.state = .drawing)
    (stays : ¬mustYield s = true) : drawHeard kind u s = s := by
  rw [drawHeard, if_neg fun test => stays test.2.2, examine_outside_waiting (by simp [drawing])]

/-- Settles O48: the yield test with the CLAIM in the view, and what follows from it. -/
theorem yieldToPriority : Obligations.YieldToPriority := by
  intro h o s accepts dest drawing claim priority view
  have read : drawOf [o] = some (.claim, .priority, o.getLsbD 4) := by
    rw [drawOf_octet (kind := .claim) ((bitsOf_seven_six o).trans claim), if_pos priority]
  have row : exec (.receiveDraw h [o]) s =
      .next (updateLeak (drawHeard .claim .priority { endReception s with view := view })) :=
    exec_receiveDraw accepts dest read
  have test : mustYield { endReception s with view := view } = true ↔
      s.draw.urgency = .routine ∧ s.draw.limit ≤ view.drawers.length + 1 ∧
        ∀ d ∈ view.drawers, d.2 = .routine → d.1 ≤ s.ident.number := mustYield_iff drawing
  refine ⟨fun routine reached highest => ?_, fun fails => ?_⟩
  · rw [row, drawHeard_yields (test.2 ⟨routine, reached, highest⟩)]
    exact congrArg (fun u => Host.Outcome.next (updateLeak (queueFrame (.draw .release u s.draw.supplyWeak) _))) routine
  · have stays : ¬mustYield { endReception s with view := view } = true := by
      rw [test]
      rintro ⟨routine, reached, highest⟩
      obtain strict | below | ⟨d, mem, peer, higher⟩ := fails
      · simp [strict] at routine
      · exact absurd reached (Nat.not_le.2 below)
      · exact absurd (highest d mem peer) (Nat.not_le.2 higher)
    rw [row, drawHeard_goesOn (by exact drawing) stays]

end Sys2Proof.Machine
end

section
/-! ## CLEAR_SUPPLY, QUIET, WAKE, LEAVE_SAFE and the activity events (R138, R159, R183, R186, R193): O59 -/

namespace Sys2Proof.Machine

/-! ### Activity events (R183) -/

/-- In RUN with QUIET clear an event of the activity set restarts the idle timer (R183). -/
theorem activityEvent_awake (e : Activity) {s : State} (run : s.sup.station = .run) (awake : s.sup.quiet = false) :
    activityEvent e s =
      if s.setup.activitySet.getLsbD e.code then { s with sup := { s.sup with idleCount := 0 } } else s := by
  simp [activityEvent, run, awake, State.mapSup]

/-- In QUIET an event of the wake set wakes (R183). -/
theorem activityEvent_inQuiet (e : Activity) {s : State} (run : s.sup.station = .run) (quiet : s.sup.quiet = true) :
    activityEvent e s =
      if s.setup.wakeSet.getLsbD e.code then
        queueBayState { s with sup := { s.sup with quiet := false, idleCount := 0 } }
      else s := by
  simp [activityEvent, run, quiet, State.mapSup, leaveQuiet]

/-- The activity event of a command leaves the alarms (R183). -/
@[simp] theorem atDispatch_alarms (s : State) :
    (atDispatch s).sup.active = s.sup.active ∧ (atDispatch s).sup.latched = s.sup.latched := by
  simp [atDispatch, endReception]

@[simp] theorem atDispatch_others (s : State) :
    (atDispatch s).time = s.time ∧ (atDispatch s).temp = s.temp ∧ (atDispatch s).cool = s.cool ∧
      (atDispatch s).link.silent = s.link.silent := by
  simp [atDispatch]

/-- Outside RUN a command is no activity event (R183). -/
theorem atDispatch_outside_run {s : State} (other : s.sup.station ≠ .run) : atDispatch s = endReception s :=
  activityEvent_outside_run .command (s := endReception s) other

/-! ### QUIET and WAKE (R186) -/

section
variable {s : State}

theorem quietReply_outside_run (other : s.sup.station ≠ .run) : quietReply s = refuse .refusedState s := by
  simp [quietReply, other]

theorem quietReply_run (run : s.sup.station = .run) :
    quietReply s = answer .done (if s.sup.quiet then s else enterQuiet s) := by
  unfold quietReply
  rw [if_neg (by simp [run])]
  split <;> rfl

theorem wakeReply_outside_run (other : s.sup.station ≠ .run) : wakeReply s = answer .done s := by
  simp [wakeReply, other]

/-- In RUN a WAKE clears QUIET and restarts the idle timer, whether QUIET was set or not (R186). -/
theorem wakeReply_sup (run : s.sup.station = .run) :
    (wakeReply s).state.sup = { s.sup with quiet := false, idleCount := 0 } := by
  unfold wakeReply
  rw [if_neg (by simp [run])]
  cases quiet : s.sup.quiet <;> simp [answer, leaveQuiet, quiet]

/-- Outside SILENT the entry to QUIET begins the report count anew (R39). -/
theorem enterQuiet_reportCount (loud : s.link.silent = false) : (enterQuiet s).link.reportCount = 0 := by
  simp [enterQuiet, queueBayState_link, loud]

/-- QUIET set, whether it was set before or not (R186). -/
theorem quietSet_stands (s : State) :
    let t := if s.sup.quiet then s else enterQuiet s
    t.sup = { s.sup with quiet := true } ∧ (s.sup.quiet = false → s.link.silent = false → t.link.reportCount = 0) ∧
      t.draw = s.draw ∧ t.disp = s.disp ∧ t.seq = s.seq ∧ t.temp = s.temp ∧ t.cool = s.cool := by
  cases quiet : s.sup.quiet with
  | true => simp [← quiet]
  | false => simpa [enterQuiet] using enterQuiet_reportCount

/-! ### LEAVE_SAFE (R193) -/

theorem leaveSafeReply_outside_safe (other : s.sup.station ≠ .safe) :
    leaveSafeReply s = refuse .refusedState s := by
  simp [leaveSafeReply, other]

theorem leaveSafeReply_stopped (safe : s.sup.station = .safe) (stopped : s.sampling.ext.active = true) :
    leaveSafeReply s =
      refuse .refusedState (s.mapSup fun p => { p with leaveSafeRefused := s.sampling.ext.undelivered }) := by
  simp [leaveSafeReply, safe, stopped]

theorem leaveSafeReply_leaves (safe : s.sup.station = .safe) (clear : s.sampling.ext.active = false) :
    leaveSafeReply s = answer .done (leaveSafeState s) := by
  simp [leaveSafeReply, safe, clear]

/-- RUN entered again, with the coordinator's answer to it, before the gas regulator's evaluation (R138, R193). -/
def runReentered (s : State) : State :=
  formUrgency (updateLockouts (s.mapSup fun p => { p with station := .run, idleCount := 0 }))

theorem leaveSafeState_eq (s : State) : leaveSafeState s = queueBayState (evaluateGas (runReentered s)) := rfl

theorem runReentered_frame (s : State) :
    (runReentered s).sup = { s.sup with station := .run, idleCount := 0 } ∧ (runReentered s).gas = s.gas ∧
      (runReentered s).seq = s.seq ∧ (runReentered s).sampling = s.sampling ∧ (runReentered s).setup = s.setup ∧
      (runReentered s).drivers = s.drivers ∧ (runReentered s).held = s.held := by
  simp [runReentered]

theorem leaveSafeState_run (s : State) :
    (leaveSafeState s).sup.station = .run ∧ (leaveSafeState s).sup.idleCount = 0 := by
  obtain ⟨sup, -⟩ := runReentered_frame s
  have idle : (evaluateGas (runReentered s)).sup.idleCount = 0 := evaluateGas_idleCount (by simp [sup])
  simp [leaveSafeState_eq, idle, sup]

theorem leaveSafeState_gasState (s : State) : (leaveSafeState s).gas.state = decideGas (runReentered s) := by
  simp [leaveSafeState_eq, evaluateGas_state]

theorem leaveSafeState_vent (s : State) : (leaveSafeState s).drivers.vent = s.drivers.vent := by
  obtain ⟨-, -, -, -, -, drivers, -⟩ := runReentered_frame s
  simp [leaveSafeState_eq, drivers]

/-- With a closed keg's mode handed the regulation is enabled in RUN (R132). -/
theorem enabledMode_of_handed {m : GasMode} (run : s.sup.station = .run) (mode : handedMode s = some m)
    (closed : m ≠ .openKeg) : enabledMode s = some m := by
  have busy : s.seq.profile ≠ .idle := fun idle => by simp [handedMode, Sequencer.current, idle] at mode
  cases m <;> simp_all [enabledMode]

/-- The evaluation at the return to RUN, from REST with a pressure within the ceiling (R138). -/
theorem decideGas_runReentered {m : GasMode} {p : Int} (rest : s.gas.state = .rest)
    (pressure : goodPressure s.sampling.transducer = some p) (within : p ≤ s.gas.ceiling)
    (mode : handedMode s = some m) :
    decideGas (runReentered s) =
      if m = .openKeg then .ventOpen
      else modeTest m p s.gas.setpoint (if s.sup.quiet then 2 * s.setup.band else s.setup.band) := by
  obtain ⟨sup, gas, seq, sampling, setup, -, -⟩ := runReentered_frame s
  have mode' : handedMode (runReentered s) = some m := by rw [← mode, handedMode, handedMode, seq]
  have pressure' : goodPressure (runReentered s).sampling.transducer = some p := by rw [sampling, pressure]
  have rest' : (runReentered s).gas.state = .rest := by rw [gas, rest]
  have within' : p ≤ (runReentered s).gas.ceiling := by rwa [gas]
  have run : (runReentered s).sup.station = .run := by rw [sup]
  split
  · next keg => exact decideGas_openKeg pressure' within' (.inl (by simp [rest'])) (keg ▸ mode') (by simp [run])
  · next closed =>
    rw [decideGas_enabled pressure' within' (enabledMode_of_handed run mode' closed) (.inl rest'),
      if_neg (by simp [rest'])]
    simp only [effectiveBand, gas, setup, sup]

end

/-- What stands at the return to RUN (R193). -/
theorem leaveSafeState_stands (s : State) :
    (leaveSafeState s).sup.station = .run ∧ (leaveSafeState s).sup.idleCount = 0 ∧ (leaveSafeState s).seq = s.seq ∧
      (leaveSafeState s).temp = s.temp ∧ (leaveSafeState s).cool = s.cool ∧ (leaveSafeState s).disp = s.disp ∧
      (leaveSafeState s).setup = s.setup ∧ (leaveSafeState s).sampling = s.sampling ∧
      (leaveSafeState s).view = s.view ∧ (leaveSafeState s).time = s.time ∧
      (leaveSafeState s).gas.setpoint = s.gas.setpoint := by
  obtain ⟨run, idle⟩ := leaveSafeState_run s
  simp [run, idle]

/-- TOPPING at the return to RUN has the need (R133, R138). -/
theorem leaveSafeState_tops {s : State} (rest : s.gas.state = .rest) (topping : decideGas (runReentered s) = .topping) :
    (leaveSafeState s).draw.need = true := by
  obtain ⟨-, gas, -⟩ := runReentered_frame s
  simpa [leaveSafeState_eq] using evaluateGas_tops topping (by simp [gas, rest])

/-- The gas regulator's rows at the return to RUN, from REST with a pressure within the ceiling (R132, R135, R138). -/
theorem leaveSafeState_regulates {m : GasMode} {p : Int} {s : State} (rest : s.gas.state = .rest)
    (pressure : goodPressure s.sampling.transducer = some p) (within : p ≤ s.gas.ceiling)
    (mode : handedMode s = some m) :
    let band := if s.sup.quiet then 2 * s.setup.band else s.setup.band
    (m = .openKeg → (leaveSafeState s).gas.state = .ventOpen) ∧
      (m ≠ .openKeg → s.gas.setpoint + band < p → (leaveSafeState s).gas.state = .pulse) ∧
      (m = .carbonate ∨ m = .serve → p ≤ s.gas.setpoint + band → p < s.gas.setpoint - band →
        (leaveSafeState s).gas.state = .topping ∧ (leaveSafeState s).draw.need = true) ∧
      (m ≠ .openKeg → p ≤ s.gas.setpoint + band → s.gas.setpoint - band ≤ p ∨ m = .spund →
        (leaveSafeState s).gas.state = .rest) := by
  have decided := decideGas_runReentered rest pressure within mode
  intro band
  rw [leaveSafeState_gasState]
  refine ⟨fun keg => ?_, fun closed above => ?_, fun tops low below => ?_, fun closed low stays => ?_⟩
  · rw [decided, if_pos keg]
  · rw [decided, if_neg closed, modeTest, if_pos above]
  · have closed : m ≠ .openKeg := by obtain rfl | rfl := tops <;> simp
    have topping : decideGas (runReentered s) = .topping := by
      rw [decided, if_neg closed, modeTest, if_neg (not_lt.2 low), if_pos ⟨below, tops⟩]
    exact ⟨topping, leaveSafeState_tops rest topping⟩
  · have noTop : ¬(p < s.gas.setpoint - band ∧ (m = .carbonate ∨ m = .serve)) := by
      rintro ⟨below, tops⟩
      obtain within | rfl := stays
      · omega
      · simp at tops
    rw [decided, if_neg closed, modeTest, if_neg (not_lt.2 low), if_neg noTop]

/-- A RESULT joins the queue and leaves all else but the leak check (R35, R142). -/
@[simp] theorem withResult_frame (h : Header) (code tag : Byte) (outcome : ResultCode) (data : List Byte) (x : State) :
    (withResult h code tag outcome data x).held = x.held ∧ (withResult h code tag outcome data x).time = x.time ∧
      (withResult h code tag outcome data x).setup = x.setup ∧ (withResult h code tag outcome data x).sup = x.sup ∧
      (withResult h code tag outcome data x).sampling = x.sampling ∧
      (withResult h code tag outcome data x).drivers = x.drivers ∧
      (withResult h code tag outcome data x).view = x.view ∧ (withResult h code tag outcome data x).seq = x.seq ∧
      (withResult h code tag outcome data x).temp = x.temp ∧ (withResult h code tag outcome data x).cool = x.cool ∧
      (withResult h code tag outcome data x).draw = x.draw ∧ (withResult h code tag outcome data x).disp = x.disp ∧
      (withResult h code tag outcome data x).gas.state = x.gas.state ∧
      (withResult h code tag outcome data x).gas.setpoint = x.gas.setpoint := by
  simp [withResult]

/-- The six activity events stand in the sets by their codes (R183). -/
theorem activity_code {e : Activity} {place : Nat}
    (row : (e, place) ∈
      [(Activity.handle, 0), (.peerPour, 1), (.command, 2), (.groupSync, 3), (.lid, 4), (.alarm, 5)]) :
    place = e.code := by
  cases e <;> simpa [Activity.code] using row

section
variable {h : Header} {s : State} (tag : Byte) (addressed : Addressed h s)
include addressed

theorem exec_clearSupply_addressed :
    exec (.clearSupply h tag []) s = .next (withResult h 0x20#8 tag .done [] (clearSupply (atDispatch s))) :=
  exec_row_addressed (n := .clearSupply) addressed rfl fun x => by simp [CommandName.reply, answer]

theorem exec_quiet_addressed :
    exec (.quiet h tag []) s =
      .next (withResult h 0x50#8 tag (quietReply (atDispatch s)).code (quietReply (atDispatch s)).data
        (quietReply (atDispatch s)).state) :=
  exec_row_addressed (n := .quiet) addressed rfl fun x => by simp [CommandName.reply]

theorem exec_wake_addressed :
    exec (.wake h tag []) s =
      .next (withResult h 0x51#8 tag .done [] (wakeReply (atDispatch s)).state) :=
  exec_row_addressed (n := .wake) addressed rfl fun x => by simp [CommandName.reply]

theorem exec_leaveSafe_addressed :
    exec (.leaveSafe h tag []) s =
      .next (withResult h 0x53#8 tag (leaveSafeReply (atDispatch s)).code (leaveSafeReply (atDispatch s)).data
        (leaveSafeReply (atDispatch s)).state) :=
  exec_row_addressed (n := .leaveSafe) addressed rfl fun x => by simp [CommandName.reply]

/-- A LEAVE_SAFE with EXT_STOP clear returns to RUN (R193). -/
theorem exec_leaveSafe_leaves (safe : s.sup.station = .safe) (clear : s.sampling.ext.active = false) :
    exec (.leaveSafe h tag []) s =
      .next (withResult h 0x53#8 tag .done [] (leaveSafeState (endReception s))) := by
  have dispatched := atDispatch_outside_run (s := s) (by simp [safe])
  rw [exec_leaveSafe_addressed tag addressed, leaveSafeReply_leaves (by simpa using safe) (by simpa using clear),
    dispatched]
  rfl

end

/-- Settles O59: R183's table, and each command's reply as its owning block finds the part. -/
theorem supplyQuietWakeAndLeaveSafe : Obligations.SupplyQuietWakeAndLeaveSafe := by
  refine ⟨fun e place s row => ?_, fun h tag s addressed => ⟨?_, fun other => ⟨?_, ?_⟩, fun run => ?_⟩,
    fun h tag s addressed => ⟨fun other => ?_, fun safe stopped => ?_, fun safe clear => ?_⟩⟩
  · obtain rfl := activity_code row
    refine ⟨activityEvent_outside_run e, fun run awake => ⟨fun inSet => ?_, fun out => ?_⟩,
      fun run quiet => ⟨fun inSet => ?_, fun out => ?_⟩⟩
    · rw [activityEvent_awake e run awake, if_pos inSet]
    · rw [activityEvent_awake e run awake, if_neg (by simp [out])]
    · rw [activityEvent_inQuiet e run quiet, if_pos inSet]
    · rw [activityEvent_inQuiet e run quiet, if_neg (by simp [out])]
  · rw [exec_clearSupply_addressed tag addressed]
    simp [clearSupply, State.mapDraw]
  · rw [exec_quiet_addressed tag addressed, quietReply_outside_run (by simpa using other)]
    rfl
  · rw [exec_wake_addressed tag addressed, wakeReply_outside_run (by simpa using other)]
    rfl
  · have run' : (atDispatch s).sup.station = .run := by simpa using run
    have woken := wakeReply_sup run'
    obtain ⟨sup, report, draw, disp, seq, temp, cool⟩ := quietSet_stands (atDispatch s)
    refine ⟨?_, sup, fun awake loud => report awake (by simpa using loud), draw, disp, seq, temp, cool, _,
      exec_wake_addressed tag addressed, ?_⟩
    · rw [exec_quiet_addressed tag addressed, quietReply_run run']
      rfl
    · simp [woken, run]
  · rw [exec_leaveSafe_addressed tag addressed, leaveSafeReply_outside_safe (by simpa using other)]
    rfl
  · have sampling : (atDispatch s).sampling = s.sampling := by simp
    rw [exec_leaveSafe_addressed tag addressed,
      leaveSafeReply_stopped (by simpa using safe) (by simpa using stopped), sampling]
    rfl
  · obtain ⟨run, idle, stands⟩ := leaveSafeState_stands (endReception s)
    refine ⟨_, exec_leaveSafe_leaves tag addressed safe clear, ?_⟩
    simp only [withResult_frame, run, idle, true_and]
    obtain ⟨seq, temp, cool, disp, setup, sampling, view, time, setpoint⟩ := stands
    refine ⟨seq, temp, cool, disp, setup, sampling, view, time, setpoint, fun m p rest pressure within mode => ?_⟩
    obtain ⟨vents, pulses, tops, rests⟩ :=
      leaveSafeState_regulates (s := endReception s) rest pressure within mode
    refine ⟨fun keg => ⟨vents keg, ?_⟩, pulses, tops, rests⟩
    rw [ventPin_of_ventOpen (by simpa using addressed.1.1) (by simpa using vents keg)]
    simp [leaveSafeState_vent]

end Sys2Proof.Machine
end

section
/-! ## Keg level and pour log (R66, R165 to R167, R173, R176, R177, R179, R181): O15

Of the steps few touch what the invariant hangs on: level, log, next number, the number of the pour in progress, and whether
there is one. -/

namespace Sys2Proof.Machine

/-! ### The log -/

/-- What a record that joins the log leaves (R177). -/
@[simp] theorem Dispense.joinLog_frame (r : PourRecord) (d : Dispense) :
    (d.joinLog r).state = d.state ∧ (d.joinLog r).pulses = d.pulses ∧ (d.joinLog r).pour = d.pour ∧
      (d.joinLog r).stallDelay = d.stallDelay ∧ (d.joinLog r).stallTimer = d.stallTimer ∧
      (d.joinLog r).lowTimer = d.lowTimer ∧ (d.joinLog r).tailTimer = d.tailTimer ∧
      (d.joinLog r).deferred = d.deferred ∧ (d.joinLog r).portion = d.portion ∧
      (d.joinLog r).portionTimer = d.portionTimer ∧ (d.joinLog r).level = d.level ∧
      (d.joinLog r).nextNumber = d.nextNumber := by
  unfold joinLog
  (repeat' split) <;> simp

theorem Dispense.joinLog_one {r : PourRecord} (one : r.number = 1) (d : Dispense) :
    d.joinLog r = { d with log := [r], wrapped := false } := if_pos one

theorem Dispense.joinLog_room {r : PourRecord} {d : Dispense} (other : r.number ≠ 1) (room : d.log.length < 32) :
    d.joinLog r = { d with log := d.log ++ [r] } :=
  (if_neg other).trans (if_neg (not_le.2 room))

theorem Dispense.joinLog_full {r : PourRecord} {d : Dispense} (other : r.number ≠ 1) (full : 32 ≤ d.log.length) :
    d.joinLog r = { d with log := d.log.tail ++ [r], wrapped := true } :=
  (if_neg other).trans (if_pos full)

/-- A log of consecutive numbers, at most 32 records long, that `next` goes on with (R177). -/
def LogRuns (log : List PourRecord) (next : Nat) : Prop :=
  log.length ≤ 32 ∧ (log.map (·.number)).IsChain (fun a b => b = a + 1) ∧
    ∀ r, log.getLast? = some r → next = nextPourNumber r.number

theorem LogRuns.nil (next : Nat) : LogRuns [] next := by simp [LogRuns]

theorem LogRuns.drop {log : List PourRecord} {next : Nat} (runs : LogRuns log next) (n : Nat) :
    LogRuns (log.drop n) next := by
  obtain ⟨short, consecutive, last⟩ := runs
  refine ⟨by simp; omega, by simpa [List.map_drop] using consecutive.drop n, fun r newest => last r ?_⟩
  rw [List.getLast?_drop] at newest
  split at newest
  · nomatch newest
  · exact newest

/-- The number after another's is the next one, but where it begins again at 1 (R177). -/
theorem eq_succ_of_nextPourNumber {n m : Nat} (next : n = nextPourNumber m) (other : n ≠ 1) : n = m + 1 := by
  unfold nextPourNumber at next
  split at next
  · exact absurd next other
  · exact next

theorem LogRuns.append {log : List PourRecord} {r : PourRecord} (runs : LogRuns log r.number) (other : r.number ≠ 1)
    (room : log.length < 32) : LogRuns (log ++ [r]) (nextPourNumber r.number) := by
  obtain ⟨-, consecutive, last⟩ := runs
  refine ⟨by simp; omega, ?_, by simp⟩
  rw [List.map_append, List.isChain_append]
  refine ⟨consecutive, by simp, fun a newest b joined => ?_⟩
  obtain ⟨x, hx, rfl⟩ : ∃ x, log.getLast? = some x ∧ x.number = a := by simpa using newest
  obtain rfl : r.number = b := by simpa using joined
  exact eq_succ_of_nextPourNumber (last x hx) other

/-- A record with the number that is to come joins the log (R177). -/
theorem LogRuns.joinLog {d : Dispense} {r : PourRecord} (runs : LogRuns d.log r.number) :
    LogRuns (d.joinLog r).log (nextPourNumber r.number) := by
  by_cases one : r.number = 1
  · rw [Dispense.joinLog_one one]
    simp [LogRuns]
  · have short := runs.1
    rcases Nat.lt_or_ge d.log.length 32 with room | full
    · rw [Dispense.joinLog_room one room]
      exact runs.append one room
    · rw [Dispense.joinLog_full one full, ← List.drop_one]
      exact (runs.drop 1).append one (by simp; omega)

/-! ### The invariant and what it hangs on -/

theorem kegInv_iff (s : State) :
    KegInv s ↔ s.disp.level ≤ 20000 ∧ LogRuns s.disp.log s.disp.upNext ∧
      (∀ p, s.disp.pour = some p → s.disp.nextNumber = nextPourNumber p.number) ∧
      (s.disp.pour = none ↔ s.disp.state = .idle) := by
  simp only [KegInv, LogRuns, and_assoc]

theorem Dispense.upNext_eq (d : Dispense) : d.upNext = (d.pour.map (·.number)).getD d.nextNumber := by
  unfold upNext
  cases d.pour <;> rfl

/-- A part without a pour, whose log goes on with the next number. -/
theorem kegInv_idle {t : State} (level : t.disp.level ≤ 20000) (runs : LogRuns t.disp.log t.disp.nextNumber)
    (none : t.disp.pour = none) (idle : t.disp.state = .idle) : KegInv t := by
  rw [kegInv_iff, Dispense.upNext_eq]
  simp [level, runs, none, idle]

section
variable {s : State} (inv : KegInv s)
include inv

/-- The pours are the log's and their own alone. -/
theorem KegInv.stands {t : State} (same : t.disp.level = s.disp.level ∧ t.disp.log = s.disp.log ∧
    t.disp.nextNumber = s.disp.nextNumber ∧ t.disp.pour.map (·.number) = s.disp.pour.map (·.number) ∧
    (t.disp.state = .idle ↔ s.disp.state = .idle)) : KegInv t := by
  obtain ⟨level, log, next, number, idle⟩ := same
  rw [kegInv_iff, Dispense.upNext_eq] at inv ⊢
  obtain ⟨full, runs, numbered, poured⟩ := inv
  rw [level, log, next, number, idle, ← poured]
  refine ⟨full, runs, fun p pour => ?_, ?_⟩
  · obtain ⟨q, held, same⟩ : ∃ q, s.disp.pour = some q ∧ q.number = p.number := by simpa [pour] using number.symm
    rw [numbered q held, same]
  · rw [← Option.map_eq_none_iff, number, Option.map_eq_none_iff]

/-- A row that acts only on its occasion keeps the invariant where its action there does. -/
theorem KegInv.ite {t : State} {p : Prop} [Decidable p] (acts : p → KegInv t) : KegInv (if p then t else s) := by
  split
  · next occasion => exact acts occasion
  · exact inv

/-- In IDLE the log goes on with the next number. -/
theorem KegInv.runs (idle : s.disp.state = .idle) : s.disp.pour = none ∧ LogRuns s.disp.log s.disp.nextNumber := by
  obtain ⟨-, runs, -, poured⟩ := (kegInv_iff s).1 inv
  have none := poured.2 idle
  rw [Dispense.upNext_eq, none] at runs
  exact ⟨none, runs⟩

/-! ### The operations that move level, log or numbers -/

/-- A denial takes the next number into the log (R166), a grant into the pour (R167). -/
theorem KegInv.requestPour (idle : s.disp.state = .idle) : KegInv (requestPour s) := by
  obtain ⟨none, runs⟩ := inv.runs idle
  have level := inv.1
  unfold Machine.requestPour
  split
  · refine kegInv_idle (by simpa [denyPour] using level) ?_ (by simpa [denyPour]) (by simpa [denyPour])
    simpa [denyPour] using LogRuns.joinLog (d := { s.disp with nextNumber := nextPourNumber s.disp.nextNumber }) runs
  · rw [kegInv_iff, Dispense.upNext_eq]
    simpa [grantPour] using ⟨level, runs⟩

theorem KegInv.takeDeferred (idle : s.disp.state = .idle) : KegInv (takeDeferred s) := by
  have cleared : KegInv (s.mapDisp fun d => { d with deferred := false }) := inv.stands (by simp)
  unfold Machine.takeDeferred
  dsimp only
  (repeat' split)
  exacts [cleared.requestPour idle, cleared, inv]

/-- The record of a pour in progress goes on the log, and the numbers go on behind it (R173, R181). -/
theorem KegInv.recorded {p : Pour} (pour : s.disp.pour = some p) (volume : Nat) (reason : EndReason) :
    LogRuns (s.disp.joinLog (pourRecord p volume reason)).log s.disp.nextNumber := by
  obtain ⟨-, runs, numbered, -⟩ := (kegInv_iff s).1 inv
  rw [Dispense.upNext_eq, pour] at runs
  rw [numbered p pour]
  exact LogRuns.joinLog (r := pourRecord p volume reason) runs

theorem KegInv.completePour : KegInv (completePour s) := by
  unfold Machine.completePour
  split
  · exact inv
  · next p pour =>
    have level := inv.1
    refine KegInv.takeDeferred (kegInv_idle ?_ ?_ ?_ ?_) ?_
    · simp only [pourStateChanged_frame, queueFrame_frame, State.mapDisp_disp]
      split <;> omega
    · simpa using inv.recorded pour _ _
    all_goals simp

theorem KegInv.pressHandle : KegInv (pressHandle s) := by
  have pressed : KegInv (activityEvent .handle (s.mapSampling fun u => { u with handle := u.handle.deliver })) :=
    inv.stands (by simp)
  unfold Machine.pressHandle
  dsimp only
  split
  · next idle => exact pressed.requestPour idle
  · exact pressed.stands (by simp)
  · exact pressed

/-- A level asked for is brought into its range (R176). -/
theorem KegInv.setLevelReply (args : List Byte) : KegInv (setLevelReply args s).state := by
  unfold Machine.setLevelReply
  split
  · split
    · exact inv
    · rw [kegInv_iff] at inv ⊢
      exact ⟨Nat.min_le_left _ _, inv.2⟩
  · exact inv

/-- Records leave the log at its oldest end (R179). -/
theorem KegInv.dropPoursReply (args : List Byte) : KegInv (dropPoursReply args s).state := by
  unfold Machine.dropPoursReply
  split
  · rw [kegInv_iff] at inv ⊢
    obtain ⟨level, runs, rest⟩ := inv
    exact ⟨level, runs.drop _, rest⟩
  · exact inv

/-- A pour that a RESTART ends is recorded, and the part is IDLE (R66, R181). -/
theorem KegInv.restartStation : KegInv (restartStation s) := by
  obtain ⟨-, -, -, -, -, -, -, -, -, -, -, disp⟩ := restartStation_keeps s
  obtain ⟨next, unpoured, poured⟩ := endPourAtRestart_disp s
  have level := inv.1
  have ended : (endPourAtRestart s).disp.level ≤ 20000 ∧ LogRuns (endPourAtRestart s).disp.log s.disp.nextNumber := by
    cases pour : s.disp.pour with
    | none =>
      rw [unpoured pour]
      obtain ⟨-, runs⟩ := inv.runs (((kegInv_iff s).1 inv).2.2.2.1 pour)
      exact ⟨level, runs⟩
    | some p =>
      obtain ⟨less, log⟩ := poured p pour
      rw [less, log]
      exact ⟨by omega, inv.recorded pour _ _⟩
  refine kegInv_idle ?_ ?_ ?_ ?_ <;> rw [disp]
  · exact ended.1
  · exact next ▸ ended.2

/-! ### Every command -/

theorem KegInv.reply (n : CommandName) (args : List Byte) : KegInv (n.reply args s).state := by
  cases n <;> dsimp only [CommandName.reply]
  case restart => exact inv.restartStation
  case setLevel => exact inv.setLevelReply args
  case dropPours => exact inv.dropPoursReply args
  all_goals exact inv.stands (by simp [answer])

theorem KegInv.acceptFrame {h : Header} {act : State → State} (acts : ∀ x, KegInv x → KegInv (act x)) :
    KegInv (acceptFrame h act s) :=
  acceptFrame_keeps (fun _ _ inv => inv.stands (by simp)) (fun _ inv => inv.stands (by simp))
    (fun _ _ _ inv => acts _ inv) inv

theorem KegInv.commandFrame (n : CommandName) (h : Header) (tag : Byte) (args : List Byte) :
    KegInv (commandFrame n h tag args (n.reply args) s) :=
  commandFrame_keeps (fun _ _ inv => inv.stands (by simp)) (fun _ inv => inv.stands (by simp))
    (fun _ inv => inv.stands (by simp)) (fun _ _ inv => inv.stands (by simp)) (fun _ inv => inv.reply n args) inv

end

/-- An empty log that any number goes on with. -/
theorem kegInv_fresh {t : State} (fresh : t.disp = {}) : KegInv t := by
  refine kegInv_idle ?_ ?_ ?_ ?_ <;> simp [fresh, LogRuns.nil]

/-- Every command keeps the invariant. -/
theorem kegInv_exec {c : Instr} {s t : State} (next : exec c s = .next t) (inv : KegInv s) : KegInv t := by
  have leak (x : State) (inv : KegInv x) : KegInv (updateLeak x) := inv.stands (by simp)
  have command {n : CommandName} {h : Header} {tag : Byte} {args : List Byte}
      (next : exec (n.row h tag args) s = .next t) : KegInv t :=
    perform_keeps ((exec_row n h tag args s).symm.trans next) leak (fun _ inv => inv.commandFrame n h tag args) inv
  cases c <;> have run := next <;> dsimp only [exec] at run
  case powerOn p =>
    cases run
    exact kegInv_fresh (by rw [powerOn_eq]; rfl)
  case rstnHeldLow =>
    cases run
    exact kegInv_fresh rfl
  case setupItem => exact command (n := .setupItem) next
  case start => exact command (n := .start) next
  case restart => exact command (n := .restart) next
  case forceOutput => exact command (n := .forceOutput) next
  case writeStep => exact command (n := .writeStep) next
  case readStep => exact command (n := .readStep) next
  case switchBank => exact command (n := .switchBank) next
  case advance => exact command (n := .advance) next
  case pauseProfile => exact command (n := .pauseProfile) next
  case resumeProfile => exact command (n := .resumeProfile) next
  case stopProfile => exact command (n := .stopProfile) next
  case clearSupply => exact command (n := .clearSupply) next
  case setLevel => exact command (n := .setLevel) next
  case armPortion => exact command (n := .armPortion) next
  case readPour => exact command (n := .readPour) next
  case dropPours => exact command (n := .dropPours) next
  case readView => exact command (n := .readView) next
  case quiet => exact command (n := .quiet) next
  case wake => exact command (n := .wake) next
  case clearAlarms => exact command (n := .clearAlarms) next
  case leaveSafe => exact command (n := .leaveSafe) next
  all_goals refine perform_keeps run leak (fun _ inv => ?_) inv
  case handlePress => exact inv.ite fun _ => inv.pressHandle
  case tailTimerEnd => exact inv.ite fun _ => inv.completePour
  case event10ms => exact KegInv.ite (inv.stands (by simp)) fun _ => inv
  case receiveBayState | receiveDraw | receiveCoolCap | receivePour | receiveGroupSync | unknownCommand =>
    refine inv.acceptFrame fun x inv => inv.stands ?_
    (repeat' split) <;> simp [queueResult, refuse]
  case auxLineChange line _ => cases line <;> exact inv.ite fun _ => inv.stands (by simp)
  case event100ms | event1s | event1min | event1h | handleRelease | extStopActive | extStopInactive | heaterOnTimeEnd
      | glycolOpenTimeEnd | reportTimer | idleTimerExpiry | pulseTimerEnd | settleEnd | settleWindowEnd
      | keepTimerPeriod | backoffEnd | recoverEnd | stallTimerStart | stallTimerEnd | lowPressureTimerEnd
      | portionExpiry | busIdle | txAttemptStart | firstStartBit =>
    exact inv.ite fun _ => inv.stands (by simp)
  case flowPulse | durationElapsed | frameDiscarded | peerPartExpiry => exact inv.stands (by simp)
  case arbitrationLost | bitError =>
    split
    exacts [inv, inv.ite fun _ => inv.stands (by simp)]
  case frameSent =>
    split
    exacts [inv.stands (by simp), inv]

/-- Settles O15: the command taken keeps the invariant, in which the commands that wait have no part. A denial, a tail's
end and a RESTART bring the number to come into the log; a grant takes it into the pour. -/
theorem kegLevelAndLogKept : Obligations.KegLevelAndLogKept := by
  intro s t next inv
  unfold step at next
  split at next
  · cases next
    exact inv
  · exact kegInv_exec next inv

end Sys2Proof.Machine
end

section
/-! ## FLOWING and the serving bay, TAP and the forced outputs (R15, R21, R63, R66, R164 to R167, R172): O16

Whatever takes from the bay one of the conditions of R164 ends a pour in FLOWING in the same step. -/

namespace Sys2Proof.Machine

/-! ### What the operations of pour and regulation make of pour state and drive states -/

/-- A request is granted where no condition of R165 applies. -/
theorem denialReason_eq_none (s : State) :
    denialReason s = none ↔ Serving s ∧ s.sampling.lid.active = true ∧ s.sampling.drip.active = false ∧
      s.setup.reserve < s.disp.level ∧ s.sampling.beer.filtered.getD 0 ≤ s.setup.serveMax ∧
      s.setup.serveFloor ≤ (heldPressure s.sampling.transducer).getD 0 := by
  unfold denialReason Serving ServingApartFromKeg
  dsimp only
  cases station : s.sup.station
  case run =>
    split_ifs with _ _ _ _ sensors <;> simp_all
    tauto
  all_goals simp

@[simp] theorem endFlowing_flowing (r : EndReason) (s : State) : ((endFlowing r s).disp.state = .flowing) = False :=
  eq_false (endFlowing_not_flowing r s)

theorem flowPulse_flowing {s : State} (flowing : (flowPulse s).disp.state = .flowing) : s.disp.state = .flowing := by
  unfold flowPulse at flowing
  dsimp only at flowing
  (repeat' split at flowing) <;> simp_all

theorem stallEnd_not_flowing (s : State) : (stallEnd s).disp.state ≠ .flowing := by
  unfold stallEnd
  split <;> simp

/-- A probe that was GOOD and is not in FAULT is GOOD (R7). -/
theorem Probe.good_of_sample {p : Probe} {t : Int} {k : Nat} (good : p.state = .good)
    (sound : (p.sample t k).state ≠ .fault) : (p.sample t k).state = .good := by
  revert sound
  unfold sample
  dsimp only
  (repeat' split) <;> simp_all

/-- So is the transducer (R11). -/
theorem Transducer.good_of_sample {u : Transducer} {p fullScale : Int} (good : u.state = .good)
    (sound : (u.sample p fullScale).state ≠ .fault) : (u.sample p fullScale).state = .good := by
  revert sound
  unfold sample
  dsimp only
  (repeat' split) <;> simp_all

/-- A reading takes no change from its delivery (R13). -/
theorem Switch.read_undelivered {needed : Nat} {reading : Bool} {w : Switch}
    (h : (w.read needed reading).undelivered = false) : w.undelivered = false := by
  obtain ⟨-, read⟩ | ⟨-, -, read⟩ | ⟨-, -, read⟩ := w.read_cases needed reading <;> simp_all

/-! ### What leaves the beer probe, of the operations that take another input -/

@[simp] theorem evaluateWatch_beer (s : State) : (evaluateWatch s).sampling.beer = s.sampling.beer := by
  rw [evaluateWatch_sampling]

@[simp] theorem lineChanged_beer (n : Nat) (s : State) : (lineChanged n s).sampling.beer = s.sampling.beer := by
  rw [lineChanged_sampling]

@[simp] theorem changeLid_beer (s : State) : (changeLid s).sampling.beer = s.sampling.beer := by
  unfold changeLid
  dsimp only
  split <;> simp

@[simp] theorem changeDrip_beer (s : State) : (changeDrip s).sampling.beer = s.sampling.beer := by simp [changeDrip]

@[simp] theorem stopLineInactive_beer (s : State) : (stopLineInactive s).sampling.beer = s.sampling.beer := by
  simp [stopLineInactive_eq, stopCleared_sampling]

@[simp] theorem jacketSample_beer (raw : Nat) (s : State) : (jacketSample raw s).sampling.beer = s.sampling.beer := by
  simp [jacketSample_sampling]

/-! ### What leaves the pour state, the record handed or the drive states -/

/-- SET_LEVEL, ARM_PORTION and DROP_POURS begin and end no pour (R175, R176, R179). -/
@[simp] theorem setLevelReply_state (args : List Byte) (s : State) :
    (setLevelReply args s).state.disp.state = s.disp.state := by
  unfold setLevelReply
  (repeat' split) <;> rfl

@[simp] theorem armPortionReply_state (args : List Byte) (s : State) :
    (armPortionReply args s).state.disp.state = s.disp.state := by
  unfold armPortionReply
  dsimp only
  split
  · split_ifs <;> rfl
  · rfl

@[simp] theorem dropPoursReply_state (args : List Byte) (s : State) :
    (dropPoursReply args s).state.disp.state = s.disp.state := by
  unfold dropPoursReply
  split <;> rfl

/-- The need that arrives or ends with a forced INLET moves no output (R22). -/
theorem forceDrive_drivers (o : Output) (on : Bool) (s : State) :
    (forceDrive o on s).drivers = s.drivers.force o on := by
  unfold forceDrive
  dsimp only
  (repeat' split) <;> simp

/-- An output forced on or off leaves TAP free, where it is not TAP forced on (R21). -/
theorem Drivers.force_tap {x : Drivers} {o : Output} {on : Bool} (free : x.tap ≠ .forcedOn)
    (other : on = true → o ≠ .tap) : (x.force o on).tap ≠ .forcedOn := by
  cases on
  · cases o <;> simp [Drivers.force, Drivers.set, free]
  · cases o <;> simp_all [Drivers.force, Drivers.set, Output.partner]

theorem kegTaken_seq (s : State) : (kegTaken s).seq = s.seq := by
  unfold kegTaken
  split <;> simp

/-- A step's start places no output (R77). -/
theorem stepPlaced_drivers (index : Nat) (r : StepRecord) (s : State) : (stepPlaced index r s).drivers = s.drivers := by
  unfold stepPlaced
  dsimp only
  (repeat' split) <;> simp

/-- An evaluation of the regulation state drops a forced INLET at the most (R22, R136, R137). -/
theorem evaluateGas_dropsInlet (s : State) :
    (evaluateGas s).drivers = s.drivers ∨ (evaluateGas s).drivers = { s.drivers with inlet := .function } := by
  have dropped (x : State) :
      (dropForcedInlet x).drivers = x.drivers ∨ (dropForcedInlet x).drivers = { x.drivers with inlet := .function } := by
    unfold dropForcedInlet
    split <;> simp
  unfold evaluateGas moveGas enterGas
  split
  · exact .inl rfl
  · split
    case h_2 | h_3 => simpa using dropped (leaveGas s.gas.state (s.mapGas (·.moveTo (decideGas s))))
    all_goals simp

/-! ### The invariant and what it hangs on -/

/-- FLOWING only while serving, and no output forced that may not be (R21, R63, R66, R164). -/
def Served (s : State) : Prop := FlowInv s ∧ DriveInv s

/-- From `s` to `t` no pour begins, what FLOWING requires stands, and an INLET no longer forced is the only drive state that
may have moved. -/
@[simp] def ServiceStands (s t : State) : Prop :=
  (t.disp.state = .flowing → s.disp.state = .flowing) ∧ t.sup.station = s.sup.station ∧
    t.seq.current.map (·.gas.mode) = s.seq.current.map (·.gas.mode) ∧
    (s.sampling.beer.state = .good → t.sampling.beer.state = .good) ∧
    (s.sampling.transducer.state = .good → t.sampling.transducer.state = .good) ∧
    t.sampling.keg = s.sampling.keg ∧ t.sampling.levelsTaken = s.sampling.levelsTaken ∧
    (t.drivers = s.drivers ∨ t.drivers = { s.drivers with inlet := .function })

/-- The drive states stay where SETUP is not left, but for an INLET that drops (R22, R63). -/
theorem DriveInv.stands {s t : State} (inv : DriveInv s) (station : s.sup.station = .setup → t.sup.station = .setup)
    (drivers : t.drivers = s.drivers ∨ t.drivers = { s.drivers with inlet := .function }) : DriveInv t := by
  obtain ⟨tap, free⟩ := inv
  refine ⟨by rcases drivers with same | dropped <;> simp [*], fun away => ?_⟩
  have none := free fun setup => away (station setup)
  rcases drivers with same | dropped <;> simp [*]

/-- Every output in FUNCTION (R18). -/
theorem driveInv_free {t : State} (drivers : t.drivers = {}) : DriveInv t := ⟨by simp [drivers], fun _ => drivers⟩

/-- Without a pour in FLOWING there is nothing to require. -/
theorem FlowInv.dry {s t : State} (inv : FlowInv s) (dry : t.disp.state ≠ .flowing)
    (same : t.sampling.keg = s.sampling.keg ∧ t.sampling.levelsTaken = s.sampling.levelsTaken) : FlowInv t := by
  obtain ⟨keg, taken⟩ := same
  exact ⟨fun flowing => absurd flowing dry, keg ▸ taken ▸ inv.2⟩

section
variable {s : State} (inv : Served s)
include inv

theorem Served.stands {t : State} (same : ServiceStands s t) : Served t := by
  obtain ⟨flows, station, mode, beer, transducer, keg, taken, drivers⟩ := same
  obtain ⟨⟨serves, unread⟩, drives⟩ := inv
  refine ⟨⟨fun flowing => ?_, keg ▸ taken ▸ unread⟩, drives.stands (by simp [station]) drivers⟩
  obtain ⟨⟨run, serve, good, sound⟩, present⟩ := serves (flows flowing)
  exact ⟨⟨station.trans run, mode.trans serve, beer good, transducer sound⟩, keg ▸ present⟩

/-- A step that ends with no pour in FLOWING. -/
theorem Served.dry {t : State} (dry : t.disp.state ≠ .flowing)
    (same : t.sampling.keg = s.sampling.keg ∧ t.sampling.levelsTaken = s.sampling.levelsTaken ∧
      t.sup.station = s.sup.station ∧ (t.drivers = s.drivers ∨ t.drivers = { s.drivers with inlet := .function })) :
    Served t := by
  obtain ⟨keg, taken, station, drivers⟩ := same
  exact ⟨inv.1.dry dry ⟨keg, taken⟩, inv.2.stands (by simp [station]) drivers⟩

/-- A row that acts only on its occasion keeps the invariant where its action there does. -/
theorem Served.ite {t : State} {p : Prop} [Decidable p] (acts : p → Served t) : Served (if p then t else s) := by
  split
  · next occasion => exact acts occasion
  · exact inv

theorem Served.claimSent : Served (claimSent s) := inv.stands (by simp)

theorem Served.evaluateGas : Served (evaluateGas s) := inv.stands (by simpa using evaluateGas_dropsInlet s)

/-- A record handed anew is the sequencer's alone. -/
theorem Served.mapSeq {f : Sequencer → Sequencer} (same : (f s.seq).current = s.seq.current) : Served (s.mapSeq f) :=
  inv.stands (by simp [same])

/-! ### Pours -/

theorem Served.requestPour : Served (requestPour s) := by
  unfold Machine.requestPour
  split
  · exact inv.stands (by simp [denyPour])
  · next granted =>
    obtain ⟨⟨serves, keg⟩, -⟩ := (denialReason_eq_none s).1 granted
    refine ⟨⟨fun _ => ?_, by simpa using inv.1.2⟩, inv.2.stands (by simp) (by simp)⟩
    simpa [ServingApartFromKeg, handedMode, keg] using serves

theorem Served.completePour : Served (completePour s) := by
  have taken {x : State} (inv : Served x) : Served (takeDeferred x) := by
    have cleared : Served (x.mapDisp fun d => { d with deferred := false }) := inv.stands (by simp)
    unfold takeDeferred
    dsimp only
    (repeat' split)
    exacts [cleared.requestPour, cleared, inv]
  unfold Machine.completePour
  split
  · exact inv
  · exact taken (inv.dry (by simp) (by simp))

theorem Served.pressHandle : Served (pressHandle s) := by
  have pressed : Served (activityEvent .handle (s.mapSampling fun u => { u with handle := u.handle.deliver })) :=
    inv.stands (by simp)
  unfold Machine.pressHandle
  dsimp only
  split
  exacts [pressed.requestPour, pressed.stands (by simp), pressed]

/-! ### Samples and lines -/

theorem Served.beerSample (raw : Nat) : Served (beerSample raw s) := by
  unfold Machine.beerSample
  dsimp only
  split
  · refine inv.dry (by simp) ?_
    split <;> simp
  · next sound =>
    have read : Served (s.mapSampling fun u =>
        { u with beer := s.sampling.beer.sample (probeTemperature raw s.setup.beerOffset) s.setup.filterShift }) := by
      refine inv.stands ?_
      simp only [ServiceStands, State.mapSampling_disp, State.mapSampling_sup, State.mapSampling_seq,
        State.mapSampling_sampling, State.mapSampling_drivers, true_and, and_true, imp_self, true_or]
      exact fun good => Probe.good_of_sample good fun fault => sound ⟨fault, by simp [good]⟩
    refine read.stands ?_
    (repeat' split) <;> simp

theorem Served.pressureSample (raw : Nat) : Served (pressureSample raw s) := by
  unfold Machine.pressureSample
  dsimp only
  split
  · exact inv.dry (by simp) (by simp)
  · next sound =>
    have read : Served (s.mapSampling fun u =>
        { u with transducer :=
            s.sampling.transducer.sample (transducerPressure raw s.setup.fullScale) s.setup.fullScale }) := by
      refine inv.stands ?_
      simp only [ServiceStands, State.mapSampling_disp, State.mapSampling_sup, State.mapSampling_seq,
        State.mapSampling_sampling, State.mapSampling_drivers, true_and, and_true, imp_self, true_or]
      exact fun good => Transducer.good_of_sample good fun fault => sound ⟨fault, by simp [good]⟩
    exact read.ite fun _ => read.stands (by simp)

/-- The first reading finds no pour, and a later one moves KEG_PRESENT only with a change to deliver (R13, R15). -/
theorem Served.tenMsEvent (pins : SwitchPins) : Served (tenMsEvent pins s) := by
  have counted {x : State} (inv : Served x) : Served (countDurations x) := inv.stands (by simp [countDurations])
  unfold Machine.tenMsEvent
  dsimp only
  refine counted ?_
  obtain ⟨⟨serves, unread⟩, drives⟩ := inv
  split
  · next taken =>
    refine ⟨⟨fun flowing => ?_, fun untaken => ?_⟩, drives⟩
    · obtain ⟨serving, present⟩ := serves flowing
      refine ⟨serving, fun quiet => ?_⟩
      exact (Switch.read_active quiet).trans (present (Switch.read_undelivered quiet))
    · exact absurd (untaken.symm.trans taken) (by simp)
  · next untaken =>
    have gone : s.sampling.keg = {} := unread (by simpa using untaken)
    have unpoured : s.disp.state ≠ .flowing := fun flowing => by
      simpa [gone, Config.levelBeforeFirstReading] using (serves flowing).2
    obtain ⟨w, read, -⟩ := firstReading_sampling pins (s.mapTime (·.advance))
    refine ⟨⟨fun flowing => absurd ?_ unpoured, fun fresh => ?_⟩, drives.stands (by simp) (by simp)⟩
    · simpa using flowing
    · simp [read, takeLevels] at fresh

/-- A removed keg ends the pour (R15, R172). -/
theorem Served.changeKeg (change : s.sampling.keg.undelivered = true) : Served (changeKeg s) := by
  have taken : Served (kegTaken s) := by
    have read : s.sampling.levelsTaken = true := by
      by_contra untaken
      simp [inv.1.2 (by simpa using untaken)] at change
    have level : (kegTaken s).sampling.levelsTaken = true := by simp [kegTaken_sampling, read]
    refine ⟨⟨fun flowing => ?_, by simp [level]⟩, inv.2.stands (by simp [kegTaken_sup]) ?_⟩
    · cases keg : s.sampling.keg.active with
      | true =>
        rw [kegTaken_disp_stands (.inl keg)] at flowing
        obtain ⟨⟨run, mode, good, sound⟩, -⟩ := inv.1.1 flowing
        have handed : handedMode (kegTaken s) = handedMode s := by simp [handedMode, kegTaken_seq]
        refine ⟨⟨?_, handed.trans mode, ?_, ?_⟩, fun _ => ?_⟩
        all_goals simpa [kegTaken_sampling, kegTaken_sup]
      | false => simp [kegTaken_disp_of_gone keg] at flowing
    · unfold kegTaken
      split <;> simp
  rw [changeKeg_eq]
  exact taken.stands (by simp)

/-! ### Steps -/

theorem Served.takeUpMode (m : Option GasMode) : Served (takeUpMode m s) :=
  Served.evaluateGas (inv.ite fun _ => inv.stands (by simp))

/-- A start of a step ends a pour where the mode leaves SERVE (R78, R172). -/
theorem Served.beginStep {f : Sequencer → Sequencer} (i : Nat) (r : StepRecord) :
    Served (beginStep (handedMode s) i r (s.mapSeq f)) := by
  generalize placed : computeSetpoint (clearRing (stepPlaced i r (s.mapSeq f))) = x
  have same : x.disp = s.disp ∧ x.sup = s.sup ∧ x.sampling = s.sampling ∧ x.drivers = s.drivers := by
    subst placed
    simp [stepPlaced_frame, stepPlaced_rest, stepPlaced_drivers, clearRing]
  obtain ⟨disp, sup, sampling, drivers⟩ := same
  have poured : Served (stepPour (handedMode s) x) := by
    unfold stepPour
    split
    · exact inv.dry (by simp) (by simp [sup, sampling, drivers])
    · next serve =>
      obtain ⟨⟨serves, unread⟩, drives⟩ := inv
      refine ⟨⟨fun flowing => ?_, sampling ▸ unread⟩, drives.stands (by simp [sup]) (.inl drivers)⟩
      obtain ⟨⟨run, mode, sensors⟩, present⟩ := serves (disp ▸ flowing)
      exact ⟨⟨sup ▸ run, by simpa [mode] using serve, sampling ▸ sensors⟩, sampling ▸ present⟩
  have set : Served (stepSet (handedMode s) i r (s.mapSeq f)) := by
    rw [stepSet, placed]
    exact poured.stands (by simp)
  have told {x : State} (inv : Served x) : Served (updateLeak (stepTold r x)) := by
    refine inv.stands ?_
    unfold stepTold
    split <;> simp
  rw [beginStep_eq]
  exact told (set.takeUpMode _)

theorem Served.takeSwitch (n : Nat) : Served (takeSwitch n s) := by
  unfold Machine.takeSwitch
  dsimp only
  split
  exacts [inv, inv.beginStep _ _]

theorem Served.changeProfile {p : ProfileState} (still : p ≠ .idle) : Served (changeProfile p s) := by
  have changed : Served (s.mapSeq fun q => { q with profile := p }) := by
    obtain ⟨⟨serves, unread⟩, drives⟩ := inv
    refine ⟨⟨fun flowing => ?_, unread⟩, drives⟩
    obtain ⟨⟨run, mode, sensors⟩, present⟩ := serves flowing
    have busy : s.seq.profile ≠ .idle := fun idle => by simp [handedMode, Sequencer.current, idle] at mode
    have same := s.seq.current_of_profile busy still
    exact ⟨⟨run, (congrArg (Option.map fun r : StepRecord => r.gas.mode) same).trans mode, sensors⟩, present⟩
  exact changed.evaluateGas.stands (by simp [Machine.changeProfile])

theorem Served.endStep : Served (endStep s) := by
  unfold Machine.endStep
  split
  · exact inv.takeSwitch _
  · split
    exacts [inv.beginStep (f := id) _ _, inv.changeProfile (by simp)]

omit inv in
theorem Served.chain (n : Nat) {s : State} (inv : Served s) : Served (chain n s) := by
  induction n generalizing s with
  | zero => exact inv
  | succ n ih => exact inv.ite fun _ => ih inv.endStep

theorem Served.takeSwitchChain (n : Nat) : Served (takeSwitchChain n s) := (inv.takeSwitch n).chain _

theorem Served.endStepChain : Served (endStepChain s) := inv.endStep.chain _

theorem Served.elapseDuration : Served (elapseDuration s) :=
  inv.ite fun _ => Served.chain _ (inv.mapSeq rfl)

theorem Served.sequencerMinute (b : Bool) : Served (sequencerMinute b s) := by
  unfold Machine.sequencerMinute targetReached countMinute
  (repeat' split)
  exacts [Served.chain _ (inv.mapSeq rfl), inv, inv.mapSeq rfl, inv]

theorem Served.groupSyncAccepted (g : Nat) : Served (groupSyncAccepted g s) := by
  have synced : Served (groupSyncAtSequencer g s) := by
    unfold groupSyncAtSequencer
    (repeat' split)
    exacts [inv.takeSwitchChain _, inv.endStepChain, inv, inv.endStepChain, inv]
  exact synced.stands (by simp [Machine.groupSyncAccepted])

/-! ### The station -/

/-- In SAFE no pour flows, and nothing was forced before (R63, R192). -/
theorem Served.enterSafe (away : s.sup.station ≠ .setup) : Served (enterSafe s) := by
  have free := inv.2.2 away
  exact ⟨inv.1.dry (by simp [enterSafe_disp]) (by simp),
    driveInv_free (by rw [enterSafe_drivers (by simp [free]), free])⟩

/-- START frees every output, and finds no pour (R63). -/
theorem Served.startStation (setup : s.sup.station = .setup) : Served (startStation s) := by
  have unpoured : s.disp.state ≠ .flowing := fun flowing => by simpa [setup] using (inv.1.1 flowing).1.1
  refine ⟨inv.1.dry ?_ (by simp), driveInv_free (startStation_drivers s)⟩
  have ready : (startReady s).disp = s.disp := by
    unfold startReady
    dsimp only
    split <;> simp
  rw [startStation_eq]
  split
  · simp [enterSafe_disp]
  · simpa [startEntered, ready] using unpoured

/-- Nothing flows in SAFE, and nothing is forced there (R63, R193). -/
theorem Served.leaveSafeState (safe : s.sup.station = .safe) : Served (leaveSafeState s) := by
  have unpoured : s.disp.state ≠ .flowing := fun flowing => by simpa [safe] using (inv.1.1 flowing).1.1
  have free := inv.2.2 (by simp [safe])
  obtain ⟨-, -, -, -, -, drivers, -⟩ := runReentered_frame s
  refine ⟨inv.1.dry (by simpa [Machine.leaveSafeState] using unpoured) (by simp), driveInv_free ?_⟩
  rw [leaveSafeState_eq, (queueBayState_frame _).2.2.2.2.2.2.2.1]
  rw [evaluateGas_drivers (by simp [drivers, free]), drivers, free]

theorem Served.stopLineActive : Served (stopLineActive s) := by
  have raised : Served (stopRaised s) := inv.stands (by simp [stopRaised_frame])
  have entered : Served (stopEntered s) := raised.ite fun run => raised.enterSafe (by simp [run])
  rw [stopLineActive_eq]
  exact entered.stands (by simp)

/-- RESTART leaves IDLE, SETUP and every output in FUNCTION (R66). -/
theorem Served.restartStation : Served (Machine.restartStation s) := by
  obtain ⟨-, -, -, -, -, -, -, keg, -, -, -, disp⟩ := restartStation_keeps s
  obtain ⟨-, -, -, drivers, -⟩ := restartStation_resets s
  have taken : (Machine.restartStation s).sampling.levelsTaken = s.sampling.levelsTaken := by
    simp only [restartStation_rest, restarted_eq]
    rw [endPourAtRestart_eq]
    rfl
  exact ⟨inv.1.dry (by simp [disp]) ⟨keg, taken⟩, driveInv_free drivers⟩

theorem Served.stopProfile : Served (stopProfile s) := by
  unfold Machine.stopProfile
  split
  · exact inv.mapSeq rfl
  · have ended : Served (withdrawWindow (endFlowing .mode (s.mapSeq fun q =>
        { q with profile := .idle, index := 0, phase := none, count := 0, pendingSwitch := none }))) :=
      inv.dry (by simp) (by simp)
    exact ended.evaluateGas.stands (by simp)

/-! ### The events, the bus and the commands -/

theorem Served.hundredMsEvent (raw : Nat) (b : Bool) : Served (hundredMsEvent raw b s) := by
  have sensed : Served (pressureSensed raw s) :=
    Served.pressureSample (inv.stands (t := ceilingTaken s) (by simp [ceilingTaken])) raw
  have handed {x : State} (inv : Served x) (w : Bool) : Served (coordinatorHandOver w x) := inv.stands (by simp)
  have reacts : Served (reacted raw b s) := by
    unfold reacted handedOver
    split
    exacts [(handed sensed _).evaluateGas, handed sensed.evaluateGas _]
  rw [hundredMsEvent_eq]
  exact reacts.stands (by simp)

theorem Served.oneSecondEvent (m n : Nat) : Served (oneSecondEvent m n s) := by
  have taken : Served (s.mapTime fun t => { t with due1s := false }) := inv.stands (by simp)
  exact (taken.beerSample m).stands (by simp [Machine.oneSecondEvent])

theorem Served.oneMinuteEvent (b : Bool) : Served (oneMinuteEvent b s) := by
  have moved : Served (minuteTaken s).1 := inv.stands (by simp [minuteTaken])
  have windowed {x : State} (inv : Served x) : Served (windowDone x) := inv.stands (by simp [windowDone])
  have done : Served (minuteDone b s) := by
    unfold minuteDone
    split
    exacts [windowed (moved.sequencerMinute _).elapseDuration, (windowed moved).sequencerMinute _]
  rw [oneMinuteEvent_eq]
  exact done.stands (by simp)

theorem Served.oneHourEvent : Served (oneHourEvent s) := by
  have completed : Served (completeBucket (leakHour (s.mapTime fun t => { t with due1h := false }))) :=
    inv.stands (by simp)
  unfold Machine.oneHourEvent
  dsimp only
  split
  exacts [completed, completed.chain _]

/-- The own GROUP_SYNC sent reaches the own sequencer (R41). -/
theorem Served.completeSend (a : Attempt) (q : QFrame) (rest : List QFrame) : Served (completeSend a q rest s) := by
  have ended : Served (endAlarm .linkFault (s.mapLink fun l =>
      { l with queue := rest, attempt := none, bus := .busy, dropCount := 0,
               txDropped := l.txDropped && !(a.carriesTxDropped && !a.droppedSince) })) := inv.stands (by simp)
  have reported := ended.ite (p := q.liveClaim = true) fun _ => ended.claimSent
  unfold Machine.completeSend reportSend
  dsimp only
  split
  · exact reported.ite fun _ => reported.groupSyncAccepted _
  all_goals exact reported

theorem Served.acceptFrame {h : Header} {act : State → State} (acts : ∀ x, Served x → Served (act x)) :
    Served (acceptFrame h act s) :=
  acceptFrame_keeps (fun _ _ inv => inv.stands (by simp)) (fun _ inv => inv.stands (by simp))
    (fun _ _ _ inv => acts _ inv) inv

/-- FORCE_OUTPUT acts in SETUP alone, and never forces TAP on (R21). -/
theorem Served.forceOutputReply (args : List Byte) : Served (forceOutputReply args s).state := by
  unfold Machine.forceOutputReply
  split
  · exact inv
  · next setup =>
    have forced (o : Output) (on : Bool) (other : on = true → o ≠ .tap) : Served (forceDrive o on s) := by
      have station : (forceDrive o on s).sup.station = .setup := by simpa using setup
      refine ⟨inv.1.dry ?_ (by simp), ?_, fun away => absurd station away⟩
      · have unpoured : s.disp.state ≠ .flowing := fun flowing => setup (by simp [(inv.1.1 flowing).1.1])
        simpa using unpoured
      · rw [forceDrive_drivers]
        exact Drivers.force_tap inv.2.1 other
    (repeat' split)
    exacts [inv, inv, forced _ _ nofun, inv, inv, forced _ _ fun _ tap => by simp_all, inv]

theorem Served.recordSwitch (source start group : Nat) : Served (recordSwitch source start group s) := by
  unfold Machine.recordSwitch
  (repeat' split)
  exacts [inv.takeSwitchChain _, inv.mapSeq rfl, inv.mapSeq rfl]

theorem Served.reply (n : CommandName) (args : List Byte) : Served (n.reply args s).state := by
  cases n <;> dsimp only [CommandName.reply]
  case restart => exact inv.restartStation
  case start =>
    unfold startReply
    (repeat' split)
    exacts [inv, inv, inv.startStation (by simp_all)]
  case forceOutput => exact inv.forceOutputReply args
  case writeStep =>
    unfold writeStepReply
    (repeat' split)
    exacts [inv, inv, inv, inv.mapSeq (Sequencer.current_write ..), inv.mapSeq (Sequencer.current_write ..),
      inv.mapSeq (Sequencer.current_write ..), inv, inv]
  case switchBank =>
    unfold switchBankReply
    (repeat' split)
    exacts [inv, inv.mapSeq rfl, inv, inv, inv.recordSwitch _ _ _, inv.recordSwitch _ _ _, inv]
  case advance =>
    unfold advanceReply
    split
    exacts [inv.endStepChain, inv]
  case pauseProfile =>
    unfold pauseReply
    split
    exacts [inv.changeProfile (by simp), inv]
  case resumeProfile =>
    unfold resumeReply
    split
    exacts [(inv.changeProfile (by simp)).chain _, inv]
  case stopProfile => exact inv.stopProfile
  case leaveSafe =>
    unfold leaveSafeReply
    (repeat' split)
    exacts [inv, inv.stands (by simp [refuse]), inv.leaveSafeState (by simp_all)]
  case setupItem =>
    unfold setupItemReply storeItem
    (repeat' split) <;> exact inv.stands (by simp [refuse])
  all_goals exact inv.stands (by simp [answer])

theorem Served.commandFrame (n : CommandName) (h : Header) (tag : Byte) (args : List Byte) :
    Served (commandFrame n h tag args (n.reply args) s) :=
  commandFrame_keeps (fun _ _ inv => inv.stands (by simp)) (fun _ inv => inv.stands (by simp))
    (fun _ inv => inv.stands (by simp)) (fun _ _ inv => inv.stands (by simp)) (fun _ inv => inv.reply n args) inv

end

/-- A reset leaves no pour, no keg read and every output in FUNCTION (R68). -/
theorem served_fresh {t : State} (disp : t.disp = {}) (sampling : t.sampling = {}) (drivers : t.drivers = {}) :
    Served t :=
  ⟨⟨by simp [disp], by simp [sampling]⟩, driveInv_free drivers⟩

/-- Every command keeps the invariant. -/
theorem served_exec {c : Instr} {s t : State} (next : exec c s = .next t) (inv : Served s) : Served t := by
  have leak (x : State) (inv : Served x) : Served (updateLeak x) := inv.stands (by simp)
  have command {n : CommandName} {h : Header} {tag : Byte} {args : List Byte}
      (next : exec (n.row h tag args) s = .next t) : Served t :=
    perform_keeps ((exec_row n h tag args s).symm.trans next) leak (fun _ inv => inv.commandFrame n h tag args) inv
  cases c <;> have run := next <;> dsimp only [exec] at run
  case powerOn p =>
    cases run
    rw [powerOn_eq]
    exact served_fresh rfl rfl rfl
  case rstnHeldLow =>
    cases run
    exact served_fresh rfl rfl rfl
  case setupItem => exact command (n := .setupItem) next
  case start => exact command (n := .start) next
  case restart => exact command (n := .restart) next
  case forceOutput => exact command (n := .forceOutput) next
  case writeStep => exact command (n := .writeStep) next
  case readStep => exact command (n := .readStep) next
  case switchBank => exact command (n := .switchBank) next
  case advance => exact command (n := .advance) next
  case pauseProfile => exact command (n := .pauseProfile) next
  case resumeProfile => exact command (n := .resumeProfile) next
  case stopProfile => exact command (n := .stopProfile) next
  case clearSupply => exact command (n := .clearSupply) next
  case setLevel => exact command (n := .setLevel) next
  case armPortion => exact command (n := .armPortion) next
  case readPour => exact command (n := .readPour) next
  case dropPours => exact command (n := .dropPours) next
  case readView => exact command (n := .readView) next
  case quiet => exact command (n := .quiet) next
  case wake => exact command (n := .wake) next
  case clearAlarms => exact command (n := .clearAlarms) next
  case leaveSafe => exact command (n := .leaveSafe) next
  all_goals refine perform_keeps run leak (fun _ inv => ?_) inv
  case event10ms pins _ =>
    split
    exacts [inv, inv.tenMsEvent pins]
  case event100ms raw first _ => exact inv.ite fun _ => inv.hundredMsEvent raw first
  case event1s beer jacket _ => exact inv.ite fun _ => inv.oneSecondEvent beer jacket
  case event1min first _ => exact inv.ite fun _ => inv.oneMinuteEvent first
  case event1h => exact inv.ite fun _ => inv.oneHourEvent
  case handlePress => exact inv.ite fun _ => inv.pressHandle
  case handleRelease => exact inv.ite fun _ => inv.dry (by simp [releaseHandle]) (by simp)
  case auxLineChange line _ =>
    cases line
    · exact inv.ite fun change => inv.changeKeg change
    · exact inv.ite fun _ => inv.stands (by simp)
    · exact inv.ite fun _ => inv.stands (by simp)
  case extStopActive => exact inv.ite fun _ => inv.stopLineActive
  case flowPulse => exact inv.stands (by simpa using flowPulse_flowing)
  case durationElapsed => exact inv.elapseDuration
  case settleEnd => exact inv.ite fun _ => Served.evaluateGas (inv.stands (by simp))
  case stallTimerEnd => exact inv.ite fun _ => inv.dry (stallEnd_not_flowing s) (by simp)
  case lowPressureTimerEnd => exact inv.ite fun _ => inv.dry (by simp) (by simp)
  case tailTimerEnd => exact inv.ite fun _ => inv.completePour
  case frameSent =>
    split
    exacts [inv.completeSend _ _ _, inv]
  case receiveGroupSync =>
    refine inv.acceptFrame fun x inv => ?_
    (repeat' split)
    exacts [inv.groupSyncAccepted _, inv]
  case receiveBayState | receiveDraw | receiveCoolCap | receivePour | unknownCommand =>
    refine inv.acceptFrame fun x inv => inv.stands ?_
    (repeat' split) <;> simp [queueResult, refuse]
  case extStopInactive | heaterOnTimeEnd | glycolOpenTimeEnd | reportTimer | idleTimerExpiry | pulseTimerEnd
      | settleWindowEnd | keepTimerPeriod | backoffEnd | recoverEnd | stallTimerStart | portionExpiry | busIdle
      | txAttemptStart | firstStartBit =>
    exact inv.ite fun _ => inv.stands (by simp)
  case frameDiscarded | peerPartExpiry => exact inv.stands (by simp)
  case arbitrationLost | bitError =>
    split
    exacts [inv, inv.ite fun _ => inv.stands (by simp)]

/-- TAP open is a pour in FLOWING, where TAP is not forced on (R18). -/
theorem flowing_of_tapPin {s : State} (tap : s.drivers.tap ≠ .forcedOn) (on : tapPin s = true) :
    s.disp.state = .flowing := by
  unfold tapPin Drive.apply at on
  cases drive : s.drivers.tap <;> simp_all

/-- Settles O16: the command taken keeps the invariant, in which the commands that wait have no part; and under it an open
TAP is a pour in FLOWING. -/
theorem pourOnlyWhileServing : Obligations.PourOnlyWhileServing := by
  refine ⟨fun s t next inv => ?_, fun s flow drive on => ?_⟩
  · unfold step at next
    split at next
    · cases next
      exact inv
    · exact served_exec next inv
  · have flowing := flowing_of_tapPin drive.1 on
    exact ⟨flowing, flow.1 flowing⟩

end Sys2Proof.Machine
end

section
/-! ## A request and what becomes of it (R165 to R167, R174, R180) -/

namespace Sys2Proof.Machine

/-! ### The conditions of R165 -/

/-- The conditions of R165 are formed of the station state, the handed mode, the samples but the handle, the level and the
setup items. -/
theorem denialReason_congr {s t : State} (station : t.sup.station = s.sup.station) (seq : t.seq = s.seq)
    (setup : t.setup = s.setup) (sampling : t.sampling = { s.sampling with handle := t.sampling.handle })
    (level : t.disp.level = s.disp.level) : denialReason t = denialReason s := by
  unfold denialReason handedMode
  rw [station, seq, setup, sampling, level]

/-- R165's table in RUN and SERVE, from the keg on. -/
theorem denialReason_serving {s : State} (run : s.sup.station = .run) (mode : handedMode s = some .serve) :
    denialReason s =
      if !s.sampling.keg.active then some .noKeg
      else if !s.sampling.lid.active then some .lidOpen
      else if s.sampling.drip.active then some .dripFull
      else if s.sampling.beer.state ≠ .good ∨ s.sampling.transducer.state ≠ .good then some .fault
      else if s.disp.level ≤ s.setup.reserve then some .emptyKeg
      else if s.setup.serveMax < s.sampling.beer.filtered.getD 0 then some .warm
      else if (heldPressure s.sampling.transducer).getD 0 < s.setup.serveFloor then some .lowPressure
      else none := by
  simp [denialReason, run, mode]

/-! ### A denial -/

/-- The record of a denied request (R166). -/
def denialRecord (reason : DenyReason) (s : State) : PourRecord :=
  { number := s.disp.nextNumber, startMinute := s.time.uptime, duration := 0, volume := 0, outcome := .denied reason,
    temperature := s.sampling.beer.filtered, pressure := heldPressure s.sampling.transducer, portion := s.disp.portion }

/-- The dispense unit with that record in its log (R166). -/
def deniedDispense (reason : DenyReason) (s : State) : Dispense :=
  ({ s.disp with nextNumber := nextPourNumber s.disp.nextNumber } : Dispense).joinLog (denialRecord reason s)

theorem requestPour_denied {s : State} {reason : DenyReason} (denied : denialReason s = some reason) :
    requestPour s = { s with disp := deniedDispense reason s } := by
  rw [requestPour, denied]
  rfl

/-! ### A grant -/

/-- The pour of a granted request (R167). -/
def grantedPour (s : State) : Pour :=
  { number := s.disp.nextNumber, startMinute := s.time.uptime, temperature := s.sampling.beer.filtered,
    pressure := heldPressure s.sampling.transducer, portion := s.disp.portion, reason := none, elapsed := 0 }

/-- The dispense unit in FLOWING with that pour (R167, R170). -/
def grantedDispense (s : State) : Dispense :=
  { s.disp with
    state := .flowing, pulses := 0, pour := some (grantedPour s), nextNumber := nextPourNumber s.disp.nextNumber,
    portion := none, portionTimer := none, stallDelay := some 300, stallTimer := none, lowTimer := none,
    tailTimer := none }

theorem requestPour_granted {s : State} (granted : denialReason s = none) :
    requestPour s = formUrgency (queueFrame (.pourStart s.disp.nextNumber) { s with disp := grantedDispense s }) := by
  rw [requestPour, granted]
  rfl

@[simp] theorem requestPour_sup (s : State) : (requestPour s).sup = s.sup := by
  cases denied : denialReason s with
  | none => simp [requestPour_granted denied]
  | some reason => simp [requestPour_denied denied]

theorem requestPour_granted_disp {s : State} (granted : denialReason s = none) :
    (requestPour s).disp = grantedDispense s := by
  simp [requestPour_granted granted]

/-- A pour in FLOWING has the urgency PRIORITY (R147). -/
theorem requestPour_granted_urgency {s : State} (granted : denialReason s = none) :
    (requestPour s).draw.urgency = .priority := by
  obtain ⟨⟨⟨run, mode, -⟩, -⟩, -⟩ := (denialReason_eq_none s).1 granted
  have handed : s.seq.current.map (·.gas.mode) = some .serve := mode
  simp only [requestPour_granted granted, formUrgency_urgency, presentUrgency, handedMode, queueFrame_frame, handed]
  simp [run, grantedDispense]

/-- The frame of a block joins a queue that has room (R28, R30). -/
theorem queueFrame_queued {f : Frame} {s : State} (loud : s.link.silent = false) (room : s.link.firmCount < 6) :
    f ∈ (queueFrame f s).link.queue.map (·.frame) :=
  enqueue_takes (f := { frame := f }) loud room

theorem requestPour_granted_queued {s : State} (granted : denialReason s = none) (loud : s.link.silent = false)
    (room : s.link.firmCount < 6) : .pourStart s.disp.nextNumber ∈ (requestPour s).link.queue.map (·.frame) := by
  rw [requestPour_granted granted]
  exact (FramesKept.refl _).formUrgency _ rfl rfl
    (queueFrame_queued (s := { s with disp := grantedDispense s }) loud room)

theorem FramesKept.requestPour {s t : State} (h : FramesKept s t) : FramesKept s (requestPour t) := by
  cases denied : denialReason t with
  | none =>
    have poured : FramesKept s { t with disp := grantedDispense t } := h
    rw [requestPour_granted denied]
    exact (poured.queueFrame _).formUrgency
  | some reason =>
    rw [requestPour_denied denied]
    exact h

/-! ### The press -/

/-- A press taken, with its activity event (R14). -/
def handleTaken (s : State) : State :=
  activityEvent .handle { s with
    sampling := { s.sampling with handle := { s.sampling.handle with undelivered := false } } }

@[simp] theorem handleTaken_frame (s : State) :
    (handleTaken s).held = s.held ∧ (handleTaken s).time = s.time ∧ (handleTaken s).setup = s.setup ∧
      (handleTaken s).sup.station = s.sup.station ∧
      (handleTaken s).sampling =
        { s.sampling with handle := { s.sampling.handle with undelivered := false } } ∧
      (handleTaken s).drivers = s.drivers ∧ (handleTaken s).view = s.view ∧ (handleTaken s).seq = s.seq ∧
      (handleTaken s).temp = s.temp ∧ (handleTaken s).cool = s.cool ∧ (handleTaken s).gas = s.gas ∧
      (handleTaken s).draw = s.draw ∧ (handleTaken s).disp = s.disp ∧
      (handleTaken s).link.silent = s.link.silent ∧ (handleTaken s).sup.active = s.sup.active ∧
      (handleTaken s).sup.latched = s.sup.latched := by
  simp [handleTaken]

theorem handleTaken_firmCount (s : State) : (handleTaken s).link.firmCount ≤ s.link.firmCount :=
  activityEvent_firmCount .handle { s with
    sampling := { s.sampling with handle := { s.sampling.handle with undelivered := false } } }

/-- A press keeps the conditions of R165. -/
theorem denialReason_handleTaken (s : State) : denialReason (handleTaken s) = denialReason s :=
  denialReason_congr (by simp) (by simp) (by simp) (by simp) (by simp)

/-- It keeps what a denial records (R166). -/
theorem deniedDispense_handleTaken (reason : DenyReason) (s : State) :
    deniedDispense reason (handleTaken s) = deniedDispense reason s := by
  simp [deniedDispense, denialRecord]

/-- The branches of a press in the pour states (R165, R174). -/
theorem pressHandle_eq (s : State) :
    pressHandle s =
      match (handleTaken s).disp.state with
      | .idle => requestPour (handleTaken s)
      | .tailing => (handleTaken s).mapDisp fun d => { d with deferred := true }
      | .flowing => handleTaken s := rfl

section
variable {s : State} (up : s.held = false) (undelivered : s.sampling.handle.undelivered = true)
include up undelivered

theorem exec_handlePress_delivers (active : s.sampling.handle.active = true) :
    exec .handlePress s = .next (updateLeak (pressHandle s)) :=
  perform_due (p := fun s => s.sampling.handle.changedTo true) pressHandle up
    (by simp [Switch.changedTo, undelivered, active])

/-- A press in IDLE is a request (R165). -/
theorem exec_handlePress_idle (active : s.sampling.handle.active = true) (idle : s.disp.state = .idle) :
    exec .handlePress s = .next (updateLeak (requestPour (handleTaken s))) := by
  have taken : (handleTaken s).disp.state = .idle := by simpa using idle
  rw [exec_handlePress_delivers up undelivered active, pressHandle_eq, taken]

/-- A press in TAILING is deferred (R174). -/
theorem exec_handlePress_tailing (active : s.sampling.handle.active = true) (tailing : s.disp.state = .tailing) :
    exec .handlePress s = .next (updateLeak { handleTaken s with disp := { s.disp with deferred := true } }) := by
  have disp : (handleTaken s).disp = s.disp := by simp
  rw [exec_handlePress_delivers up undelivered active, pressHandle_eq, disp, tailing, State.mapDisp, disp]

theorem exec_handleRelease_delivers (released : s.sampling.handle.active = false) :
    exec .handleRelease s = .next (updateLeak (endFlowing .handle { s with
      sampling := { s.sampling with handle := { s.sampling.handle with undelivered := false } } })) :=
  perform_due (p := fun s => s.sampling.handle.changedTo false) releaseHandle up
    (by simp [Switch.changedTo, undelivered, released])

end
end Sys2Proof.Machine
end

section
/-! ### Handle presses and releases: O34, O35 -/

namespace Sys2Proof.Machine

/-- Settles O34: the request that a press makes, and R165's table row by row. -/
theorem pressDenied : Obligations.PressDenied := by
  refine ⟨fun reason s up active undelivered idle denied => ?_, fun s => ⟨fun safe => ?_, fun setup => ?_,
    fun run other => ?_, fun run mode => ?_⟩⟩
  · rw [exec_handlePress_idle up undelivered active idle,
      requestPour_denied ((denialReason_handleTaken s).trans denied), deniedDispense_handleTaken]
    rfl
  · simp [denialReason, safe]
  · simp [denialReason, setup]
  · simp [denialReason, run, other]
  · rw [denialReason_serving run mode]
    refine ⟨fun gone => by simp [gone], fun keg open_ => by simp [keg, open_],
      fun keg lid full => by simp [keg, lid, full],
      fun keg lid dry => ⟨fun faulty => ?_, fun f p good sound beer pressure => ?_⟩⟩
    · simp [keg, lid, dry, faulty]
    · simp only [keg, lid, dry, good, sound, beer, pressure]
      refine ⟨fun empty => ?_, fun full warm => ?_, fun full cool low => ?_, fun full cool high => ?_⟩
      · simp [empty]
      · simp [Nat.not_le.2 full, warm]
      · simp [Nat.not_le.2 full, Int.not_lt.2 cool, low]
      · simp [Nat.not_le.2 full, Int.not_lt.2 cool, Int.not_lt.2 high]

/-- A pour in FLOWING requests TAP (R164). -/
theorem tapPin_flowing {s : State} (up : s.held = false) (run : s.sup.station = .run) (flowing : s.disp.state = .flowing) :
    tapPin s = s.drivers.tap.apply true := by
  simp [tapPin, up, run, flowing]

/-- Without one TAP is closed, but where it is forced on (R18). -/
theorem tapPin_closed {s : State} (dry : s.disp.state ≠ .flowing) (free : s.drivers.tap ≠ .forcedOn) :
    tapPin s = false := by
  by_contra on
  exact dry (flowing_of_tapPin free (by simpa using on))

theorem updateLeak_disp (s : State) : (updateLeak s).disp = s.disp := by simp

/-- A pour in progress rules the leak check out (R142). -/
theorem updateLeak_pouring {s : State} (busy : s.disp.state ≠ .idle) :
    (updateLeak s).gas = { s.gas with leak := .off } := by
  have off : leakConditions s = false := by simp [leakConditions, busy]
  simp [updateLeak, off]

/-- Settles O35: the request that a press makes in IDLE and the end of FLOWING, with what each leaves. -/
theorem pressGrantedOrDeferredAndRelease : Obligations.PressGrantedOrDeferredAndRelease := by
  refine ⟨fun f p s up active undelivered idle serving lid drip full beer cool pressure high => ?_,
    fun s up => ⟨fun active undelivered tailing => ?_, fun released undelivered dry => ?_,
      fun released undelivered flowing => ?_⟩⟩
  · have run : s.sup.station = .run := serving.1.1
    have granted : denialReason (handleTaken s) = none := by
      rw [denialReason_handleTaken, denialReason_eq_none, beer, pressure]
      exact ⟨serving, lid, drip, full, cool, high⟩
    have disp := requestPour_granted_disp granted
    have flowing : (requestPour (handleTaken s)).disp.state = .flowing := by rw [disp]; rfl
    have next : nextPourNumber s.disp.nextNumber =
        if s.disp.nextNumber ≥ 4294967295 then 1 else s.disp.nextNumber + 1 := rfl
    refine ⟨_, exec_handlePress_idle up undelivered active idle, ?_, ?_, ?_, fun loud short => ?_, ?_⟩
    · simp [disp, grantedDispense, grantedPour, beer, pressure, next]
    · rw [tapPin_flowing (by simpa using up) (by simpa using run) (by simpa using flowing)]
      simp
    · simpa using requestPour_granted_urgency granted
    · have firm := (handleTaken_firmCount s).trans s.link.firmCount_le_length
      simpa using requestPour_granted_queued granted (by simpa using loud) (by omega)
    · rw [updateLeak_pouring (by simp [flowing])]
      simp [run]
  · exact exec_handlePress_tailing up undelivered active tailing
  · rw [exec_handleRelease_delivers up undelivered released, endFlowing, if_neg (by exact dry)]
  · refine ⟨_, exec_handleRelease_delivers up undelivered released, ?_, by simp, fun free => ?_, by simp⟩
    · simp [endFlowing_disp, flowing]
    · exact tapPin_closed (by simp) (by simpa using free)

end Sys2Proof.Machine
end

section
/-! ## The flow meter (R17, R168 to R170): O37 -/

namespace Sys2Proof.Machine

/-- A pulse counted in FLOWING, where it starts a running stall timer afresh (R168, R170). -/
def pulseCounted (s : State) : State :=
  { s with disp := { s.disp with
      pulses := min 65535 (s.disp.pulses + 1), stallTimer := begunAgain 200 s.disp.stallTimer } }

/-- A timer that has not run out is begun again as it runs or is stopped (R5). -/
theorem begunAgain_eq_map {n : Nat} {t : Timer} (running : t ≠ some 0) : begunAgain n t = t.map fun _ => n := by
  match t with
  | none => rfl
  | some 0 => exact absurd rfl running
  | some (k + 1) => rfl

/-- A pulse that brings the volume to the portion ends the pour with PORTION, whatever the maximum (R169). -/
theorem flowPulse_portion {s : State} {p : Pour} {v : Nat} (flowing : s.disp.state = .flowing)
    (pour : s.disp.pour = some p) (portion : p.portion = some v) (met : v ≤ volumeNow (pulseCounted s)) :
    flowPulse s = endFlowing .portion (pulseCounted s) := by
  have met' : v ≤ meteredVolume (min 65535 (s.disp.pulses + 1)) s.setup.flowFactor := met
  unfold flowPulse
  rw [flowing]
  dsimp only
  rw [if_pos (by simp [pour, portion, volumeNow, met'])]
  rfl

/-- One that brings it to the maximum pour alone ends it with LIMIT (R169). -/
theorem flowPulse_limit {s : State} {p : Pour} (flowing : s.disp.state = .flowing) (pour : s.disp.pour = some p)
    (unmet : ∀ v, p.portion = some v → volumeNow (pulseCounted s) < v)
    (met : s.setup.maxPour ≤ volumeNow (pulseCounted s)) :
    flowPulse s = endFlowing .limit (pulseCounted s) := by
  have unmet' : ∀ v, p.portion = some v → meteredVolume (min 65535 (s.disp.pulses + 1)) s.setup.flowFactor < v := unmet
  unfold flowPulse
  rw [flowing]
  dsimp only
  rw [if_neg, if_pos (by exact met)]
  · rfl
  · cases portion : p.portion with
    | none => simp [pour, portion]
    | some v => simpa [pour, portion, volumeNow] using unmet' v portion

/-- What the end of a pour by a pulse makes of the dispense unit (R169). -/
theorem endFlowing_pulseCounted_disp {s : State} {p : Pour} (reason : EndReason) (flowing : s.disp.state = .flowing)
    (pour : s.disp.pour = some p) :
    (endFlowing reason (pulseCounted s)).disp =
      { s.disp with
        state := .tailing, pulses := min 65535 (s.disp.pulses + 1), pour := some { p with reason := some reason },
        stallDelay := none, stallTimer := none, lowTimer := none, tailTimer := some 100 } := by
  simp [endFlowing_disp, pulseCounted, flowing, pour]

/-- Settles O37: a pulse's row in each pour state. -/
theorem flowPulseCounts : Obligations.FlowPulseCounts := by
  intro s up
  have row : exec .flowPulse s = .next (updateLeak (flowPulse s)) := perform_running _ up
  refine ⟨fun idle => ?_, fun tailing => ?_, fun p flowing pour => ⟨fun unmet room running => ?_,
    fun v portion met => ?_, fun unmet met => ?_⟩⟩
  · rw [row, flowPulse, idle]
  · rw [row, flowPulse, tailing]
    rfl
  · rw [row, flowPulse_counts flowing pour unmet room, State.mapDisp, begunAgain_eq_map running]
    rfl
  · refine ⟨_, row, ?_⟩
    rw [updateLeak_disp, flowPulse_portion flowing pour portion met]
    exact endFlowing_pulseCounted_disp _ flowing pour
  · refine ⟨_, row, ?_⟩
    rw [updateLeak_disp, flowPulse_limit flowing pour unmet met]
    exact endFlowing_pulseCounted_disp _ flowing pour

end Sys2Proof.Machine
end

section
/-! ## The ends of a pour (R169 to R174, R177, R180): O41 -/

namespace Sys2Proof.Machine

/-! ### The end of FLOWING at a timer -/

/-- The row of a timer that ends FLOWING (R164, R170, R171). -/
theorem pourEndedByTimer {s : State} {p : Pour} (reason : EndReason) (flowing : s.disp.state = .flowing)
    (pour : s.disp.pour = some p) :
    let t := updateLeak (endFlowing reason s)
    t.disp = { s.disp with
        state := .tailing, pour := some { p with reason := some reason }, stallDelay := none, stallTimer := none,
        lowTimer := none, tailTimer := some 100 } ∧
      (s.drivers.tap ≠ .forcedOn → tapPin t = false) ∧ t.sup = s.sup ∧ t.temp = s.temp ∧ t.cool = s.cool ∧
      t.seq = s.seq ∧ t.setup = s.setup ∧ t.sampling = s.sampling ∧ t.view = s.view ∧ t.time = s.time ∧
      t.drivers = s.drivers := by
  refine ⟨?_, fun free => tapPin_closed (by simp) (by simpa using free), ?_⟩
  · simp [endFlowing_disp, flowing, pour]
  · simp

theorem exec_stallTimerEnd_runsOut {s : State} (up : s.held = false) (flowing : s.disp.state = .flowing)
    (out : s.disp.stallTimer = some 0) : exec .stallTimerEnd s = .next (updateLeak (stallEnd s)) :=
  perform_due (p := stallTimeUp) stallEnd up (by simp [stallTimeUp, due, flowing, out])

theorem exec_lowPressureTimerEnd_runsOut {s : State} (up : s.held = false) (flowing : s.disp.state = .flowing)
    (out : s.disp.lowTimer = some 0) :
    exec .lowPressureTimerEnd s = .next (updateLeak (endFlowing .lowPressure s)) :=
  perform_due (p := lowPressureTimeUp) (endFlowing .lowPressure) up (by simp [lowPressureTimeUp, due, flowing, out])

theorem exec_tailTimerEnd_runsOut {s : State} (up : s.held = false) (tailing : s.disp.state = .tailing)
    (out : s.disp.tailTimer = some 0) : exec .tailTimerEnd s = .next (updateLeak (completePour s)) :=
  perform_due (p := tailTimeUp) completePour up (by simp [tailTimeUp, due, tailing, out])

/-! ### The end of the tail -/

/-- The dispense unit with the pour recorded and the level without its volume (R173). -/
def pourDone (reason : EndReason) (p : Pour) (s : State) : Dispense :=
  { s.disp.joinLog (pourRecord p (volumeNow s) reason) with
    level := if reason = .empty then 0 else s.disp.level - volumeNow s, state := .idle, pulses := 0, pour := none,
    tailTimer := none }

/-- The completed pour handed on, before a deferred request is looked at (R173, R180). -/
def pourClosed (reason : EndReason) (p : Pour) (s : State) : State :=
  formUrgency (queueFrame (.pourEnd p.number (min 65535 (volumeNow s)) (.poured reason))
    { s with disp := pourDone reason p s })

theorem completePour_eq {s : State} {p : Pour} {reason : EndReason} (pour : s.disp.pour = some p)
    (ended : p.reason = some reason) : completePour s = takeDeferred (pourClosed reason p s) := by
  rw [completePour, pour]
  dsimp only
  rw [ended]
  rfl

@[simp] theorem pourClosed_frame (reason : EndReason) (p : Pour) (s : State) :
    (pourClosed reason p s).held = s.held ∧ (pourClosed reason p s).time = s.time ∧
      (pourClosed reason p s).setup = s.setup ∧ (pourClosed reason p s).sup = s.sup ∧
      (pourClosed reason p s).sampling = s.sampling ∧ (pourClosed reason p s).drivers = s.drivers ∧
      (pourClosed reason p s).view = s.view ∧ (pourClosed reason p s).seq = s.seq ∧
      (pourClosed reason p s).temp = s.temp ∧ (pourClosed reason p s).cool = s.cool ∧
      (pourClosed reason p s).link.silent = s.link.silent ∧ (pourClosed reason p s).disp = pourDone reason p s := by
  simp [pourClosed]

/-- Its POUR(END) and a CLAIM are all that it queues. -/
theorem pourClosed_firmCount (reason : EndReason) (p : Pour) (s : State) :
    (pourClosed reason p s).link.firmCount ≤ s.link.firmCount + 2 := by
  have urgency := formUrgency_firmCount (queueFrame (.pourEnd p.number (min 65535 (volumeNow s)) (.poured reason))
    { s with disp := pourDone reason p s })
  have frame := queueFrame_firmCount (.pourEnd p.number (min 65535 (volumeNow s)) (.poured reason))
    { s with disp := pourDone reason p s }
  exact urgency.trans (Nat.succ_le_succ frame)

theorem pourClosed_queued (reason : EndReason) (p : Pour) (s : State) :
    Queued (.pourEnd p.number (min 65535 (volumeNow s)) (.poured reason)) s (pourClosed reason p s) := by
  intro loud short
  have room := s.link.firmCount_le_length
  exact (FramesKept.refl _).formUrgency _ rfl rfl
    (queueFrame_queued (s := { s with disp := pourDone reason p s }) loud (show s.link.firmCount < 6 by omega))

/-! ### The deferred request (R174) -/

/-- The state without its deferred request. -/
def deferralTaken (s : State) : State := { s with disp := { s.disp with deferred := false } }

/-- Without a deferred request, or with its handle released since, nothing is tested. -/
theorem takeDeferred_withdrawn {s : State} (gone : s.disp.deferred = false ∨ handleStillHeld s = false) :
    takeDeferred s = deferralTaken s := by
  unfold takeDeferred
  rcases deferred : s.disp.deferred with _ | _
  · rw [if_neg (by simp), deferralTaken, ← deferred]
  · rw [deferred] at gone
    exact (if_pos rfl).trans (if_neg (by simpa [handleStillHeld] using gone))

theorem takeDeferred_tested {s : State} (deferred : s.disp.deferred = true) (held : handleStillHeld s = true) :
    takeDeferred s = requestPour (deferralTaken s) :=
  (if_pos deferred).trans (if_pos held)

/-- The state in which a deferred request is tested. -/
def tailOver (reason : EndReason) (p : Pour) (s : State) : State := deferralTaken (pourClosed reason p s)

@[simp] theorem tailOver_frame (reason : EndReason) (p : Pour) (s : State) :
    (tailOver reason p s).held = s.held ∧ (tailOver reason p s).time = s.time ∧
      (tailOver reason p s).setup = s.setup ∧ (tailOver reason p s).sup = s.sup ∧
      (tailOver reason p s).sampling = s.sampling ∧ (tailOver reason p s).drivers = s.drivers ∧
      (tailOver reason p s).view = s.view ∧ (tailOver reason p s).seq = s.seq ∧
      (tailOver reason p s).temp = s.temp ∧ (tailOver reason p s).cool = s.cool ∧
      (tailOver reason p s).link = (pourClosed reason p s).link ∧
      (tailOver reason p s).disp = { pourDone reason p s with deferred := false } := by
  simp [tailOver, deferralTaken]

theorem denialReason_tailOver (reason : EndReason) (p : Pour) (s : State) :
    denialReason (tailOver reason p s) = denialReason { s with disp := { pourDone reason p s with deferred := false } } :=
  denialReason_congr (by simp) (by simp) (by simp) (by simp) (by simp)

section
variable {s : State} {p : Pour} {reason : EndReason} (up : s.held = false) (tailing : s.disp.state = .tailing)
  (out : s.disp.tailTimer = some 0) (pour : s.disp.pour = some p) (ended : p.reason = some reason)
include up tailing out pour ended

/-- The tail's end without a request that its handle still holds (R173). -/
theorem exec_tailTimerEnd_withdrawn
    (gone : s.disp.deferred = false ∨ s.sampling.handle.active = false ∨ s.sampling.handle.undelivered = true) :
    exec .tailTimerEnd s = .next (updateLeak (tailOver reason p s)) := by
  rw [exec_tailTimerEnd_runsOut up tailing out, completePour_eq pour ended, takeDeferred_withdrawn, tailOver]
  rcases gone with gone | gone | gone <;> simp [pourDone, handleStillHeld, gone]

/-- The tail's end with one (R174). -/
theorem exec_tailTimerEnd_tested (deferred : s.disp.deferred = true) (active : s.sampling.handle.active = true)
    (delivered : s.sampling.handle.undelivered = false) :
    exec .tailTimerEnd s = .next (updateLeak (requestPour (tailOver reason p s))) := by
  rw [exec_tailTimerEnd_runsOut up tailing out, completePour_eq pour ended, takeDeferred_tested, tailOver]
  · simpa [pourDone] using deferred
  · simp [handleStillHeld, active, delivered]

end

/-- A request tested at the tail's end and denied has a record of its own (R166, R174). -/
theorem tailOver_denied {reason : EndReason} {p : Pour} {s : State} {why : DenyReason}
    (denied : denialReason { s with disp := { pourDone reason p s with deferred := false } } = some why) :
    (requestPour (tailOver reason p s)).disp =
      ({ pourDone reason p s with
          deferred := false, nextNumber := nextPourNumber s.disp.nextNumber } : Dispense).joinLog
        (denialRecord why s) := by
  rw [requestPour_denied ((denialReason_tailOver reason p s).trans denied)]
  simp [deniedDispense, denialRecord, pourDone]

section
variable {reason : EndReason} {p : Pour} {s : State}
  (granted : denialReason { s with disp := { pourDone reason p s with deferred := false } } = none)
include granted

/-- One that is granted has a pour of its own (R167, R174). -/
theorem tailOver_granted_disp :
    (requestPour (tailOver reason p s)).disp =
      { pourDone reason p s with
        deferred := false, state := .flowing, pour := some (grantedPour s),
        nextNumber := nextPourNumber s.disp.nextNumber, portion := none, portionTimer := none, stallDelay := some 300,
        stallTimer := none, lowTimer := none } := by
  rw [requestPour_granted_disp ((denialReason_tailOver reason p s).trans granted)]
  simp [grantedDispense, grantedPour, pourDone]

theorem tailOver_granted_queued :
    Queued (.pourStart s.disp.nextNumber) s (requestPour (tailOver reason p s)) := by
  intro loud short
  have closed := pourClosed_firmCount reason p s
  have room := s.link.firmCount_le_length
  simpa [pourDone] using requestPour_granted_queued ((denialReason_tailOver reason p s).trans granted) (by simpa using loud)
    (by simp; omega)

end

/-- Settles O41: the timers that end FLOWING, the tail's end with and without a deferred request, the rules of the log. -/
theorem pourTimerEnds : Obligations.PourTimerEnds := by
  unfold Obligations.PourTimerEnds
  refine ⟨?_, ?_, ?_, fun r d => ⟨fun one => Dispense.joinLog_one one d, Dispense.joinLog_room, Dispense.joinLog_full⟩,
    rfl, fun n small => if_neg (by simpa [maxPourNumber] using small)⟩
  · intro c reason p s up flowing pour left cause
    have atEnd := pourEndedByTimer reason flowing pour
    rcases cause with ⟨rfl, out, low, rfl⟩ | ⟨rfl, out, high, rfl⟩ | ⟨rfl, out, rfl⟩
    · exact ⟨_, (exec_stallTimerEnd_runsOut up flowing out).trans (by rw [stallEnd, if_pos (by exact low)]), atEnd⟩
    · exact ⟨_, (exec_stallTimerEnd_runsOut up flowing out).trans
        (by rw [stallEnd, if_neg (by exact not_le.2 high)]), atEnd⟩
    · exact ⟨_, exec_lowPressureTimerEnd_runsOut up flowing out, atEnd⟩
  · intro reason p s up tailing out pour ended gone volume
    refine ⟨_, exec_tailTimerEnd_withdrawn up tailing out pour ended gone, pourClosed_queued reason p s, ?_, ?_⟩
    · exact (updateLeak_disp _).trans (by simp [pourDone, volumeNow, meteredVolume, pourRecord, volume])
    · simp
  · intro reason p s up tailing out pour ended deferred active delivered volume done temperature pressure
    refine ⟨_, exec_tailTimerEnd_tested up tailing out pour ended deferred active delivered, fun loud short => ?_,
      fun why denied => ?_, fun granted => ⟨?_, ?_⟩, ?_⟩
    · exact (FramesKept.refl (tailOver reason p s)).requestPour _ rfl rfl (pourClosed_queued reason p s loud short)
    · exact (updateLeak_disp _).trans (tailOver_denied denied)
    · exact (updateLeak_disp _).trans (tailOver_granted_disp granted)
    · exact tailOver_granted_queued granted
    · simp

end Sys2Proof.Machine
end

section
/-! ## SET_LEVEL, ARM_PORTION and DROP_POURS (R175, R176, R179): O58 -/

namespace Sys2Proof.Machine

/-! ### The replies -/

theorem setLevelReply_busy {hi lo : Byte} {s : State} (busy : s.disp.state ≠ .idle) :
    setLevelReply [hi, lo] s = refuse .busy s := if_pos busy

theorem setLevelReply_idle {hi lo : Byte} {s : State} (idle : s.disp.state = .idle) :
    setLevelReply [hi, lo] s =
      { state := { s with disp := { s.disp with level := min 20000 (word16 hi lo) } },
        code := if word16 hi lo ≤ 20000 then .done else .doneClamped, data := be16 (min 20000 (word16 hi lo)) } := by
  have range : (if maxLevel < word16 hi lo then ResultCode.doneClamped else .done) =
      if word16 hi lo ≤ 20000 then .done else .doneClamped := by
    simp only [← not_lt, ite_not]
    rfl
  rw [← range]
  exact if_neg (not_not.2 idle)

/-- A portion of 0 disarms (R175). -/
theorem armPortionReply_zero {hi lo : Byte} {s : State} (zero : word16 hi lo = 0) :
    armPortionReply [hi, lo] s =
      { state := { s with disp := { s.disp with portion := none, portionTimer := none } }, code := .done,
        data := be16 0 } := if_pos zero

theorem armPortionReply_pos {hi lo : Byte} {s : State} (asked : word16 hi lo ≠ 0) :
    armPortionReply [hi, lo] s =
      let v := max 30 (min 1000 (word16 hi lo))
      { state := { s with disp := { s.disp with portion := some v, portionTimer := some 6000 } },
        code := if v ≠ word16 hi lo then .doneClamped else if s.disp.portion = none then .done else .doneReplaced,
        data := be16 v } := by
  have replaced : (if s.disp.portion.isSome then ResultCode.doneReplaced else .done) =
      if s.disp.portion = none then .done else .doneReplaced := by
    cases s.disp.portion <;> rfl
  rw [← clampNat_eq_max_min (by decide), ← replaced]
  exact if_neg asked

theorem dropPoursReply_eq (n : Byte) (s : State) :
    dropPoursReply [n] s =
      let removed := min n.toNat s.disp.log.length
      { state := { s with disp := { s.disp with log := s.disp.log.drop removed, wrapped := false } },
        code := if s.disp.log.length < n.toNat then .doneClamped else .done,
        data := [byte removed, byte (s.disp.log.length - removed)] } := rfl

/-! ### The commands -/

section
variable {h : Header} {s : State} (tag : Byte) (addressed : Addressed h s)
include addressed

/-- A command that its block answers with `r` (R35). -/
theorem exec_row_answers {n : CommandName} {args : List Byte} {r : Reply} (reply : n.reply args (atDispatch s) = r)
    (length : args.length = n.argLength) (silent : ∀ x, (n.reply args x).state.link.silent = x.link.silent) :
    exec (n.row h tag args) s = .next (withResult h n.code tag r.code r.data r.state) := by
  rw [exec_row_addressed addressed length silent, reply]

theorem exec_setLevel_answers {hi lo : Byte} {r : Reply} (reply : setLevelReply [hi, lo] (atDispatch s) = r) :
    exec (.setLevel h tag [hi, lo]) s = .next (withResult h 0x30#8 tag r.code r.data r.state) :=
  exec_row_answers (n := .setLevel) tag addressed reply rfl fun x => by simp [CommandName.reply]

theorem exec_armPortion_answers {hi lo : Byte} {r : Reply} (reply : armPortionReply [hi, lo] (atDispatch s) = r) :
    exec (.armPortion h tag [hi, lo]) s = .next (withResult h 0x31#8 tag r.code r.data r.state) :=
  exec_row_answers (n := .armPortion) tag addressed reply rfl fun x => by simp [CommandName.reply]

theorem exec_dropPours_answers {n : Byte} {r : Reply} (reply : dropPoursReply [n] (atDispatch s) = r) :
    exec (.dropPours h tag [n]) s = .next (withResult h 0x33#8 tag r.code r.data r.state) :=
  exec_row_answers (n := .dropPours) tag addressed reply rfl fun x => by simp [CommandName.reply]

end

/-- Settles O58: the three commands' answers, from their replies. -/
theorem kegCommands : Obligations.KegCommands := by
  intro h tag hi lo s addressed n
  have disp : (atDispatch s).disp = s.disp := by simp
  refine ⟨fun busy => ?_, fun idle => ?_, fun zero => ?_, fun asked => ?_, ?_⟩
  · rw [exec_setLevel_answers tag addressed (setLevelReply_busy (by rwa [disp]))]
    rfl
  · rw [exec_setLevel_answers tag addressed (setLevelReply_idle (by rwa [disp])), disp]
    rfl
  · rw [exec_armPortion_answers tag addressed (armPortionReply_zero zero), disp]
  · rw [exec_armPortion_answers tag addressed (armPortionReply_pos asked), disp]
    rfl
  · rw [exec_dropPours_answers tag addressed (dropPoursReply_eq lo _), disp]

end Sys2Proof.Machine
end
